-- ==== Sys2Proof/Word.lean ====
section
/-! DEFINITION. Word.lean: the widths the manual fixes (bytes, 16-bit values, channels, codes) and the index types
of its fixed arrays. Plain synonyms, so that the library's lemmas about bit vectors apply. -/

namespace Sys2Proof

/-- One byte (3.2: "Byte values are 8 bits"). -/
abbrev Byte := BitVec 8

/-- A 16-bit value (R173). -/
abbrev Word16 := BitVec 16

/-- A channel 0..1023 (3.3); group masks have the same ten bits (R21). -/
abbrev Channel := BitVec 10

/-- A length code 0..3 (R6). -/
abbrev LengthCode := BitVec 2

/-- A rate code 0..3 (R3). -/
abbrev RateCode := BitVec 2

/-- An entry index 0..63; also the record and countdown index (R19, R64, R86). -/
abbrev EntryIndex := Fin 64

/-- A group index 0..15 (R21). -/
abbrev GroupIndex := Fin 16

/-- The entry indices in ascending order. -/
def entryIndices : List EntryIndex := List.finRange 64

end Sys2Proof
end

