-- ==== Sys2Proof/Config.lean ====
section
/-! DEFINITION. Config.lean: what one part of the family fixes and no command changes: the identity codes (R164) and
the strap levels of the one start that State.reset stands for. The manual leaves no value of the block open, so there
is no free value here (INVENTORY.md, What the manual leaves open). -/

namespace Sys2Proof

/-- Vendor code served by IDENT (R164). -/
def Config.vendorCode : Byte := 0xB5#8

/-- Part code served by IDENT (R164). -/
def Config.partCode : Word16 := 0x0264#16

/-- Revision served by IDENT (R164). -/
def Config.revision : Byte := 0x01#8

/-- DESIGN CHOICE (log 2), unsafe: the UNIT2..0 straps at the start that State.reset stands for. -/
def Config.resetUnit : BitVec 3 := 0#3

/-- DESIGN CHOICE (log 2), unsafe: the RATE1..0 straps at the start that State.reset stands for. -/
def Config.resetTrunkRate : RateCode := 0#2

end Sys2Proof
end

