-- ==== Sys2Proof/Syntax.lean ====
section
/-! DEFINITION. Syntax.lean: the commands of the block, one constructor for each row of spec/opcode_table.json, in the
table's order, with the operands each row brings: what a receiver, a pin or the line hands over at that event. -/

namespace Sys2Proof

/-- A character as a receiver hands it to its owner (R2): good, or marked FRAMING. -/
inductive RxChar where
  | good (value : Byte)
  | framing (value : Byte)
  deriving DecidableEq, Repr

/-- The strap pins as they stand at a start (R46): UNIT2..0 and RATE1..0. -/
structure Straps where
  unit : BitVec 3
  rate : RateCode
  deriving DecidableEq, Repr

/-- What a line did over a stretch of time: levels (`true` is high) one after another, each with how long it lasted, in
sixteenths of that line's bit time (R2 samples a bit at 7/16, 8/16 and 9/16 of its period; log 24). -/
abbrev Wave := List (Bool × Nat)

/-- The line of a TRUNK_BREAK that is written without one (log 24): a high of 1 bit time, then a low of 11. -/
def plainBreak : Wave := [(true, 16), (false, 176)]

/-- What a line did while the relay sent on it, up to the event of the row (R13, R14). `before`: from the last row that
brought this line to the beginning of the transmission. `during`: from the beginning of its first start bit, or of its
break or wake pulse, in which it counts sixteenths of a 250 µs step; where it ends before the transmission does, the
line goes on as sent (log 27). On the branch, `before` counts at the rate at which the branch ran until the transmission
begins, and `during` at the rate of the transaction, which may be a new one (R3, R125; log 29). -/
structure Transmission where
  before : Wave := []
  during : Wave := []
  deriving DecidableEq, Repr

/-- The line of a readback fault that is written without one (log 27): the first bit sent, a low, reads high. -/
def differingLine : Transmission := { during := [(true, 10)] }

/-- How the reception of a reply ends, on either segment (R10, R11): what the line did since the last row that brought
it, up to the end of the reception. `windowFirst`: where a character and the reply window end at the same moment, the
window is taken first (R11 allows either). -/
structure ReplyEnd where
  line : Wave
  windowFirst : Bool := false
  deriving DecidableEq, Repr

/-- Bytes 2..15 of a COMMAND record (R175): the 14 operand bytes. -/
abbrev Operands := Vector Byte 14

/-- The operand bytes of a COMMAND record and the line over which the trunk brought its 17 characters (R2, R10). -/
structure HeardOperands where
  bytes : Operands
  line : Wave
  deriving DecidableEq, Repr

/-- The commands and events of the block (spec/opcode_table.json), in the table's order. A COMMAND record brings its
tag (byte 1), its operand bytes and the line they came on; the constructor stands for its code (byte 0). A row that
reports something of a line brings what that line did since the last row that brought it, or since listening began
(log 24): breaks, headers and receptions as levels to be heard, the ends of the relay's own transmissions as a line to
be read back (log 27), lows of the branch nodes as levels to be timed (log 19); the header rows in two parts, up to the
header and over it. RESET_BRANCH also brings what the branch receiver was fed while the transaction or pulse it cuts
short was on the line (log 24). SAVE_COMPLETE brings whether the verify of the save matched (log 26). -/
inductive Instr where
  | powerOn (straps : Straps)
  | resetNAssert
  | resetNRelease (straps : Straps)
  | trunkBreak (line : Wave := plainBreak)
  | trunkHeaderError (delimiter header : Wave)
  | trunkValidHeader (delimiter header : Wave)
  | serveComplete (sent : Transmission := {})
  | trunkServeBitError (sent : Transmission := differingLine)
  | captureFailed (ending : ReplyEnd)
  | downlinkCapture (line : Wave)
  | streamWrite (line : Wave)
  | unknownCommand (code tag : Byte) (ops : HeardOperands)
  | nop (tag : Byte) (ops : HeardOperands)
  | clearFlags (tag : Byte) (ops : HeardOperands)
  | clearCounters (tag : Byte) (ops : HeardOperands)
  | setPointers (tag : Byte) (ops : HeardOperands)
  | writeEntry (tag : Byte) (ops : HeardOperands)
  | writeMask (tag : Byte) (ops : HeardOperands)
  | copyActive (tag : Byte) (ops : HeardOperands)
  | clearEdit (tag : Byte) (ops : HeardOperands)
  | commit (tag : Byte) (ops : HeardOperands)
  | writeRecord (tag : Byte) (ops : HeardOperands)
  | flushRecord (tag : Byte) (ops : HeardOperands)
  | refreshNow (tag : Byte) (ops : HeardOperands)
  | withdraw (tag : Byte) (ops : HeardOperands)
  | setOrder (tag : Byte) (ops : HeardOperands)
  | setTick (tag : Byte) (ops : HeardOperands)
  | setLine (tag : Byte) (ops : HeardOperands)
  | releaseLink (tag : Byte) (ops : HeardOperands)
  | resetBranch (tag : Byte) (ops : HeardOperands) (branch : Transmission := {})
  | sleepBranch (tag : Byte) (ops : HeardOperands)
  | wakeBranch (tag : Byte) (ops : HeardOperands)
  | testKey (tag : Byte) (ops : HeardOperands)
  | testExit (tag : Byte) (ops : HeardOperands)
  | saveConfig (tag : Byte) (ops : HeardOperands)
  | saveComplete (verified : Bool)
  | loadConfig (tag : Byte) (ops : HeardOperands)
  | loadComplete
  | restart (tag : Byte) (ops : HeardOperands) (straps : Straps)
  | forwardCharacterHandoff
  | relayTrunkComplete (sent : Transmission := {})
  | trunkForwardBitError (sent : Transmission := differingLine)
  | branchLineFault (sent : Transmission := differingLine)
  | branchBitError (sent : Transmission := differingLine)
  | branchHeaderSent (sent : Transmission := {})
  | relayCharacterReceived (line : Wave)
  | branchReplyEnd (ending : ReplyEnd)
  | publishDataSent (sent : Transmission := {})
  | gapEnd
  | tick
  | refreshCountdownExpiry (index : EntryIndex)
  | quarantineHoldExpiry
  | quarantineSample (first second third : Bool)
  | branchWakeDetected (before : Wave) (low : Nat)
  | wakePulseEnd (sent : Transmission := {})
  | wakePulseFault (sent : Transmission := differingLine)
  | settleExpiry
  | powerLoss
  | forwardedCharacterFinished (sent : Transmission := {})
  | startSequenceComplete
  deriving DecidableEq, Repr

end Sys2Proof
end

