-- ==== Sys2Proof/Decode.lean ====
section
/-! DEFINITION. Decode.lean: the host's decodeTableWord (no row of spec/opcode_table.json gives bits) and the command
codes of COMMAND records, with the command a 16-byte record stands for and the record of a command (R175). -/

namespace Sys2Proof

/-- No row of the table gives bits, so no word spells a command. -/
def decodeTableWord (_nbits _w : Nat) : Option Instr :=
  none

/-! ## Command codes (R175) -/

def Code.nop : Byte := 0x01#8
def Code.clearFlags : Byte := 0x02#8
def Code.clearCounters : Byte := 0x03#8
def Code.setPointers : Byte := 0x10#8
def Code.writeEntry : Byte := 0x11#8
def Code.writeMask : Byte := 0x12#8
def Code.copyActive : Byte := 0x13#8
def Code.clearEdit : Byte := 0x14#8
def Code.commit : Byte := 0x15#8
def Code.writeRecord : Byte := 0x20#8
def Code.flushRecord : Byte := 0x21#8
def Code.refreshNow : Byte := 0x30#8
def Code.withdraw : Byte := 0x31#8
def Code.setOrder : Byte := 0x32#8
def Code.setTick : Byte := 0x33#8
def Code.setLine : Byte := 0x40#8
def Code.releaseLink : Byte := 0x41#8
def Code.resetBranch : Byte := 0x42#8
def Code.sleepBranch : Byte := 0x50#8
def Code.wakeBranch : Byte := 0x51#8
def Code.testKey : Byte := 0x52#8
def Code.testExit : Byte := 0x53#8
def Code.saveConfig : Byte := 0x60#8
def Code.loadConfig : Byte := 0x61#8
def Code.restart : Byte := 0x62#8

/-- The 25 command codes (R175). -/
def commandCodes : List Byte :=
  [Code.nop, Code.clearFlags, Code.clearCounters, Code.setPointers, Code.writeEntry, Code.writeMask, Code.copyActive,
    Code.clearEdit, Code.commit, Code.writeRecord, Code.flushRecord, Code.refreshNow, Code.withdraw, Code.setOrder,
    Code.setTick, Code.setLine, Code.releaseLink, Code.resetBranch, Code.sleepBranch, Code.wakeBranch, Code.testKey,
    Code.testExit, Code.saveConfig, Code.loadConfig, Code.restart]

/-- The code is one of the 25 (R152, step 3). -/
def isCommandCode (code : Byte) : Bool :=
  commandCodes.contains code

/-- The command a COMMAND record stands for (R175): byte 0 is `code`, byte 1 `tag`, bytes 2..15 are in `ops`, with the
line they came on. `straps` are the strap levels that a RESTART would sample (R46), `branch` is what a RESET_BRANCH would
bring of the branch. -/
def commandOfRecord (straps : Straps) (branch : Transmission) (code tag : Byte) (ops : HeardOperands) : Instr :=
  if code = Code.nop then .nop tag ops
  else if code = Code.clearFlags then .clearFlags tag ops
  else if code = Code.clearCounters then .clearCounters tag ops
  else if code = Code.setPointers then .setPointers tag ops
  else if code = Code.writeEntry then .writeEntry tag ops
  else if code = Code.writeMask then .writeMask tag ops
  else if code = Code.copyActive then .copyActive tag ops
  else if code = Code.clearEdit then .clearEdit tag ops
  else if code = Code.commit then .commit tag ops
  else if code = Code.writeRecord then .writeRecord tag ops
  else if code = Code.flushRecord then .flushRecord tag ops
  else if code = Code.refreshNow then .refreshNow tag ops
  else if code = Code.withdraw then .withdraw tag ops
  else if code = Code.setOrder then .setOrder tag ops
  else if code = Code.setTick then .setTick tag ops
  else if code = Code.setLine then .setLine tag ops
  else if code = Code.releaseLink then .releaseLink tag ops
  else if code = Code.resetBranch then .resetBranch tag ops branch
  else if code = Code.sleepBranch then .sleepBranch tag ops
  else if code = Code.wakeBranch then .wakeBranch tag ops
  else if code = Code.testKey then .testKey tag ops
  else if code = Code.testExit then .testExit tag ops
  else if code = Code.saveConfig then .saveConfig tag ops
  else if code = Code.loadConfig then .loadConfig tag ops
  else if code = Code.restart then .restart tag ops straps
  else .unknownCommand code tag ops

/-- The COMMAND record of a command, as code, tag and the operand bytes with the line they came on (R175); none for the
rows that are not COMMAND records. -/
def recordOfCommand : Instr → Option (Byte × Byte × HeardOperands)
  | .unknownCommand code tag ops => some (code, tag, ops)
  | .nop tag ops => some (Code.nop, tag, ops)
  | .clearFlags tag ops => some (Code.clearFlags, tag, ops)
  | .clearCounters tag ops => some (Code.clearCounters, tag, ops)
  | .setPointers tag ops => some (Code.setPointers, tag, ops)
  | .writeEntry tag ops => some (Code.writeEntry, tag, ops)
  | .writeMask tag ops => some (Code.writeMask, tag, ops)
  | .copyActive tag ops => some (Code.copyActive, tag, ops)
  | .clearEdit tag ops => some (Code.clearEdit, tag, ops)
  | .commit tag ops => some (Code.commit, tag, ops)
  | .writeRecord tag ops => some (Code.writeRecord, tag, ops)
  | .flushRecord tag ops => some (Code.flushRecord, tag, ops)
  | .refreshNow tag ops => some (Code.refreshNow, tag, ops)
  | .withdraw tag ops => some (Code.withdraw, tag, ops)
  | .setOrder tag ops => some (Code.setOrder, tag, ops)
  | .setTick tag ops => some (Code.setTick, tag, ops)
  | .setLine tag ops => some (Code.setLine, tag, ops)
  | .releaseLink tag ops => some (Code.releaseLink, tag, ops)
  | .resetBranch tag ops _ => some (Code.resetBranch, tag, ops)
  | .sleepBranch tag ops => some (Code.sleepBranch, tag, ops)
  | .wakeBranch tag ops => some (Code.wakeBranch, tag, ops)
  | .testKey tag ops => some (Code.testKey, tag, ops)
  | .testExit tag ops => some (Code.testExit, tag, ops)
  | .saveConfig tag ops => some (Code.saveConfig, tag, ops)
  | .loadConfig tag ops => some (Code.loadConfig, tag, ops)
  | .restart tag ops _ => some (Code.restart, tag, ops)
  | .powerOn _ | .resetNAssert | .resetNRelease _ | .trunkBreak _ | .trunkHeaderError _ _ => none
  | .trunkValidHeader _ _ => none
  | .serveComplete _ | .trunkServeBitError _ | .captureFailed _ | .downlinkCapture _ | .streamWrite _ => none
  | .saveComplete _ | .loadComplete | .forwardCharacterHandoff | .relayTrunkComplete _ | .trunkForwardBitError _ => none
  | .branchLineFault _ | .branchBitError _ | .branchHeaderSent _ | .relayCharacterReceived _ | .branchReplyEnd _ => none
  | .publishDataSent _ | .gapEnd | .tick | .refreshCountdownExpiry _ | .quarantineHoldExpiry => none
  | .quarantineSample _ _ _ | .branchWakeDetected _ _ | .wakePulseEnd _ | .wakePulseFault _ | .settleExpiry => none
  | .powerLoss | .forwardedCharacterFinished _ | .startSequenceComplete => none

end Sys2Proof
end

