-- ==== Sys2Proof/Machine/State.lean ====
section
/-! DEFINITION. Machine/State.lean: every piece of state the manual gives the LR-264, block by block (2.1), as plain
data; the closed reasons a step can stop; and the state right after a start. -/

namespace Sys2Proof.Machine

/-! ## Route table (chapter 2) -/

/-- KIND of an entry (R20). LOCAL is written `localData`, since `local` is a word of Lean. -/
inductive EntryKind where
  | localData
  | cached
  | relayed
  | downlink
  | blocked
  deriving DecidableEq, Repr

/-- STORE_POLICY (R20). -/
inductive StorePolicy where
  | replace
  | hold
  deriving DecidableEq, Repr

/-- MISS_POLICY (R20). -/
inductive MissPolicy where
  | silent
  | repeat
  deriving DecidableEq, Repr

/-- A route entry with the fields of R20. -/
structure Entry where
  valid : Bool
  channel : Channel
  masked : Bool
  kind : EntryKind
  length : LengthCode
  branchChannel : Channel
  refresh : Byte
  demand : Bool
  staleLimit : Word16
  storePolicy : StorePolicy
  missPolicy : MissPolicy
  fallback : Bool
  priority : BitVec 2
  silentLimit : BitVec 4
  deriving DecidableEq, Repr

/-- A bank: 64 entries and 16 group masks (R19). -/
structure Bank where
  entries : Vector Entry 64
  masks : Vector Channel 16
  deriving DecidableEq, Repr

/-- The two banks (R19). -/
inductive BankId where
  | a
  | b
  deriving DecidableEq, Repr

/-- The two roles a bank can hold (R19); the entry read bank selects a role (R23). -/
inductive Role where
  | active
  | edit
  deriving DecidableEq, Repr

/-- State of the route table block (chapter 2): the banks, the bank holding the active role (the other holds the edit
role, R19), the three pointers (R23), the commit count (R42) and the commit pending indication (R38). -/
structure RouteTable where
  bankA : Bank
  bankB : Bank
  activeBank : BankId
  readBank : Role
  readIndex : EntryIndex
  writeIndex : Fin 65
  commitCount : Word16
  commitPending : Bool
  deriving DecidableEq, Repr

/-! ## Record store (chapter 4) -/

/-- STATE of a record (R64). -/
inductive RecordState where
  | empty
  | fresh
  | stale
  deriving DecidableEq, Repr

/-- SOURCE of a record's last capture (R64). -/
inductive Source where
  | branch
  | trunk
  | management
  deriving DecidableEq, Repr

/-- A record with the fields of R64. DATA is the empty list when STATE is EMPTY. -/
structure Record where
  state : RecordState
  data : List Byte
  age : Word16
  stamp : Word16
  source : Source
  version : Byte
  served : Byte
  pending : Bool
  fails : BitVec 4
  silent : Bool
  deriving DecidableEq, Repr

/-- The staging buffer's content: an index and the 8 bytes of a first half (R70). -/
structure Staging where
  index : EntryIndex
  bytes : List Byte
  deriving DecidableEq, Repr

/-- State of the record store block (chapter 4): the records, the record read pointer (R83; `readHalf` false is half
0) and the staging buffer (R70). -/
structure RecordStore where
  records : Vector Record 64
  readIndex : EntryIndex
  readHalf : Bool
  staging : Option Staging
  deriving DecidableEq, Repr

/-! ## Branch queue and poll scheduler (chapter 5) -/

/-- OP of a request or queue item (R90). -/
inductive QueueOp where
  | refresh
  | publish
  deriving DecidableEq, Repr

/-- ORIGIN of a request (R89). -/
inductive Origin where
  | periodic
  | demand
  | downlink
  | manual
  | retry
  deriving DecidableEq, Repr

/-- An item of the branch queue (R90). -/
structure QueueItem where
  entry : EntryIndex
  op : QueueOp
  origin : Origin
  cls : BitVec 2
  seq : Word16
  deriving DecidableEq, Repr

/-- An element of the deferred set (R91). -/
structure DeferredElement where
  entry : EntryIndex
  op : QueueOp
  origin : Origin
  deriving DecidableEq, Repr

/-- The order mode (R94). -/
inductive OrderMode where
  | arrival
  | index
  deriving DecidableEq, Repr

/-- State of the poll scheduler block (chapter 5). `tickPeriod` is the setting in ms, `runningPeriod` the period the
tick in progress began with (R85). The deferred set is kept as a list in ascending order of entry index. -/
structure Scheduler where
  tickPeriod : Byte
  runningPeriod : Byte
  tickCount : Word16
  countdowns : Vector Byte 64
  queue : List QueueItem
  deferred : List DeferredElement
  seqCounter : Word16
  order : OrderMode
  deriving DecidableEq, Repr

/-! ## Receivers (chapter 1) -/

/-- What a receiver is doing (R2, R5, R46). `quiet`: it first waits for a high of at least 1 bit time, at the start of
listening and after a break. `waiting`: for a falling edge, or for the line to read high before one. `character`: it
times a character, `elapsed` sixteenths of a bit time after its falling edge, with the samples taken so far.
`stopBit`: the stop bit has been sampled; `good` is the character to hand over at its end, if it has not been handed
over marked FRAMING. `held`: the trunk receiver holds a character whose stop bit read low. -/
inductive ReceiverPhase where
  | quiet
  | waiting
  | character (elapsed : Nat) (samples : List Bool)
  | stopBit (good : Option RxChar) (elapsed : Nat)
  | held (value : Byte) (elapsed : Nat)
  deriving DecidableEq, Repr

/-- A receiver (R2, R5): the level the line last read, for how many sixteenths of a bit time it has read so, counted as
far as a break or a delimiter takes, and what the receiver is doing. -/
structure Receiver where
  high : Bool
  lasted : Nat
  phase : ReceiverPhase
  deriving DecidableEq, Repr

/-- The trunk receiver when listening begins (R46): it has read nothing and first waits for a high of 1 bit time. -/
def Receiver.listening : Receiver :=
  { high := false, lasted := 0, phase := .quiet }

/-- The branch receiver after a start (R1): it has read nothing, and waits for a falling edge after a high. -/
def Receiver.started : Receiver :=
  { high := false, lasted := 0, phase := .waiting }

/-! ## Branch link controller and relayed transactions (chapters 6, 7, 8) -/

/-- BREAK_LEN (R4): 13 or 17 branch bit times. -/
inductive BreakLength where
  | bits13
  | bits17
  deriving DecidableEq, Repr

/-- Quarantine policy (R120, R121). -/
inductive QuarantinePolicy where
  | auto
  | hold
  deriving DecidableEq, Repr

/-- The six branch line settings (R124). -/
structure LineSettings where
  rate : RateCode
  breakLength : BreakLength
  policy : QuarantinePolicy
  qhold : Byte
  wakeLen : Byte
  settleLen : Byte
  deriving DecidableEq, Repr

/-- OP of the in-flight descriptor with the fields present for it (R105): ENTRY for REFRESH, PUBLISH and RELAY;
ORIGIN for REFRESH and PUBLISH; VERSION for PUBLISH, with the snapshot's DATA (R76). -/
inductive TransactionOp where
  | refresh (entry : EntryIndex) (origin : Origin)
  | publish (entry : EntryIndex) (origin : Origin) (version : Byte) (data : List Byte)
  | relay (entry : EntryIndex)
  | sleep
  deriving DecidableEq, Repr

/-- A transaction on the branch: the in-flight descriptor (R105) and the branch rate and BREAK_LEN that govern it
(R106). -/
structure Transaction where
  op : TransactionOp
  branchChannel : Channel
  length : LengthCode
  rate : RateCode
  breakLength : BreakLength
  deriving DecidableEq, Repr

/-- The nine link states (R104). The three states of a transaction hold its descriptor, which is empty at every other
time (R105). GAP holds the rate it is timed at (R118). WAKE_OUT holds the state its pulse began from, and the WAKE_LEN
and the branch rate in force then (R143, R125). -/
inductive LinkState where
  | idle
  | header (txn : Transaction)
  | replyWait (txn : Transaction)
  | dataOut (txn : Transaction)
  | gap (rate : RateCode)
  | quarantine
  | asleep
  | wakeOut (fromAsleep : Bool) (steps : Byte) (rate : RateCode)
  | wakeSettle
  deriving DecidableEq, Repr

/-- The mode flag (R104). -/
inductive LinkMode where
  | normal
  | loopback
  deriving DecidableEq, Repr

/-- The outcome of a branch transaction: SUCCESS or one of the error classes of section 1.6 (R113). -/
inductive BranchOutcome where
  | success
  | lineFault
  | bitError
  | framing
  | check
  | shortReply
  | noReply
  deriving DecidableEq, Repr

/-- A character to be forwarded on the trunk: a data character of the node's reply (R130) or the trunk check byte
(R132). -/
inductive ForwardChar where
  | data (value : Byte)
  | check (value : Byte)
  deriving DecidableEq, Repr

/-- The trunk side of a relay (R127): OPEN, with the trunk check register and the held characters, which are kept only
while it is open (R135), or ENDED. -/
inductive TrunkSide where
  | stillOpen (check : Byte) (held : List ForwardChar)
  | ended
  deriving DecidableEq, Repr

/-- The branch side of a relay (R127): OPEN, or ENDED with the outcome; `ended none` is a branch side abandoned by
RESET_BRANCH, which has no outcome (R122). -/
inductive BranchSide where
  | stillOpen
  | ended (outcome : Option BranchOutcome)
  deriving DecidableEq, Repr

/-- The relay context (R127). The received count is the length of `received`, the data characters received so far. -/
structure RelayContext where
  index : EntryIndex
  entry : Entry
  trunkH0 : Byte
  trunkH1 : Byte
  branchH0 : Byte
  branchH1 : Byte
  branchCheck : Byte
  received : List Byte
  trunkSide : TrunkSide
  branchSide : BranchSide
  deriving DecidableEq, Repr

/-- State of the branch link controller block (chapters 6 to 8). `sampling` says that the three samples after a hold
expiry are being taken (R120); `sleepFramePending` that a sleep frame waits for the end of a gap (R138); `responder`
is the reply the loopback responder formed at the end of H1 (R148); `receiver` is the branch receiver (R2), as the last
row that brought the branch line left it; `receiverRate` is the rate at which it ran then (R3): a rate that SET_LINE or
a load writes to `line` meanwhile waits there for the next transaction or wake pulse (R125); `sinceH1` counts the
sixteenths of a bit time since the end of the last H1 before a reply, for the reply window (R11); `outsideLow` is the
length of a low that began outside a frame, where the last row that brought the branch line left one under way, be it
through a wake pulse (R18, R145). The pending completion of SLEEP_BRANCH or WAKE_BRANCH is the pending-command slot
holding it (R153; log 12). -/
structure LinkController where
  state : LinkState
  mode : LinkMode
  score : Byte
  hold : Byte
  sampling : Bool
  settle : Byte
  relay : Option RelayContext
  sleepFramePending : Bool
  responder : Option (List Byte)
  line : LineSettings
  receiver : Receiver
  receiverRate : RateCode
  sinceH1 : Nat
  outsideLow : Option Nat
  deriving DecidableEq, Repr

/-! ## Trunk port (chapter 3) -/

/-- The supplier of a serve's snapshot, with what is kept for the report of R55: the record's index and the snapshot's
VERSION for a record serve. -/
inductive ServeSource where
  | record (index : EntryIndex) (version : Byte)
  | result
  | status
  | counters
  | entryRead
  | recordRead
  | ident
  deriving DecidableEq, Repr

/-- What a capture is for (R57): a DOWNLINK entry, with the copy of the entry from the lookup (R36), the COMMAND
channel or the STREAM WRITE channel. -/
inductive CaptureTarget where
  | downlink (index : EntryIndex) (entry : Entry)
  | command
  | streamWrite
  deriving DecidableEq, Repr

/-- The six states of the trunk port (R45), with what is held for the length of one frame. SERVE holds the reply being
sent, check byte included (R54). CAPTURE holds the header H0 H1, over which the publication's check byte is computed
(R9). FORWARD holds the character the trunk transmitter is sending, if any, those handed meanwhile, which wait in order,
and whether relayed transactions have said that nothing more will be handed (R61). -/
inductive PortState where
  | hunt
  | header
  | passive
  | serve (source : ServeSource) (reply : List Byte)
  | capture (target : CaptureTarget) (h0 h1 : Byte)
  | forward (sending : Option ForwardChar) (waiting : List ForwardChar) (nothingMore : Bool)
  deriving DecidableEq, Repr

/-- State of the trunk port block (chapter 3): the frame state (R45), the last header stamp (R48), the trunk rate code
sampled at the last start (R46), the trunk receiver (R2, R5) as the last row that brought the trunk line left it, and
the sixteenths of a bit time that had passed then since the end of the H1 of the last valid header, for the reply window
(R11). -/
structure TrunkPort where
  port : PortState
  stamp : Word16
  rate : RateCode
  receiver : Receiver
  sinceH1 : Nat
  deriving DecidableEq, Repr

/-! ## Management agent (chapter 9) -/

/-- The outcome codes of RESULT (R155, R176). -/
inductive CommandOutcome where
  | none
  | done
  | pending
  | busy
  | badCommand
  | badOperand
  | badState
  | badTable
  | notFound
  | inFlight
  | keyAccepted
  | keyRestart
  | linkFailed
  | aborted
  | storeFailed
  deriving DecidableEq, Repr

/-- The RESULT record (R155). Result data beyond the listed bytes read 0x00. -/
structure ResultRecord where
  tag : Byte
  code : Byte
  outcome : CommandOutcome
  refusals : Byte
  lastRefused : Byte
  data : List Byte
  deriving DecidableEq, Repr

/-- The holder of the pending-command slot, by its code and its tag (R153). -/
structure Slot where
  code : Byte
  tag : Byte
  deriving DecidableEq, Repr

/-- The eight counters (R160). -/
structure Counters where
  headers : Word16
  routed : Word16
  headerErrors : Word16
  served : Word16
  relayedOk : Word16
  relayRefused : Word16
  branchOk : Word16
  branchFailed : Word16
  deriving DecidableEq, Repr

/-- The test key sequence state (R146). -/
inductive KeyState where
  | none
  | key1
  | key2
  deriving DecidableEq, Repr

/-- State of the management agent block (chapter 9): the unit number that addresses the block (R151), the slot (R153),
RESULT (R155), the flag word (R158), the counters (R160) and the test key sequence state (R146). -/
structure Agent where
  unit : BitVec 3
  slot : Option Slot
  result : ResultRecord
  flags : Word16
  counters : Counters
  keyState : KeyState
  deriving DecidableEq, Repr

/-! ## Configuration store and start-up (chapter 10) -/

/-- What an image holds beside its integrity word (R168): table, masks, line settings, scheduler settings. -/
structure ImageContents where
  bank : Bank
  line : LineSettings
  tickPeriod : Byte
  order : OrderMode
  deriving DecidableEq, Repr

/-- The non-volatile image (R168). `unmatched`: contents that do not match their integrity word (no save completed
since manufacture, a save begun and not completed, or a save whose verify failed, R168, R169). `written`: contents and
the integrity word stored with them. -/
inductive Image where
  | unmatched
  | written (contents : ImageContents) (word : Word16)
  deriving DecidableEq, Repr

/-- The store state (chapter 10). SAVING holds the snapshot being programmed and the commit count at the snapshot
(R169). -/
inductive StoreState where
  | valid
  | invalid
  | saving (snapshot : ImageContents) (commitCount : Word16)
  | loading
  deriving DecidableEq, Repr

/-- The reset cause of the last start (R167). -/
inductive ResetCause where
  | powerOn
  | pin
  | restart
  deriving DecidableEq, Repr

/-- State of the configuration store block (chapter 10). -/
structure ConfigStore where
  image : Image
  store : StoreState
  cause : ResetCause
  deriving DecidableEq, Repr

/-- Supply, RESET_N and the start sequence (R166, R167). `off`: the supply is below its operating level; `resetLow`
says whether RESET_N is low meanwhile. `held`: the supply is in range and RESET_N low; `cause` is the cause of the start
its release will begin. `starting`: the start sequence runs. `running`: it has completed. -/
inductive Power where
  | off (resetLow : Bool)
  | held (cause : ResetCause)
  | starting
  | running
  deriving DecidableEq, Repr

/-! ## The machine -/

/-- The whole block: one field for each block of 2.1, the supply and reset pins, and the queue of waiting commands,
first in, first out. -/
structure State where
  power : Power
  route : RouteTable
  store : RecordStore
  sched : Scheduler
  link : LinkController
  trunk : TrunkPort
  agent : Agent
  config : ConfigStore
  pending : List Instr
  deriving DecidableEq, Repr

/-- Reasons to stop with a fault. There is none: every rule of the manual that turns something away lets the block go
on (a command outcome, a flag, an ignored event), so no step of the block faults. -/
inductive Fault where
  deriving DecidableEq, Repr

/-- Reasons for a refusal. -/
inductive Refusal where
  /-- Raised by exec's arm for a command that has no meaning yet; safe: no claim about the command can be proved. -/
  | notModelled (mnemonic : String)
  deriving DecidableEq, Repr

/-! ## The state after a start -/

/-- The cleared entry (R22). -/
def clearedEntry : Entry :=
  { valid := false, channel := 0#10, masked := false, kind := .blocked, length := 0#2, branchChannel := 0#10,
    refresh := 0#8, demand := false, staleLimit := 0#16, storePolicy := .replace, missPolicy := .silent,
    fallback := false, priority := 0#2, silentLimit := 1#4 }

/-- The cleared bank: the cleared entry throughout and the all-ones mask in every group (R22). -/
def clearedBank : Bank :=
  { entries := Vector.replicate 64 clearedEntry, masks := Vector.replicate 16 1023#10 }

/-- A record after every start (R66). -/
def startRecord : Record :=
  { state := .empty, data := [], age := 0#16, stamp := 0#16, source := .branch, version := 0#8, served := 0#8,
    pending := false, fails := 0#4, silent := false }

/-- The line settings without a valid image (R126, R166). -/
def defaultLine : LineSettings :=
  { rate := 1#2, breakLength := .bits13, policy := .auto, qhold := 50#8, wakeLen := 4#8, settleLen := 10#8 }

/-- The block right after its start sequence (R166) from power-on with an INVALID image, RESET_N high and the straps of
Config (log 1, log 2): the values each block's chapter gives after a start, RESTARTED (bit 15) and STORE_INVALID
(bit 12) set (R165). -/
def State.reset : State where
  power := .running
  route :=
    { bankA := clearedBank, bankB := clearedBank, activeBank := .a, readBank := .active, readIndex := 0,
      writeIndex := 0, commitCount := 0#16, commitPending := false }
  store := { records := Vector.replicate 64 startRecord, readIndex := 0, readHalf := false, staging := none }
  sched :=
    { tickPeriod := 10#8, runningPeriod := 10#8, tickCount := 0#16, countdowns := Vector.replicate 64 0#8,
      queue := [], deferred := [], seqCounter := 0#16, order := .arrival }
  link :=
    { state := .idle, mode := .normal, score := 0#8, hold := 0#8, sampling := false, settle := 0#8, relay := none,
      sleepFramePending := false, responder := none, line := defaultLine, receiver := Receiver.started,
      receiverRate := defaultLine.rate, sinceH1 := 0, outsideLow := none }
  trunk := { port := .hunt, stamp := 0#16, rate := Config.resetTrunkRate, receiver := Receiver.listening, sinceH1 := 0 }
  agent :=
    { unit := Config.resetUnit, slot := none,
      result := { tag := 0#8, code := 0#8, outcome := .none, refusals := 0#8, lastRefused := 0#8, data := [] },
      flags := 0x9000#16,
      counters :=
        { headers := 0#16, routed := 0#16, headerErrors := 0#16, served := 0#16, relayedOk := 0#16,
          relayRefused := 0#16, branchOk := 0#16, branchFailed := 0#16 },
      keyState := .none }
  config := { image := .unmatched, store := .invalid, cause := .powerOn }
  pending := []

end Sys2Proof.Machine
end

