-- ==== Sys2Proof/Machine/Line.lean ====
section
/-! DEFINITION. Machine/Line.lean: the polled line of chapter 1. Characters, headers, the check byte, the reply window
and the decisions the receivers and transmitters make on what they sample. What the receivers make of the line as it
goes by, receptions and transmissions stand in Receiver.lean. -/

namespace Sys2Proof.Machine

/-! ## Characters (R1, R2) -/

/-- The ten levels of a character on the line, in bit times: start bit low, eight data bits least significant first,
stop bit high (R1). -/
def characterLevels (b : Byte) : List Bool :=
  [false, b.getLsbD 0, b.getLsbD 1, b.getLsbD 2, b.getLsbD 3, b.getLsbD 4, b.getLsbD 5, b.getLsbD 6, b.getLsbD 7, true]

/-- The three samples of one bit period, at 7/16, 8/16 and 9/16 (R2). -/
abbrev Samples := Bool × Bool × Bool

/-- The majority of three samples (R2). -/
def majority (first second third : Bool) : Bool :=
  (first && second) || (first && third) || (second && third)

/-- The value of a bit by its three samples (R2). -/
def Samples.value (x : Samples) : Bool :=
  majority x.1 x.2.1 x.2.2

/-- The character value of data bits given least significant first (R2). -/
def byteOfLevels : List Bool → Byte
  | [] => 0#8
  | b :: rest => (byteOfLevels rest <<< 1) ||| (if b then 1#8 else 0#8)

/-- What a receiver makes of ten sampled bit periods (R2): nothing if the start bit reads high; otherwise a character,
good if the stop bit reads high and marked FRAMING if it reads low. -/
def receiveCharacter (start : Samples) (dataBits : List Samples) (stop : Samples) : Option RxChar :=
  if start.value then none
  else if stop.value then some (.good (byteOfLevels (dataBits.map Samples.value)))
  else some (.framing (byteOfLevels (dataBits.map Samples.value)))

/-! ## Rates (R3) -/

/-- The rate in bit/s of a rate code (R3); the bit time is its reciprocal. -/
def bitRate (code : RateCode) : Nat :=
  match code.toNat with
  | 0 => 9600
  | 1 => 19200
  | 2 => 38400
  | _ => 57600

/-! ## Breaks and delimiters (R4, R5) -/

/-- The length in bit times of the break the relay sends (R4). -/
def BreakLength.bits : BreakLength → Nat
  | .bits13 => 13
  | .bits17 => 17

/-- A low of this many trunk bit times is a break (R5). -/
def breakDetectBits : Nat := 11

/-- A high of at least this many trunk bit times after a break is a delimiter (R5); the trunk receiver begins listening
with one as well (R46). -/
def delimiterDetectBits : Nat := 1

/-- The delimiter the relay sends, in bit times (R4). -/
def delimiterBits : Nat := 2

/-! ## Headers (R6, R7) -/

/-- The high nibble of a byte. -/
def highNibble (b : Byte) : BitVec 4 :=
  b.extractLsb' 4 4

/-- The low nibble of a byte. -/
def lowNibble (b : Byte) : BitVec 4 :=
  b.extractLsb' 0 4

/-- The check nibble over H0 and the high nibble of H1 (R6). -/
def checkNibble (h0 : Byte) (h1High : BitVec 4) : BitVec 4 :=
  highNibble h0 ^^^ lowNibble h0 ^^^ h1High ^^^ 0x5#4

/-- H0 of a channel: its bits 9 to 2 (R6). -/
def headerH0 (channel : Channel) : Byte :=
  channel.extractLsb' 2 8

/-- The high nibble of H1: channel bits 1 and 0, then the length code (R6). -/
def headerH1High (channel : Channel) (length : LengthCode) : BitVec 4 :=
  channel.extractLsb' 0 2 ++ length

/-- H1 of a channel and a length code, check nibble included (R6). -/
def headerH1 (channel : Channel) (length : LengthCode) : Byte :=
  headerH1High channel length ++ checkNibble (headerH0 channel) (headerH1High channel length)

/-- The channel a header carries (R6). -/
def headerChannel (h0 h1 : Byte) : Channel :=
  h0 ++ h1.extractLsb' 6 2

/-- The length code a header carries (R6). -/
def headerLength (h1 : Byte) : LengthCode :=
  h1.extractLsb' 4 2

/-- What the trunk receiver makes of two header characters (R7). -/
inductive HeaderJudgement where
  | valid (h0 h1 : Byte)
  | framing
  | headerCheck
  deriving DecidableEq, Repr

/-- The judgement of R7, in its order: FRAMING in H0, FRAMING in H1, HEADER_CHECK, valid. -/
def judgeHeader (c0 c1 : RxChar) : HeaderJudgement :=
  match c0, c1 with
  | .framing _, _ => .framing
  | .good _, .framing _ => .framing
  | .good h0, .good h1 => if checkNibble h0 (highNibble h1) = lowNibble h1 then .valid h0 h1 else .headerCheck

/-! ## Replies and the check byte (R8, R9, R10, R11, R12) -/

/-- The number of data bytes a length code stands for (R6, R8). -/
def dataBytes (length : LengthCode) : Nat :=
  match length.toNat with
  | 0 => 2
  | 1 => 4
  | 2 => 8
  | _ => 16

/-- One bit into the CRC-8 register (R9, step 3). -/
def crc8Bit (register : Byte) (bit : Bool) : Byte :=
  if register.msb ^^ bit then (register <<< 1) ^^^ 0x1D#8 else register <<< 1

/-- One byte into the CRC-8 register, most significant bit first (R9). -/
def crc8Byte (register b : Byte) : Byte :=
  [7, 6, 5, 4, 3, 2, 1, 0].foldl (fun r i => crc8Bit r (b.getLsbD i)) register

/-- The CRC-8 register after `bytes`, from the start value 0xFF (R9). -/
def crc8 (bytes : List Byte) : Byte :=
  bytes.foldl crc8Byte 0xFF#8

/-- The check byte of a reply: the complement of the register over H0, H1 and the data (R9). -/
def checkByte (h0 h1 : Byte) (data : List Byte) : Byte :=
  ~~~ crc8 (h0 :: h1 :: data)

/-- The characters of a reply: the data bytes and the check byte (R8). -/
def replyCharacters (h0 h1 : Byte) (data : List Byte) : List Byte :=
  data ++ [checkByte h0 h1 data]

/-- The reply window W(n) in bit times from the end of H1 (R11). -/
def replyWindow (n : Nat) : Nat :=
  48 + 14 * (n + 1)

/-- What is left of the reply window of n data bytes, in sixteenths of a bit time, when that many have passed since the
end of H1 (R11). -/
def windowLeft (n sinceH1 : Nat) : Nat :=
  16 * replyWindow n - sinceH1

/-- The relay's reply start, in bit times after H1 (R12). -/
def replyStartBits : Nat := 2

/-- The levels the relay puts on the line in a reply slot, in bit times from the end of H1: two bit times released,
then the characters back to back (R12, R1). -/
def replyLevels (characters : List Byte) : List Bool :=
  List.replicate replyStartBits true ++ characters.flatMap characterLevels

/-- The levels of a branch frame up to the end of H1, in bit times: break, delimiter, H0, H1 (R4). -/
def headerLevels (breakLength : BreakLength) (h0 h1 : Byte) : List Bool :=
  List.replicate breakLength.bits false ++ List.replicate delimiterBits true ++ characterLevels h0 ++ characterLevels h1

/-! ## Readback (R4, R13, R14) -/

/-- The majority of the three samples of bit k on a line given in sixteenths of a bit time (R2, R13, R14); none where
the line ends before the third. -/
def bitReadBack (line : List Bool) (k : Nat) : Option Bool :=
  match line.drop (16 * k + 7) with
  | first :: second :: third :: _ => some (majority first second third)
  | _ => none

/-- Every bit of the levels sent reads back as sent (R13, R14). -/
def readsAsSent (sent line : List Bool) : Bool :=
  (List.range sent.length).all fun k => bitReadBack line k == some (sent.getD k true)

/-- The first bit whose readback differs from the level sent (R13, R14). -/
def firstDifference (sent line : List Bool) : Option Nat :=
  (List.range sent.length).find? fun k => bitReadBack line k == some (!sent.getD k true)

/-! ## Gap, sleep frame, wake (R15, R16, R17, R18) -/

/-- The inter-frame gap in branch bit times (R15). -/
def gapBits : Nat := 8

/-- The branch channel of the sleep frame (R16). -/
def sleepChannel : Channel := 1023#10

/-- The data bytes of the sleep frame (R16). -/
def sleepData : List Byte := [0x00#8, 0x00#8]

/-- The length of a wake pulse in microseconds (R17). -/
def wakePulseMicroseconds (wakeLen : Byte) : Nat :=
  250 * wakeLen.toNat

/-- Steps of a wake pulse in a second: each lasts 250 µs (R17). -/
def pulseStepsPerSecond : Nat := 4000

/-- The levels of a wake pulse, low in each of its steps (R17). -/
def pulseLevels (steps : Byte) : List Bool :=
  List.replicate steps.toNat false

/-- A stretch of line given in sixteenths of a wake pulse step, in sixteenths of a bit time at a rate: each of them reads
the level that stands where it begins (R3, R17; log 27). -/
def pulseAtRate (rate : RateCode) (line : List Bool) : List Bool :=
  (List.range ((line.length * bitRate rate + (pulseStepsPerSecond - 1)) / pulseStepsPerSecond)).map fun k =>
    line.getD (k * pulseStepsPerSecond / bitRate rate) false

/-- Lows are measured in sixteenths of a bit time at this rate, of which every rate of R3 is a whole part. -/
def measuringRate : Nat := 115200

/-- How long a sixteenth of a bit time at a rate lasts, so measured (R3). -/
def sixteenthLength (rate : RateCode) : Nat :=
  measuringRate / bitRate rate

/-- A low of that length is as long as a wake is (R18): 150 µs to 10 ms. -/
def isWake (length : Nat) : Bool :=
  decide (150 * (16 * measuringRate) ≤ 1000000 * length) && decide (1000000 * length ≤ 10000 * (16 * measuringRate))

/-- The low under way, by its length, after one more sixteenth of length `each` at a level. `high`: the level before it;
`low`: the low that was under way. A low that began before anything was measured has no length. -/
def lowStep (each : Nat) (high : Bool) (low : Option Nat) (level : Bool) : Option Nat :=
  if level then none else if high then some each else low.map (· + each)

/-- The low under way at the end of a stretch of line. -/
def lowUnderWay (each : Nat) (high : Bool) (low : Option Nat) : List Bool → Option Nat
  | [] => low
  | level :: rest => lowUnderWay each level (lowStep each high low level) rest

/-- The lows that end in a stretch of line, by their lengths, in order. -/
def lowsEnded (each : Nat) (high : Bool) (low : Option Nat) : List Bool → List Nat
  | [] => []
  | level :: rest => (if level then low.toList else []) ++ lowsEnded each level (lowStep each high low level) rest

/-- A stretch of line, then a low of so many sixteenths and the return to high. -/
def lowAfter (before : Wave) (low : Nat) : Wave :=
  before ++ [(false, low), (true, 1)]

end Sys2Proof.Machine
end

