-- ==== Sys2Proof/Machine/Receiver.lean ====
section
/-! DEFINITION. Machine/Receiver.lean: the receivers of chapter 1 on the line itself (R2, R5, R46): falling edges,
characters, breaks and delimiters, from the levels of a Wave, one sixteenth of a bit time after another (log 24). -/

namespace Sys2Proof.Machine

/-- The two segments; only the trunk receiver detects breaks and holds a character whose stop bit read low (R2, R5). -/
inductive Segment where
  | trunk
  | branch
  deriving DecidableEq, Repr

/-- What a receiver hands to its owner (R2, R5). -/
inductive RxEvent where
  | character (c : RxChar)
  | lineBreak
  deriving DecidableEq, Repr

/-- Sixteenths in a bit time (R2 samples a bit at 7, 8 and 9 of them). -/
def bitSixteenths : Nat := 16

/-- Sixteenths in a character: ten bit times (R1). -/
def characterSixteenths : Nat := 10 * bitSixteenths

/-- A line is sampled 7, 8 and 9 sixteenths into each bit period (R2). -/
def isSamplePoint (elapsed : Nat) : Bool :=
  [7, 8, 9].contains (elapsed % bitSixteenths)

/-- The moment the start bit has been sampled for the third time (R2). -/
def startSampled : Nat := 9

/-- The moment the stop bit has been sampled for the third time (R2). -/
def stopSampled : Nat := 9 * bitSixteenths + 9

/-- Samples in groups of three, one for each bit (R2). -/
def sampleTriples : List Bool → List Samples
  | a :: b :: c :: rest => (a, b, c) :: sampleTriples rest
  | _ => []

/-- What the thirty samples of a character amount to (R2). -/
def characterOfSamples (samples : List Bool) : Option RxChar :=
  match sampleTriples samples with
  | start :: rest => receiveCharacter start (rest.take 8) (rest.getD 8 (true, true, true))
  | [] => none

/-- The first samples are those of a start bit that reads low (R2): the edge was the beginning of a character. -/
def startBitRead (samples : List Bool) : Bool :=
  match sampleTriples samples with
  | start :: _ => !start.value
  | [] => false

/-- The phase after a stop bit at `elapsed`: the bit goes on, or the receiver waits for the next edge (R2). -/
def ReceiverPhase.restOfStopBit (good : Option RxChar) (elapsed : Nat) : ReceiverPhase :=
  if elapsed + 1 < characterSixteenths then .stopBit good (elapsed + 1) else .waiting

/-- A character whose stop bit read low, in the trunk receiver (R5): it is handed over marked FRAMING as soon as the
line reads high, and held as long as it reads low. -/
def ReceiverPhase.resolveHeld (high : Bool) (value : Byte) (elapsed : Nat) : ReceiverPhase × List RxEvent :=
  if high then (ReceiverPhase.restOfStopBit none elapsed, [.character (.framing value)])
  else (.held value (elapsed + 1), [])

/-- The stop bit has just been sampled, and the line reads `high` (R2): a good character is handed over at the end of
the stop bit; one marked FRAMING at once on the branch, while the trunk receiver holds it until the line reads high,
which may be at the third sample already (R5). -/
def afterStopSampled (segment : Segment) (high : Bool) (samples : List Bool) (elapsed : Nat) :
    ReceiverPhase × List RxEvent :=
  match characterOfSamples samples, segment with
  | some (.framing value), .trunk => ReceiverPhase.resolveHeld high value elapsed
  | some (.framing value), .branch => (.stopBit none (elapsed + 1), [.character (.framing value)])
  | some (.good value), _ => (.stopBit (some (.good value)) (elapsed + 1), [])
  | none, _ => (.stopBit none (elapsed + 1), [])

/-- A character being timed reads one sixteenth at `high` (R2), sampled if it is to be: after the start bit's samples it
goes on only if that bit reads low; after the stop bit's samples the character is complete. R2 does not say when a start
bit that reads high is given up, nor whether an edge before the end of that bit counts: the receiver waits again from
the third sample on, and a fall of the line at that very sample is no edge (DESIGN CHOICE, log 24). -/
def ReceiverPhase.timeCharacter (segment : Segment) (high : Bool) (elapsed : Nat) (samples : List Bool) :
    ReceiverPhase × List RxEvent :=
  if elapsed = startSampled ∧ startBitRead samples = false then (.waiting, [])
  else if elapsed = stopSampled then afterStopSampled segment high samples elapsed
  else (.character (elapsed + 1) samples, [])

/-- One sixteenth of a bit time at a level, breaks apart (R2, R5). `fell`: this is a falling edge, seen while the line
has been high. `lasted`: for how long the line has now read this level. -/
def ReceiverPhase.read (segment : Segment) (high fell : Bool) (lasted : Nat) :
    ReceiverPhase → ReceiverPhase × List RxEvent
  | .quiet => (if high ∧ delimiterDetectBits * bitSixteenths ≤ lasted then .waiting else .quiet, [])
  | .waiting => (if fell then .character 1 [] else .waiting, [])
  | .character elapsed samples =>
    ReceiverPhase.timeCharacter segment high elapsed (if isSamplePoint elapsed then samples ++ [high] else samples)
  | .stopBit good elapsed =>
    (ReceiverPhase.restOfStopBit good elapsed,
      if elapsed + 1 < characterSixteenths then [] else good.toList.map RxEvent.character)
  | .held value elapsed => ReceiverPhase.resolveHeld high value elapsed

/-- As far as the time at a level is counted: what a delimiter takes of a high, what a break takes of a low (R5). -/
def lastedLimit (high : Bool) : Nat :=
  if high then delimiterDetectBits * bitSixteenths else breakDetectBits * bitSixteenths

/-- For how long the line has read its level, with one more sixteenth at `high`. -/
def Receiver.lastedAt (r : Receiver) (high : Bool) : Nat :=
  if high = r.high then min (lastedLimit high) (r.lasted + 1) else 1

/-- With one more sixteenth at `high` the low has lasted 11 bit times, in a trunk receiver that has read high for a bit
time since the last break or the beginning of listening (R5, R46): a break. -/
def Receiver.detectsBreak (segment : Segment) (high : Bool) (r : Receiver) : Bool :=
  decide (segment = .trunk) && !high && decide (r.phase ≠ .quiet) &&
    decide (breakDetectBits * bitSixteenths ≤ r.lastedAt high)

/-- One sixteenth of a bit time at a level (R2, R5): a break discards the character in progress or held; otherwise the
phase moves on. -/
def Receiver.read (segment : Segment) (r : Receiver) (high : Bool) : Receiver × List RxEvent :=
  if r.detectsBreak segment high then
    ({ high := high, lasted := r.lastedAt high, phase := .quiet }, [.lineBreak])
  else
    match r.phase.read segment high (r.high && !high) (r.lastedAt high) with
    | (phase, events) => ({ high := high, lasted := r.lastedAt high, phase := phase }, events)

/-- A receiver over one level after another: the receiver after it, and what it hands over, in order. -/
def Receiver.hearLevels (segment : Segment) (r : Receiver) : List Bool → Receiver × List RxEvent
  | [] => (r, [])
  | high :: rest =>
    match r.read segment high with
    | (r1, events) =>
      match r1.hearLevels segment rest with
      | (r2, more) => (r2, events ++ more)

/-- The levels of a Wave, one for each sixteenth. -/
def Wave.levels (line : Wave) : List Bool :=
  line.flatMap fun x => List.replicate x.2 x.1

/-- A receiver over a Wave. -/
def Receiver.hear (segment : Segment) (r : Receiver) (line : Wave) : Receiver × List RxEvent :=
  r.hearLevels segment (Wave.levels line)

/-- The trunk receiver when it has just handed over a break (R5): the low has lasted 11 bit times, and a high of 1 bit
time is awaited. -/
def Receiver.afterBreak : Receiver :=
  { high := false, lasted := breakDetectBits * bitSixteenths, phase := .quiet }

/-- A receiver that has read a high of 1 bit time or more and waits for a falling edge (R2). -/
def Receiver.atRest : Receiver :=
  { high := true, lasted := delimiterDetectBits * bitSixteenths, phase := .waiting }

/-- The branch receiver where the rate it runs at changes, at the beginning of a transaction or a wake pulse (R3). A
character in progress is never split between two rates (R3), which does not say what becomes of one that a node began
before: the receiver gives it up, keeps the level it has read, counts the time at it afresh and waits for a falling edge
(DESIGN CHOICE, log 29). -/
def Receiver.atRate (before after : RateCode) (r : Receiver) : Receiver :=
  if before = after then r else { high := r.high, lasted := 0, phase := .waiting }

/-! ## Characters on the line -/

/-- Levels of a bit time each, in sixteenths. -/
def sixteenths (bits : List Bool) : List Bool :=
  bits.flatMap fun level => List.replicate bitSixteenths level

/-- A character on the line, from its start bit to the end of its stop bit (R1). -/
def characterWave (b : Byte) : Wave :=
  (characterLevels b).map fun level => (level, bitSixteenths)

/-- Characters sent back to back (R1). -/
def charactersLevels (values : List Byte) : List Bool :=
  values.flatMap characterLevels

/-! ## What the trunk port makes of what it is handed -/

/-- What was handed over ends with a break, the only one (R5, R47). -/
def endsWithBreak : List RxEvent → Bool
  | [] => false
  | [.lineBreak] => true
  | .lineBreak :: _ :: _ => false
  | .character _ :: rest => endsWithBreak rest

/-- In HEADER, a break that comes before the header has ended (R7): after nothing, or after a good H0. -/
def breaksHeader : List RxEvent → Bool
  | [.lineBreak] => true
  | [.character (.good _), .lineBreak] => true
  | _ => false

/-- The header that was handed over, judged under R7: an H0 marked FRAMING, or two characters. `none` if what was handed
over is not just such a header. -/
def headerHeard : List RxEvent → Option HeaderJudgement
  | [.character (.framing _)] => some .framing
  | [.character (.good h0), .character c1] => some (judgeHeader (.good h0) c1)
  | _ => none

/-! ## Receptions (R10, R11) -/

/-- A character has begun (R11): its falling edge has been seen, its start bit has not been discarded, and it has not
been handed over. -/
def Receiver.midCharacter (r : Receiver) : Bool :=
  match r.phase with
  | .quiet => false
  | .waiting => false
  | .character _ _ => true
  | .stopBit good _ => good.isSome
  | .held _ _ => true

/-- Good characters as a receiver hands them over, one after the other (R2). -/
def goodCharacters (bytes : List Byte) : List RxEvent :=
  bytes.map fun b => .character (.good b)

/-- The good characters among what was handed over. -/
def goodBytes : List RxEvent → List Byte
  | [] => []
  | .character (.good b) :: rest => b :: goodBytes rest
  | .character (.framing _) :: rest => goodBytes rest
  | .lineBreak :: rest => goodBytes rest

/-- How many sixteenths have passed since a receiver last handed something over, at the end of these levels; `since`
before them. -/
def Receiver.sinceHanded (segment : Segment) (r : Receiver) (since : Nat) : List Bool → Nat
  | [] => since
  | high :: rest =>
    match r.read segment high with
    | (r1, events) => r1.sinceHanded segment (if events.isEmpty then since + 1 else 0) rest

/-- As much of a line as falls into the reply window of n data bytes (R11). -/
def withinWindow (n sinceH1 : Nat) (line : Wave) : List Bool :=
  (Wave.levels line).take (windowLeft n sinceH1)

/-- The reply window ends on the line, or has ended before it (R11). -/
def windowEnds (n sinceH1 : Nat) (line : Wave) : Bool :=
  decide (windowLeft n sinceH1 ≤ (Wave.levels line).length)

/-- The character under way began before the end of H1, so many sixteenths ago. -/
def Receiver.beganBefore (r : Receiver) (sinceH1 : Nat) : Bool :=
  match r.phase with
  | .quiet => false
  | .waiting => false
  | .character elapsed _ => decide (sinceH1 < elapsed)
  | .stopBit good elapsed => good.isSome && decide (sinceH1 < elapsed)
  | .held _ elapsed => decide (sinceH1 < elapsed)

/-- A receiver over the rest of the character under way: the receiver after it, and the levels that are left. -/
def Receiver.endCharacter (segment : Segment) (r : Receiver) : List Bool → Receiver × List Bool
  | [] => (r, [])
  | high :: rest =>
    if r.midCharacter then (r.read segment high).1.endCharacter segment rest else (r, high :: rest)

/-- The reply characters on a line. A reply character has begun since H1 (R11); R10 does not say what becomes of one that
began before the end of H1 and ends behind it: the model does not count it as a reply character (DESIGN CHOICE, log
28). -/
def Receiver.hearReply (segment : Segment) (r : Receiver) (sinceH1 : Nat) (levels : List Bool) :
    Receiver × List RxEvent :=
  if r.beganBefore sinceH1 then
    match r.endCharacter segment levels with
    | (r1, rest) => r1.hearLevels segment rest
  else r.hearLevels segment levels

/-- What a reply reception that lacks `missing` data characters, `register` being the CRC-8 register over the header and
those that have come, makes of these characters (R9, R10): the first character that is marked FRAMING ends it, or the
check byte; `none` where none of them does. What comes after that is not part of the reply. -/
def replyEnded (register : Byte) (missing : Nat) : List RxEvent → Option BranchOutcome
  | [] => none
  | .lineBreak :: _ => none
  | .character (.framing _) :: _ => some .framing
  | .character (.good b) :: rest =>
    match missing with
    | 0 => some (if b = ~~~ register then .success else .check)
    | n + 1 => replyEnded (crc8Byte register b) n rest

/-- How a reply reception ends (R10, R11). `counted`: what was handed over in time; `heard`: the receiver where the line
or the window ends, with all that was handed over. `expired`: the window has ended: NO_REPLY if no reply character had
begun, SHORT_REPLY otherwise; `begun`: one had before. `none`: the reception has not ended, or a break has ended it. -/
def replyVerdict (register : Byte) (missing : Nat) (begun expired : Bool) (counted : List RxEvent)
    (heard : Receiver × List RxEvent) : Option BranchOutcome :=
  if RxEvent.lineBreak ∈ heard.2 then none
  else
    match replyEnded register missing counted with
    | some o => some o
    | none =>
      if expired then
        some (if begun ∨ heard.2 ≠ [] ∨ heard.1.midCharacter = true then .shortReply else .noReply)
      else none

/-! ## Transmissions (R4, R13, R14) -/

/-- The line during a transmission of these levels, which goes on as sent where the row leaves it open (log 27). -/
def Transmission.filled (x : Transmission) (sent : List Bool) : List Bool :=
  Wave.levels x.during ++ (sixteenths sent).drop (Wave.levels x.during).length

/-- The line the row brings does not go on beyond the transmission. -/
def Transmission.fits (x : Transmission) (sent : List Bool) : Bool :=
  decide ((Wave.levels x.during).length ≤ bitSixteenths * sent.length)

/-- The transmission ends with every bit read back as sent. -/
def Transmission.completes (x : Transmission) (sent : List Bool) : Bool :=
  Transmission.fits x sent && readsAsSent sent (Transmission.filled x sent)

/-- The transmission ends at the first bit that differs, on the line as far as the row brings it. -/
def Transmission.differsAt (x : Transmission) (sent : List Bool) : Option Nat :=
  if Transmission.fits x sent then firstDifference sent (Wave.levels x.during) else none

/-- A receiver over a transmission that ends as sent. -/
def Receiver.hearSent (segment : Segment) (r : Receiver) (sent : List Bool) (x : Transmission) :
    Receiver × List RxEvent :=
  r.hearLevels segment (Wave.levels x.before ++ Transmission.filled x sent)

/-- The line of a transmission up to the third sample of bit k, at which a difference ends it (R13, R14). -/
def Transmission.upTo (x : Transmission) (k : Nat) : List Bool :=
  (Wave.levels x.during).take (bitSixteenths * k + 10)

/-- A receiver over a transmission that a difference in bit k ends. -/
def Receiver.hearCut (segment : Segment) (r : Receiver) (x : Transmission) (k : Nat) : Receiver × List RxEvent :=
  r.hearLevels segment (Wave.levels x.before ++ Transmission.upTo x k)

end Sys2Proof.Machine
end

