-- ==== Sys2Proof/Machine/Ops.lean ====
section
/-! DEFINITION. Machine/Ops.lean: the accessors of the state. Every read and write of a block's state goes through
these: one map for each block, the two banks by role (R19), records, entries and countdowns by index, the link state's
tests, saturating counts (3.2), what the relay drives on the two lines (R54, R104), what its receivers hear and how its
transmissions read back (R2, R13, R14). -/

namespace Sys2Proof.Machine

/-! ## One map for each block -/

def State.mapRoute (f : RouteTable → RouteTable) (s : State) : State := { s with route := f s.route }
def State.mapStore (f : RecordStore → RecordStore) (s : State) : State := { s with store := f s.store }
def State.mapSched (f : Scheduler → Scheduler) (s : State) : State := { s with sched := f s.sched }
def State.mapLink (f : LinkController → LinkController) (s : State) : State := { s with link := f s.link }
def State.mapTrunk (f : TrunkPort → TrunkPort) (s : State) : State := { s with trunk := f s.trunk }
def State.mapAgent (f : Agent → Agent) (s : State) : State := { s with agent := f s.agent }
def State.mapConfig (f : ConfigStore → ConfigStore) (s : State) : State := { s with config := f s.config }
def State.setPower (p : Power) (s : State) : State := { s with power := p }
def State.setPending (q : List Instr) (s : State) : State := { s with pending := q }

/-! ## Fields written by many rules -/

def State.setPort (p : PortState) (s : State) : State := s.mapTrunk fun t => { t with port := p }
def State.setLinkState (l : LinkState) (s : State) : State := s.mapLink fun c => { c with state := l }
def State.setRelay (r : Option RelayContext) (s : State) : State := s.mapLink fun c => { c with relay := r }

/-! ## Saturating counts (3.2 of the introduction) -/

/-- One more, staying at the upper bound. -/
def satSucc {w : Nat} (x : BitVec w) : BitVec w :=
  if x = BitVec.allOnes w then x else x + 1#w

/-- One less, staying at zero. -/
def satPred {w : Nat} (x : BitVec w) : BitVec w :=
  if x = 0#w then x else x - 1#w

/-! ## The start sequence and the receivers (R166, R167) -/

/-- The start sequence has completed and RESET_N is high: receivers listen and ticks occur (R46, R167). -/
def State.isRunning (s : State) : Bool :=
  match s.power with
  | .running => true
  | .off _ => false
  | .held _ => false
  | .starting => false

/-! ## Banks by role (R19) -/

/-- The other bank. -/
def BankId.other : BankId → BankId
  | .a => .b
  | .b => .a

/-- The bank holding a role (R19). -/
def RouteTable.bankIdOf (r : RouteTable) : Role → BankId
  | .active => r.activeBank
  | .edit => r.activeBank.other

/-- A bank by its letter. -/
def RouteTable.bankOf (r : RouteTable) : BankId → Bank
  | .a => r.bankA
  | .b => r.bankB

/-- The bank trunk lookups use (R19). -/
def RouteTable.activeContents (r : RouteTable) : Bank :=
  r.bankOf r.activeBank

/-- The bank edit commands and stream writes change (R19). -/
def RouteTable.editContents (r : RouteTable) : Bank :=
  r.bankOf r.activeBank.other

/-- Replace the edit bank (R19). -/
def RouteTable.setEdit (b : Bank) (r : RouteTable) : RouteTable :=
  match r.activeBank with
  | .a => { r with bankB := b }
  | .b => { r with bankA := b }

/-- The group of an entry index, i / 4 rounded down (R21). -/
def groupOf (i : EntryIndex) : GroupIndex :=
  ⟨i.val / 4, by omega⟩

/-- Entry i of a bank (R19). -/
def Bank.entry (b : Bank) (i : EntryIndex) : Entry :=
  b.entries.get i

/-- The group mask of entry i's group (R21). -/
def Bank.maskFor (b : Bank) (i : EntryIndex) : Channel :=
  b.masks.get (groupOf i)

/-- Entry i of the active bank. -/
def State.activeEntry (s : State) (i : EntryIndex) : Entry :=
  s.route.activeContents.entry i

/-! ## Records and countdowns by index -/

/-- Record i (R64). -/
def State.record (s : State) (i : EntryIndex) : Record :=
  s.store.records.get i

/-- Replace record i. -/
def State.setRecord (i : EntryIndex) (r : Record) (s : State) : State :=
  s.mapStore fun st => { st with records := st.records.set i.val r i.isLt }

/-- Change every record by a function of its index. -/
def State.mapRecords (f : EntryIndex → Record → Record) (s : State) : State :=
  s.mapStore fun st => { st with records := Vector.ofFn fun i => f i (st.records.get i) }

/-- The refresh countdown of index i (R86). -/
def State.countdown (s : State) (i : EntryIndex) : Byte :=
  s.sched.countdowns.get i

/-- Load the refresh countdown of index i. -/
def State.setCountdown (i : EntryIndex) (v : Byte) (s : State) : State :=
  s.mapSched fun q => { q with countdowns := q.countdowns.set i.val v i.isLt }

/-! ## Entries (R20) -/

/-- The number of data bytes of an entry. -/
def Entry.bytes (e : Entry) : Nat :=
  dataBytes e.length

/-- A valid entry of kind CACHED or unmasked RELAYED: its branch node is polled by REFRESH (R89, R101). -/
def Entry.takesRefresh (e : Entry) : Bool :=
  e.valid && (e.kind == .cached || (e.kind == .relayed && !e.masked))

/-- A valid DOWNLINK entry: its record is delivered by PUBLISH (R89). -/
def Entry.takesPublish (e : Entry) : Bool :=
  e.valid && e.kind == .downlink

/-- A valid entry of a kind that keeps a record: LOCAL, CACHED, DOWNLINK or unmasked RELAYED (R64, R70). -/
def Entry.keepsRecord (e : Entry) : Bool :=
  e.valid && (e.kind == .localData || e.kind == .cached || e.kind == .downlink || (e.kind == .relayed && !e.masked))

/-- The op of a request or item fits the entry (R89, R100). -/
def QueueOp.fits (op : QueueOp) (e : Entry) : Bool :=
  match op with
  | .refresh => e.takesRefresh
  | .publish => e.takesPublish

/-- The six identity fields agree (chapter 4). -/
def Entry.sameIdentity (e f : Entry) : Bool :=
  e.valid == f.valid && e.channel == f.channel && e.masked == f.masked && e.kind == f.kind && e.length == f.length &&
    e.branchChannel == f.branchChannel

/-! ## Link state (R104, R105) -/

def LinkState.isIdle : LinkState → Bool
  | .idle => true
  | _ => false

def LinkState.isQuarantine : LinkState → Bool
  | .quarantine => true
  | _ => false

def LinkState.isAsleep : LinkState → Bool
  | .asleep => true
  | _ => false

/-- The transaction on the branch: present in HEADER, REPLY_WAIT and DATA_OUT only (R105). -/
def LinkState.transaction : LinkState → Option Transaction
  | .header t => some t
  | .replyWait t => some t
  | .dataOut t => some t
  | _ => none

/-- The controller is in HEADER, REPLY_WAIT or DATA_OUT (R104). -/
def LinkState.inTransaction (l : LinkState) : Bool :=
  l.transaction.isSome

/-- The rate that governs the transaction or the wake pulse on the branch (R106, R125). -/
def LinkState.governingRate : LinkState → Option RateCode
  | .header t => some t.rate
  | .replyWait t => some t.rate
  | .dataOut t => some t.rate
  | .wakeOut _ _ rate => some rate
  | .idle => none
  | .gap _ => none
  | .quarantine => none
  | .asleep => none
  | .wakeSettle => none

/-- The rate at which the branch transmitter and the branch receiver run, always the same for both (R3): that of the
transaction or wake pulse on the branch, and otherwise still that of the last one. A rate written to the line settings
takes effect at the beginning of the next transaction or pulse (R3, R125). -/
def LinkController.branchRate (c : LinkController) : RateCode :=
  c.state.governingRate.getD c.receiverRate

/-- The entry a transaction is for (R105). -/
def TransactionOp.entry? : TransactionOp → Option EntryIndex
  | .refresh e _ => some e
  | .publish e _ _ _ => some e
  | .relay e => some e
  | .sleep => none

/-! ## What the relay drives (R1, R54, R104) -/

/-- What a transmitter puts on its line. -/
inductive Drive where
  | released
  | frameHeader (breakLength : BreakLength) (h0 h1 : Byte)
  | characters (values : List Byte)
  | pulse (steps : Byte)
  deriving DecidableEq, Repr

/-- The character value of a forwarded character. -/
def ForwardChar.value : ForwardChar → Byte
  | .data b => b
  | .check b => b

/-- What the trunk transmitter sends: the reply of a serve, or the forwarded character (R54, R61). -/
def State.trunkDrive (s : State) : Drive :=
  if s.isRunning then
    match s.trunk.port with
    | .serve _ reply => .characters reply
    | .forward (some c) _ _ => .characters [c.value]
    | _ => .released
  else .released

/-- The characters published in DATA_OUT: the data and the check byte (R110). -/
def Transaction.published (t : Transaction) : List Byte :=
  let data := match t.op with
    | .publish _ _ _ d => d
    | .sleep => sleepData
    | .refresh _ _ => []
    | .relay _ => []
  replyCharacters (headerH0 t.branchChannel) (headerH1 t.branchChannel t.length) data

/-- What the branch transmitter produces, before the loopback switch (R104). -/
def State.branchOutput (s : State) : Drive :=
  if s.isRunning then
    match s.link.state with
    | .header t => .frameHeader t.breakLength (headerH0 t.branchChannel) (headerH1 t.branchChannel t.length)
    | .dataOut t => .characters t.published
    | .wakeOut _ steps _ => .pulse steps
    | _ => .released
  else .released

/-- What BR_TXD drives: nothing while the mode flag is LOOPBACK (R104, R148). -/
def State.branchDrive (s : State) : Drive :=
  match s.link.mode with
  | .normal => s.branchOutput
  | .loopback => .released

/-! ## What the receivers hear (R2, R5) -/

/-- What the trunk receiver makes of the line, from where the last row that brought it left it (R2, R5). -/
def State.hearTrunk (s : State) (line : Wave) : Receiver × List RxEvent :=
  s.trunk.receiver.hear .trunk line

/-- The trunk receiver goes on from where it is after that line. -/
def State.setReceiver (r : Receiver) (s : State) : State :=
  s.mapTrunk fun t => { t with receiver := r }

/-- What the trunk receiver makes of the line of a capture of n data bytes, as far as the reply window reaches (R11). -/
def State.hearCapture (s : State) (n : Nat) (line : Wave) : Receiver × List RxEvent :=
  s.trunk.receiver.hearLevels .trunk (withinWindow n s.trunk.sinceH1 line)

/-- What the branch receiver makes of the line, from where the last row that brought it left it (R2). -/
def State.hearBranch (s : State) (line : Wave) : Receiver × List RxEvent :=
  s.link.receiver.hear .branch line

/-- The reply characters that the branch receiver makes of the line of a reception of n data bytes, as far as the reply
window reaches (R10, R11). -/
def State.hearReply (s : State) (n : Nat) (line : Wave) : Receiver × List RxEvent :=
  s.link.receiver.hearReply .branch s.link.sinceH1 (withinWindow n s.link.sinceH1 line)

/-- The branch receiver goes on from where it is after that line, at the rate at which the branch runs (R3), and no low
that began outside a frame is under way. -/
def State.setBranchReceiver (r : Receiver) (s : State) : State :=
  s.mapLink fun c => { c with receiver := r, receiverRate := c.branchRate, outsideLow := none }

/-- The branch receiver behind a transmission, or as much of it as there was: it has heard the line before it at the
rate it ran at until then, and the transmission's own line at the rate of the transaction or the pulse, which took
effect at its beginning (R3, R125; log 29). -/
def State.hearFrame (before during : List Bool) (s : State) : State :=
  s.setBranchReceiver
    ((((s.link.receiver.hearLevels .branch before).1.atRate s.link.receiverRate s.link.branchRate).hearLevels .branch
      during).1)

/-- The low that began outside a frame and is under way where the last row left the branch line (R18). -/
def LinkController.carriedLow (c : LinkController) : Option Nat :=
  if c.receiver.high then none else c.outsideLow

/-- The low that began outside a frame and is under way at the end of these levels of the branch line, outside a frame or
before one, where the receiver still runs at the rate of the last one (R3, R18). -/
def State.lowOutside (s : State) (levels : List Bool) : Option Nat :=
  lowUnderWay (sixteenthLength s.link.receiverRate) s.link.receiver.high s.link.carriedLow levels

/-- The same after a wake pulse in which the branch read these levels, at the rate of the pulse: a low that began before
the pulse goes on through it as long as the branch reads low (R145). -/
def State.lowThrough (s : State) (before pulse : List Bool) : Option Nat :=
  match s.lowOutside before with
  | some length => if true ∈ pulse then none else some (length + pulse.length * sixteenthLength s.link.branchRate)
  | none => none

/-- A low that R18 reports as a wake ends on the line, in NORMAL, with the branch outside a frame (R18, R148). -/
def State.wakesOn (s : State) (levels : List Bool) : Bool :=
  match s.link.mode with
  | .normal =>
    (lowsEnded (sixteenthLength s.link.receiverRate) s.link.receiver.high s.link.carriedLow levels).any isWake
  | .loopback => false

/-- No wake comes on the line before a frame or a pulse begins; one that did would have been reported by its own row
(R18; log 19). -/
def State.noWakeBefore (s : State) (x : Transmission) : Bool :=
  !s.wakesOn (Wave.levels x.before)

/-- The branch receiver after a stretch of the responder's or the transmitter's own levels, which are all it hears in
LOOPBACK (R148). -/
def State.hearLoopback (levels : List Bool) (s : State) : State :=
  s.setBranchReceiver (s.link.receiver.hearLevels .branch (sixteenths levels)).1

/-! ## How transmissions read back (R13, R14) -/

/-- A transmission of these characters on the trunk ends with every bit read back as sent: the state with the trunk
receiver after it. A line in which that receiver hears a break brings TRUNK_BREAK instead (R5, R47). -/
def State.sentOnTrunk (values : List Byte) (x : Transmission) (s : State) : Option State :=
  if Transmission.completes x (charactersLevels values) ∧
      RxEvent.lineBreak ∉ (s.trunk.receiver.hearSent .trunk (charactersLevels values) x).2 then
    some (s.setReceiver (s.trunk.receiver.hearSent .trunk (charactersLevels values) x).1)
  else none

/-- A transmission of these characters on the trunk ends at a bit that reads back differently: BIT_ERROR, at the third
sample of that bit (R13). A break that was complete before brings TRUNK_BREAK instead (R5, R47). Where one is complete
in the very sixteenth of that sample, either may be taken first (R56): this row leaves that sixteenth to the line of the
TRUNK_BREAK behind it (log 27). -/
def State.collidesOnTrunk (values : List Byte) (x : Transmission) (s : State) : Option State :=
  match Transmission.differsAt x (charactersLevels values) with
  | none => none
  | some k =>
    let heard := s.trunk.receiver.hearCut .trunk x k
    let earlier := s.trunk.receiver.hearLevels .trunk (Wave.levels x.before ++ (Transmission.upTo x k).dropLast)
    if RxEvent.lineBreak ∈ earlier.2 then none
    else some (s.setReceiver (if RxEvent.lineBreak ∈ heard.2 then earlier.1 else heard.1))

/-- What the branch receiver is fed from (R148): the line in NORMAL; in LOOPBACK the transmitter itself, released at the
high level before it sends, for as long as the row says. -/
def LinkMode.fedFrom (m : LinkMode) (x : Transmission) : Transmission :=
  match m with
  | .normal => x
  | .loopback => { before := x.before.map fun y => (true, y.2) }

/-- A transmission of these levels on the branch ends with every bit read back as sent (R4, R13). -/
def State.sentOnBranch (sent : List Bool) (x : Transmission) (s : State) : Option State :=
  if s.link.mode = .loopback ∨ Transmission.completes x sent = true then
    some (s.hearFrame (Wave.levels (s.link.mode.fedFrom x).before) (Transmission.filled (s.link.mode.fedFrom x) sent))
  else none

/-- The first bit of a transmission of these levels on the branch that reads back differently (R4, R13, R14); none in
LOOPBACK (R148). -/
def State.differsOnBranch (sent : List Bool) (x : Transmission) (s : State) : Option Nat :=
  match s.link.mode with
  | .normal => Transmission.differsAt x sent
  | .loopback => none

/-- The branch receiver after a transmission that a difference in bit k has ended. -/
def State.cutOnBranch (x : Transmission) (k : Nat) (s : State) : State :=
  s.hearFrame (Wave.levels x.before) (Transmission.upTo x k)

/-- The branch after a wake pulse, or as much of it as there was, whose line is given in sixteenths of a step: the
receiver has gone on receiving, and what it handed over is discarded (R112); a low that began outside a frame before the
pulse may still be under way (R145), but for LOOPBACK, where none reaches the receiver (R141, R148). -/
def State.pulseHeard (before : Wave) (pulse : List Bool) (s : State) : State :=
  let line := pulseAtRate s.link.branchRate pulse
  let low := match s.link.mode with
    | .normal => s.lowThrough (Wave.levels before) line
    | .loopback => none
  (s.hearFrame (Wave.levels before) line).mapLink fun c => { c with outsideLow := low }

/-- A wake pulse of that many steps ends with every step read back as low (R14, R17): the state with the branch receiver
after it. -/
def State.pulseSent (steps : Byte) (x : Transmission) (s : State) : Option State :=
  if s.noWakeBefore x = true ∧ (s.link.mode = .loopback ∨ Transmission.completes x (pulseLevels steps) = true) then
    some (s.pulseHeard (s.link.mode.fedFrom x).before
      (Transmission.filled (s.link.mode.fedFrom x) (pulseLevels steps)))
  else none

/-- A step of a wake pulse of that many steps reads back as high (R14, R17): the state with the branch receiver after it.
None does in LOOPBACK (R148). -/
def State.pulseCut (steps : Byte) (x : Transmission) (s : State) : Option State :=
  match s.noWakeBefore x, s.differsOnBranch (pulseLevels steps) x with
  | true, some k => some (s.pulseHeard x.before (Transmission.upTo x k))
  | _, _ => none

end Sys2Proof.Machine
end

