-- ==== Sys2Proof/Machine/Flags.lean ====
section
/-! DEFINITION. Machine/Flags.lean: the 16 sticky flags (R158), the eight counters (R160) and the link score (R113). -/

namespace Sys2Proof.Machine

/-! ## Flags (R158) -/

/-- The flags of R158, in bit order. -/
inductive Flag where
  | headerError
  | trunkCollision
  | captureHeld
  | downlinkLost
  | relayRefused
  | queueFull
  | requestDropped
  | linkWarning
  | linkQuarantined
  | nodeSilent
  | branchWake
  | storeFailed
  | storeInvalid
  | rateMismatch
  | writeRefused
  | restarted
  deriving DecidableEq, Repr

/-- The bit number of a flag in the flag word (R158). -/
def Flag.bit : Flag → Nat
  | .headerError => 0
  | .trunkCollision => 1
  | .captureHeld => 2
  | .downlinkLost => 3
  | .relayRefused => 4
  | .queueFull => 5
  | .requestDropped => 6
  | .linkWarning => 7
  | .linkQuarantined => 8
  | .nodeSilent => 9
  | .branchWake => 10
  | .storeFailed => 11
  | .storeInvalid => 12
  | .rateMismatch => 13
  | .writeRefused => 14
  | .restarted => 15

/-- The flag word with that flag alone set. -/
def Flag.mask (f : Flag) : Word16 :=
  1#16 <<< f.bit

/-- Whether a flag is set. -/
def State.flag (s : State) (f : Flag) : Bool :=
  s.agent.flags.getLsbD f.bit

/-- Set a flag; one already set stays set (R158). -/
def State.setFlag (f : Flag) (s : State) : State :=
  s.mapAgent fun a => { a with flags := a.flags ||| f.mask }

/-! ## Counters (R160) -/

/-- The counters of R160. -/
inductive Counter where
  | headers
  | routed
  | headerErrors
  | served
  | relayedOk
  | relayRefused
  | branchOk
  | branchFailed
  deriving DecidableEq, Repr

/-- The value of a counter. -/
def Counters.get (c : Counters) : Counter → Word16
  | .headers => c.headers
  | .routed => c.routed
  | .headerErrors => c.headerErrors
  | .served => c.served
  | .relayedOk => c.relayedOk
  | .relayRefused => c.relayRefused
  | .branchOk => c.branchOk
  | .branchFailed => c.branchFailed

/-- One counter raised by one, saturating at 65535 (R160). -/
def Counters.raise (c : Counters) : Counter → Counters
  | .headers => { c with headers := satSucc c.headers }
  | .routed => { c with routed := satSucc c.routed }
  | .headerErrors => { c with headerErrors := satSucc c.headerErrors }
  | .served => { c with served := satSucc c.served }
  | .relayedOk => { c with relayedOk := satSucc c.relayedOk }
  | .relayRefused => { c with relayRefused := satSucc c.relayRefused }
  | .branchOk => { c with branchOk := satSucc c.branchOk }
  | .branchFailed => { c with branchFailed := satSucc c.branchFailed }

/-- All counters at 0 (R160, R161). -/
def Counters.zero : Counters :=
  { headers := 0#16, routed := 0#16, headerErrors := 0#16, served := 0#16, relayedOk := 0#16, relayRefused := 0#16,
    branchOk := 0#16, branchFailed := 0#16 }

/-- Raise a counter of the agent by one. -/
def State.count (c : Counter) (s : State) : State :=
  s.mapAgent fun a => { a with counters := a.counters.raise c }

/-! ## Link score (R113) -/

/-- What an error class adds to the score; SUCCESS adds nothing (it subtracts one) (R113). -/
def BranchOutcome.points : BranchOutcome → Nat
  | .success => 0
  | .lineFault => 16
  | .bitError => 8
  | .framing => 4
  | .check => 4
  | .shortReply => 2
  | .noReply => 1

/-- The score after an outcome: raised and saturating at 255, or lowered by one for SUCCESS, stopping at 0 (R113). -/
def scoreAfter (score : Byte) (o : BranchOutcome) : Byte :=
  match o with
  | .success => satPred score
  | .lineFault | .bitError | .framing | .check | .shortReply | .noReply =>
    BitVec.ofNat 8 (min 255 (score.toNat + o.points))

/-- Score at or above which LINK_WARNING is set by an increase (R113). -/
def warningScore : Nat := 64

/-- Score at or above which the branch is quarantined (R111, R113). -/
def quarantineScore : Nat := 128

/-- The score part of an outcome: the new score, and LINK_WARNING if the outcome raised it and left it at 64 or more
(R113). -/
def State.scoreOutcome (o : BranchOutcome) (s : State) : State :=
  let raised := decide (s.link.score.toNat < (scoreAfter s.link.score o).toNat)
  let warn := raised && decide (warningScore ≤ (scoreAfter s.link.score o).toNat)
  let s1 := s.mapLink fun c => { c with score := scoreAfter c.score o }
  if warn then s1.setFlag .linkWarning else s1

/-- The counter part of an outcome: BRANCH_OK or BRANCH_FAILED for a REFRESH, PUBLISH or RELAY, none for the sleep frame
(R114). -/
def State.countOutcome (op : TransactionOp) (o : BranchOutcome) (s : State) : State :=
  match op with
  | .sleep => s
  | .refresh _ _ | .publish _ _ _ _ | .relay _ =>
    if o = .success then s.count .branchOk else s.count .branchFailed

end Sys2Proof.Machine
end

