-- ==== Sys2Proof/Machine/Operands.lean ====
section
/-! DEFINITION. Machine/Operands.lean: the layouts of chapter 11. Operand bytes of command records (R175), the route
entry encoding (R174), the channels the relay publishes (R176, R177) and the configuration image with its integrity
word (R168, R178). Values wider than a byte go least significant byte first (R173). -/

namespace Sys2Proof.Machine

/-! ## Bytes and 16-bit values (R173) -/

/-- The least significant byte. -/
def lowByte (x : Word16) : Byte :=
  x.extractLsb' 0 8

/-- The most significant byte. -/
def highByte (x : Word16) : Byte :=
  x.extractLsb' 8 8

/-- A 16-bit value as two bytes, least significant first (R173). -/
def word16Bytes (x : Word16) : List Byte :=
  [lowByte x, highByte x]

/-- The 16-bit value of two bytes, least significant first (R173). -/
def word16Of (low high : Byte) : Word16 :=
  high ++ low

/-- A channel or mask as a 16-bit value (R174). -/
def channelBytes (c : Channel) : List Byte :=
  word16Bytes (c.setWidth 16)

/-- Exactly n bytes: the first n, filled with 0x00 (R173, R155). -/
def padTo (n : Nat) (bytes : List Byte) : List Byte :=
  (List.range n).map fun k => bytes.getD k 0#8

/-- A Bool as one bit. -/
def bitOf (b : Bool) : BitVec 1 :=
  BitVec.ofBool b

/-! ## Operands of command records (R175) -/

/-- Byte `k` of a COMMAND record, for k = 2..15 (R175). -/
def opByte (ops : Operands) (k : Nat) : Byte :=
  ops.toList.getD (k - 2) 0#8

/-- Bytes `k` and `k + 1` of a COMMAND record as a 16-bit value. -/
def opWord (ops : Operands) (k : Nat) : Word16 :=
  word16Of (opByte ops k) (opByte ops (k + 1))

/-- `n` bytes of a COMMAND record from byte `k`. -/
def opBytes (ops : Operands) (k n : Nat) : List Byte :=
  (List.range n).map fun j => opByte ops (k + j)

/-- An entry index operand: none above 63. -/
def entryIndex? (b : Byte) : Option EntryIndex :=
  if h : b.toNat < 64 then some ⟨b.toNat, h⟩ else none

/-- A group operand: none above 15. -/
def groupIndex? (b : Byte) : Option GroupIndex :=
  if h : b.toNat < 16 then some ⟨b.toNat, h⟩ else none

/-- A channel or mask operand: none above 1023. -/
def channel? (w : Word16) : Option Channel :=
  if w.toNat ≤ 1023 then some (w.setWidth 10) else none

/-! ## Route entry encoding (R174) -/

/-- The kind code (R174). -/
def EntryKind.code : EntryKind → BitVec 3
  | .localData => 0#3
  | .cached => 1#3
  | .relayed => 2#3
  | .downlink => 3#3
  | .blocked => 4#3

/-- The kind of a kind code; 5, 6 and 7 name none (R174). -/
def kindOfCode (c : BitVec 3) : Option EntryKind :=
  match c.toNat with
  | 0 => some .localData
  | 1 => some .cached
  | 2 => some .relayed
  | 3 => some .downlink
  | 4 => some .blocked
  | _ => none

/-- Byte 0 of an encoded entry: VALID, MASKED, KIND, reserved, LENGTH (R174). -/
def Entry.byte0 (e : Entry) : Byte :=
  bitOf e.valid ++ bitOf e.masked ++ e.kind.code ++ 0#1 ++ e.length

/-- Byte 8 of an encoded entry: DEMAND, STORE_POLICY, MISS_POLICY, FALLBACK, reserved, PRIORITY (R174). -/
def Entry.byte8 (e : Entry) : Byte :=
  bitOf e.demand ++ bitOf (e.storePolicy == .hold) ++ bitOf (e.missPolicy == .repeat) ++ bitOf e.fallback ++ 0#2 ++
    e.priority

/-- Byte 9 of an encoded entry: reserved, SILENT_LIMIT (R174). -/
def Entry.byte9 (e : Entry) : Byte :=
  0#4 ++ e.silentLimit

/-- The ten bytes of an entry (R174). -/
def encodeEntry (e : Entry) : List Byte :=
  [e.byte0] ++ channelBytes e.channel ++ channelBytes e.branchChannel ++ [e.refresh] ++ word16Bytes e.staleLimit ++
    [e.byte8, e.byte9]

/-- The entry of ten bytes, if they pass the encoding checks (R26, R174): a kind code of R174, SILENT_LIMIT not 0,
CHANNEL and BRANCH_CHANNEL at most 1023, and every reserved bit 0. -/
def decodeEntry : List Byte → Option Entry
  | [b0, b1, b2, b3, b4, b5, b6, b7, b8, b9] =>
    match kindOfCode (b0.extractLsb' 3 3), channel? (word16Of b1 b2), channel? (word16Of b3 b4) with
    | some kind, some channel, some branchChannel =>
      if b0.getLsbD 2 = false ∧ b8.extractLsb' 2 2 = 0#2 ∧ b9.extractLsb' 4 4 = 0#4 ∧ b9.extractLsb' 0 4 ≠ 0#4 then
        some
          { valid := b0.getLsbD 7, channel := channel, masked := b0.getLsbD 6, kind := kind,
            length := b0.extractLsb' 0 2, branchChannel := branchChannel, refresh := b5, demand := b8.getLsbD 7,
            staleLimit := word16Of b6 b7, storePolicy := if b8.getLsbD 6 then .hold else .replace,
            missPolicy := if b8.getLsbD 5 then .repeat else .silent, fallback := b8.getLsbD 4,
            priority := b8.extractLsb' 0 2, silentLimit := b9.extractLsb' 0 4 }
      else none
    | _, _, _ => none
  | _ => none

/-! ## Codes (R175, R176, R177) -/

/-- Outcome codes (R176). -/
def CommandOutcome.code : CommandOutcome → Byte
  | .none => 0#8
  | .done => 1#8
  | .pending => 2#8
  | .busy => 3#8
  | .badCommand => 4#8
  | .badOperand => 5#8
  | .badState => 6#8
  | .badTable => 7#8
  | .notFound => 8#8
  | .inFlight => 9#8
  | .keyAccepted => 10#8
  | .keyRestart => 11#8
  | .linkFailed => 12#8
  | .aborted => 13#8
  | .storeFailed => 14#8

/-- Bank ids (R176). -/
def BankId.code : BankId → Byte
  | .a => 0#8
  | .b => 1#8

/-- Op codes of WITHDRAW (R176). -/
def QueueOp.code : QueueOp → Byte
  | .refresh => 0#8
  | .publish => 1#8

/-- Origin codes of WITHDRAW (R176). -/
def Origin.code : Origin → Byte
  | .periodic => 0#8
  | .demand => 1#8
  | .downlink => 2#8
  | .manual => 3#8
  | .retry => 4#8

/-- Link state codes (R177). -/
def LinkState.code : LinkState → BitVec 4
  | .idle => 0#4
  | .header _ => 1#4
  | .replyWait _ => 2#4
  | .dataOut _ => 3#4
  | .gap _ => 4#4
  | .quarantine => 5#4
  | .asleep => 6#4
  | .wakeOut _ _ _ => 7#4
  | .wakeSettle => 8#4

/-- Store state codes (R177). -/
def StoreState.code : StoreState → BitVec 2
  | .valid => 0#2
  | .invalid => 1#2
  | .saving _ _ => 2#2
  | .loading => 3#2

/-- Test key sequence state codes (R176, R177). -/
def KeyState.code : KeyState → BitVec 2
  | .none => 0#2
  | .key1 => 1#2
  | .key2 => 2#2

/-- Reset cause codes (R177). -/
def ResetCause.code : ResetCause → Byte
  | .powerOn => 0#8
  | .pin => 1#8
  | .restart => 2#8

/-- Record STATE codes (R177). -/
def RecordState.code : RecordState → BitVec 2
  | .empty => 0#2
  | .fresh => 1#2
  | .stale => 2#2

/-- Record SOURCE codes (R177). -/
def Source.code : Source → BitVec 2
  | .branch => 0#2
  | .trunk => 1#2
  | .management => 2#2

/-! ## The channels the relay publishes (R176, R177) -/

/-- RESULT, 16 bytes (R176). -/
def ResultRecord.bytes (r : ResultRecord) : List Byte :=
  [r.tag, r.code, r.outcome.code, r.refusals, r.lastRefused] ++ padTo 11 r.data

/-- STATUS byte 2: mode in bit 7, link state code in bits 3..0 (R177). -/
def statusByte2 (c : LinkController) : Byte :=
  bitOf (c.mode == .loopback) ++ 0#3 ++ c.state.code

/-- STATUS byte 6: commit pending in bit 1, active bank id in bit 0 (R177). -/
def statusByte6 (r : RouteTable) : Byte :=
  0#6 ++ bitOf r.commitPending ++ bitOf (r.activeBank == .b)

/-- STATUS byte 7: test key sequence state in bits 5..4, store state in bits 1..0 (R177). -/
def statusByte7 (k : KeyState) (st : StoreState) : Byte :=
  0#2 ++ k.code ++ 0#2 ++ st.code

/-- STATUS, 8 bytes (R162, R177). -/
def State.statusBytes (s : State) : List Byte :=
  word16Bytes s.agent.flags ++
    [statusByte2 s.link, BitVec.ofNat 8 s.sched.queue.length, BitVec.ofNat 8 s.sched.deferred.length, s.link.score,
      statusByte6 s.route, statusByte7 s.agent.keyState s.config.store]

/-- COUNTERS, 16 bytes, in the order of R160 (R163, R177). -/
def Counters.bytes (c : Counters) : List Byte :=
  word16Bytes c.headers ++ word16Bytes c.routed ++ word16Bytes c.headerErrors ++ word16Bytes c.served ++
    word16Bytes c.relayedOk ++ word16Bytes c.relayRefused ++ word16Bytes c.branchOk ++ word16Bytes c.branchFailed

/-- IDENT, 8 bytes (R164, R177). -/
def State.identBytes (s : State) : List Byte :=
  [Config.vendorCode] ++ word16Bytes Config.partCode ++
    [Config.revision, s.agent.unit.setWidth 8, s.config.cause.code, s.config.store.code.setWidth 8,
      s.trunk.rate.setWidth 8]

/-- ENTRY READ, 16 bytes: the snapshot of R30 (R177). -/
def RouteTable.entryReadBytes (r : RouteTable) : List Byte :=
  let id := r.bankIdOf r.readBank
  let bank := r.bankOf id
  [BitVec.ofNat 8 r.readIndex.val, id.code] ++ encodeEntry (bank.entry r.readIndex) ++
    channelBytes (bank.maskFor r.readIndex) ++ word16Bytes r.commitCount

/-- RECORD READ byte 1: PENDING, SOURCE, STATE (R177). -/
def Record.stateByte (r : Record) : Byte :=
  0#3 ++ bitOf r.pending ++ r.source.code ++ r.state.code

/-- RECORD READ byte 6: SILENT and FAILS (R177). -/
def Record.failsByte (r : Record) : Byte :=
  bitOf r.silent ++ 0#3 ++ r.fails

/-- RECORD READ, 16 bytes: metadata and the half the record read pointer selects (R82, R177). -/
def RecordStore.recordReadBytes (st : RecordStore) : List Byte :=
  let r := st.records.get st.readIndex
  [BitVec.ofNat 8 st.readIndex.val, r.stateByte, BitVec.ofNat 8 r.data.length] ++ word16Bytes r.age ++
    [r.served, r.failsByte, r.version] ++ padTo 8 (r.data.drop (if st.readHalf then 8 else 0))

/-! ## The image (R168, R178) -/

/-- Break length codes (R175, R178). -/
def BreakLength.code : BreakLength → Byte
  | .bits13 => 0#8
  | .bits17 => 1#8

/-- Quarantine policy codes (R175, R178). -/
def QuarantinePolicy.code : QuarantinePolicy → Byte
  | .auto => 0#8
  | .hold => 1#8

/-- Order mode codes (R175, R178). -/
def OrderMode.code : OrderMode → Byte
  | .arrival => 0#8
  | .index => 1#8

/-- Bytes 0..679 of the image, those the integrity word covers (R178). -/
def ImageContents.bytes (c : ImageContents) : List Byte :=
  c.bank.entries.toList.flatMap encodeEntry ++ c.bank.masks.toList.flatMap channelBytes ++
    [c.line.rate.setWidth 8, c.line.breakLength.code, c.line.policy.code, c.line.qhold, c.line.wakeLen,
      c.line.settleLen, c.tickPeriod, c.order.code]

/-- One bit into the CRC-16 register (R168). -/
def crc16Bit (register : Word16) (bit : Bool) : Word16 :=
  if register.msb ^^ bit then (register <<< 1) ^^^ 0x1021#16 else register <<< 1

/-- One byte into the CRC-16 register, most significant bit first (R168). -/
def crc16Byte (register : Word16) (b : Byte) : Word16 :=
  [7, 6, 5, 4, 3, 2, 1, 0].foldl (fun r i => crc16Bit r (b.getLsbD i)) register

/-- The CRC-16 over bytes, register starting at 0xFFFF, final register not complemented (R168). -/
def crc16 (bytes : List Byte) : Word16 :=
  bytes.foldl crc16Byte 0xFFFF#16

/-- The integrity word of an image's contents (R168, R178). -/
def ImageContents.integrityWord (c : ImageContents) : Word16 :=
  crc16 c.bytes

/-- The contents of an image whose word matches: what a start finds VALID (R166, R168). -/
def Image.validContents : Image → Option ImageContents
  | .unmatched => none
  | .written c w => if c.integrityWord = w then some c else none

/-- The image's 682 bytes (R178): those covered, then the integrity word; none where the model gives the contents no
bytes (log 13). -/
def Image.bytes : Image → Option (List Byte)
  | .unmatched => none
  | .written c w => some (c.bytes ++ word16Bytes w)

end Sys2Proof.Machine
end

