-- ==== Sys2Proof/Machine/Management.lean ====
section
/-! DEFINITION. Machine/Management.lean: the shared operations of the management agent (chapter 9): taking a COMMAND
record (R152), the refusal while the slot is held (R154), writing RESULT (R155) and the final outcome of a pending
command (R153). -/

namespace Sys2Proof.Machine

/-- What the owner of a command answers: its outcome and its result data (R152, step 4). -/
structure Answer where
  outcome : CommandOutcome
  data : List Byte
  deriving DecidableEq, Repr

/-- An outcome without result data. -/
def Answer.plain (o : CommandOutcome) : Answer :=
  { outcome := o, data := [] }

/-- RESULT of a command just executed (R155): rewritten whole, refusal count and last refused tag 0. -/
def resultOf (code tag : Byte) (a : Answer) : ResultRecord :=
  { tag := tag, code := code, outcome := a.outcome, refusals := 0#8, lastRefused := 0#8, data := a.data }

/-- Step 4 of R152: the owner's outcome into RESULT; PENDING takes the slot. -/
def State.recordAnswer (code tag : Byte) (a : Answer) (s : State) : State :=
  s.mapAgent fun g =>
    { g with
      result := resultOf code tag a
      slot := if a.outcome = .pending then some { code := code, tag := tag } else g.slot }

/-- The command with this code holds the slot (R153). -/
def State.slotHeldBy (s : State) (code : Byte) : Bool :=
  match s.agent.slot with
  | some sl => sl.code == code
  | none => false

/-- The final outcome of a pending command (R153): if the command with this code holds the slot, the outcome and result
data replace PENDING in RESULT and the slot is freed. -/
def State.finishPending (code : Byte) (a : Answer) (s : State) : State :=
  if s.slotHeldBy code then
    s.mapAgent fun g => { g with slot := none, result := { g.result with outcome := a.outcome, data := a.data } }
  else s

/-- A record taken while the slot is held is refused (R152, step 2), but for RESET_BRANCH while COMMIT, SLEEP_BRANCH or
WAKE_BRANCH holds it. -/
def State.refusesRecord (s : State) (code : Byte) : Bool :=
  match s.agent.slot with
  | none => false
  | some sl =>
    !(code == Code.resetBranch &&
      (sl.code == Code.commit || sl.code == Code.sleepBranch || sl.code == Code.wakeBranch))

/-- The agent's part of a refusal (R154): refusal count, last refused tag. -/
def State.refuseRecord (tag : Byte) (s : State) : State :=
  s.mapAgent fun g =>
    { g with result := { g.result with refusals := satSucc g.result.refusals, lastRefused := tag } }

/-- How the reception of a publication with n data bytes ends on a line, behind the header H0 H1 (R9, R10, R11); `none`
where that is not its end. `windowFirst`: what is handed over at the very end of the reply window comes too late. -/
def State.captureVerdict (h0 h1 : Byte) (n : Nat) (windowFirst : Bool) (line : Wave) (s : State) :
    Option BranchOutcome :=
  let early := (withinWindow n s.trunk.sinceH1 line).take (windowLeft n s.trunk.sinceH1 - 1)
  replyVerdict (crc8 [h0, h1]) n false (windowEnds n s.trunk.sinceH1 line)
    (if windowFirst then (s.trunk.receiver.hearLevels .trunk early).2 else (s.hearCapture n line).2)
    (s.hearCapture n line)

/-- What the trunk port makes of the line that a COMMAND row brings (R51, R57, R59): no end of a COMMAND reception, or
another record; an error class; or the record, handed over. -/
inductive RecordReception where
  | notReceiving
  | failed
  | handedOver
  deriving DecidableEq, Repr

/-- The reception of a COMMAND record (R10, R57, R59): the port hands it over only from its CAPTURE for COMMAND, and
only if the trunk receiver hears its 16 bytes with the check byte of the header and of them behind (R9). -/
def State.recordReception (s : State) (code tag : Byte) (ops : HeardOperands) : RecordReception :=
  match s.isRunning, s.trunk.port with
  | true, .capture .command h0 h1 =>
    match s.captureVerdict h0 h1 16 false ops.line with
    | none => .notReceiving
    | some .success =>
      if (goodBytes (s.hearCapture 16 ops.line).2).take 16 = code :: tag :: ops.bytes.toList then .handedOver
      else .notReceiving
    | some _ => .failed
  | _, _ => .notReceiving

/-- The record leaves the trunk port in PASSIVE (R57), and the test key sequence state becomes NONE (R152, step 1; a
TEST_KEY that is executed sets it again, R146). -/
def State.receiveRecord (s : State) : State :=
  (s.setPort .passive).mapAgent fun g => { g with keyState := .none }

/-- Taking a COMMAND record that was handed over (R152). `owner` carries the command out on the state it is handed and
answers; `after` is what follows RESULT in the same event. -/
def takeRecord (code tag : Byte) (owner : State → State × Answer) (after : State → State) (s : State) : State :=
  if s.refusesRecord code then s.receiveRecord.refuseRecord tag
  else after ((owner s.receiveRecord).1.recordAnswer code tag (owner s.receiveRecord).2)

/-- A COMMAND row (R57, R59, R152): the record is taken if the trunk receiver hears it with a good check byte; where
the line ends the reception with an error class, PASSIVE, and nothing is handed over. `after` is a start, for RESTART;
nothing otherwise. Where the port receives no COMMAND publication, or the line brings no such record, nothing happens
(R52, R59; log 4). -/
def takeCommandThen (code tag : Byte) (ops : HeardOperands) (owner : State → State × Answer)
    (after : State → State) (s : State) : State :=
  match s.recordReception code tag ops with
  | .notReceiving => s
  | .failed => (s.setReceiver (s.hearCapture 16 ops.line).1).setPort .passive
  | .handedOver => takeRecord code tag owner after (s.setReceiver (s.hearCapture 16 ops.line).1)

/-- A COMMAND row with nothing after RESULT (R152). -/
def takeCommand (code tag : Byte) (ops : HeardOperands) (owner : State → State × Answer) (s : State) : State :=
  takeCommandThen code tag ops owner id s

/-- An owner that checks operands first (BAD_OPERAND) and hands what it read on. -/
def withOperand {α : Type} (operand : Option α) (owner : α → State → State × Answer) (s : State) : State × Answer :=
  match operand with
  | some x => owner x s
  | none => (s, Answer.plain .badOperand)

end Sys2Proof.Machine
end

