-- ==== Sys2Proof/Machine/AgentCommands.lean ====
section
/-! DEFINITION. Machine/AgentCommands.lean: the commands of the management agent itself (chapter 9): unknown codes, NOP,
CLEAR_FLAGS, CLEAR_COUNTERS. -/

namespace Sys2Proof.Machine

/-- UNKNOWN_COMMAND (R152, step 3): BAD_COMMAND, no result data. A code that is one of the 25 makes no such event. -/
def execUnknownCommand (code tag : Byte) (ops : HeardOperands) (s : State) : Host.Outcome State Fault Refusal :=
  if isCommandCode code then .next s
  else .next (takeCommand code tag ops (fun t => (t, Answer.plain .badCommand)) s)

/-- NOP (R157): the last header stamp of its own frame. -/
def execNop (tag : Byte) (ops : HeardOperands) (s : State) : Host.Outcome State Fault Refusal :=
  .next (takeCommand Code.nop tag ops (fun t => (t, { outcome := .done, data := word16Bytes t.trunk.stamp })) s)

/-- CLEAR_FLAGS (R159): the flags of the mask are cleared; the flag word before is returned. -/
def execClearFlags (tag : Byte) (ops : HeardOperands) (s : State) : Host.Outcome State Fault Refusal :=
  .next (takeCommand Code.clearFlags tag ops
    (fun t =>
      (t.mapAgent fun g => { g with flags := g.flags &&& ~~~ opWord ops.bytes 2 },
        { outcome := .done, data := word16Bytes t.agent.flags })) s)

/-- CLEAR_COUNTERS (R161). -/
def execClearCounters (tag : Byte) (ops : HeardOperands) (s : State) : Host.Outcome State Fault Refusal :=
  .next (takeCommand Code.clearCounters tag ops
    (fun t => (t.mapAgent fun g => { g with counters := Counters.zero }, Answer.plain .done)) s)

end Sys2Proof.Machine
end

