-- ==== Sys2Proof/Machine/Records.lean ====
section
/-! DEFINITION. Machine/Records.lean: the shared operations of the record store (chapter 4): captures, aging, the serve
decision, failure history, emptying. -/

namespace Sys2Proof.Machine

/-! ## One record -/

/-- Making a record EMPTY (R65); VERSION, STAMP and SOURCE keep their values. -/
def Record.emptied (r : Record) : Record :=
  { r with
    state := .empty, data := [], age := 0#16, served := 0#8, pending := false, fails := 0#4, silent := false }

/-- A capture that is taken (R67). -/
def Record.capture (data : List Byte) (source : Source) (tickCount : Word16) (r : Record) : Record :=
  { r with
    data := data, state := .fresh, age := 0#16, served := 0#8, stamp := tickCount, source := source,
    version := r.version + 1#8 }

/-- FAILS 0 and SILENT clear (R68, R78, R79). -/
def Record.cleared (r : Record) : Record :=
  { r with fails := 0#4, silent := false }

/-- The record holds data not yet served since their capture (R68). -/
def Record.unserved (r : Record) : Bool :=
  decide (r.state = .fresh) && r.served == 0#8

/-- Aging at a tick (R72): AGE one more, saturating, and STALE at the limit. EMPTY records are not aged. -/
def Record.aged (staleLimit : Word16) (r : Record) : Record :=
  match r.state with
  | .empty => r
  | .stale => { r with age := satSucc r.age }
  | .fresh =>
    if staleLimit ≠ 0#16 ∧ staleLimit ≤ satSucc r.age then { r with age := satSucc r.age, state := .stale }
    else { r with age := satSucc r.age }

/-- The serve decision (R73). -/
def Record.serves (r : Record) (policy : MissPolicy) : Bool :=
  match r.state with
  | .fresh => true
  | .stale => decide (policy = .repeat)
  | .empty => false

/-- The failure history after a failed transaction (R77). -/
def Record.failed (silentLimit : BitVec 4) (r : Record) : Record :=
  if silentLimit ≤ satSucc r.fails then
    { r with
      fails := satSucc r.fails, silent := true
      state := if r.state = .fresh then .stale else r.state }
  else { r with fails := satSucc r.fails }

/-! ## The store -/

/-- Record i is made EMPTY (R65). -/
def State.emptyRecord (i : EntryIndex) (s : State) : State :=
  s.setRecord i (s.record i).emptied

/-- A capture taken into record i (R67), with the tick count of this moment. -/
def State.captureInto (i : EntryIndex) (data : List Byte) (source : Source) (s : State) : State :=
  s.setRecord i ((s.record i).capture data source s.sched.tickCount)

/-- PENDING of record i. -/
def State.setPendingMark (i : EntryIndex) (b : Bool) (s : State) : State :=
  s.setRecord i { s.record i with pending := b }

/-- A branch capture (R68): the node has answered; then the STORE_POLICY of active entry i judges the data. -/
def State.branchCapture (i : EntryIndex) (data : List Byte) (s : State) : State :=
  let s1 := s.setRecord i (s.record i).cleared
  if (s.activeEntry i).storePolicy = .hold ∧ (s.record i).unserved = true then s1.setFlag .captureHeld
  else s1.captureInto i data .branch

/-- Whether a trunk capture for entry i is taken (R69): the identity fields of the copy agree with active entry i, and
HOLD does not keep data that are still PENDING. -/
def State.takesTrunkCapture (i : EntryIndex) (copy : Entry) (s : State) : Bool :=
  copy.sameIdentity (s.activeEntry i) && !(decide ((s.activeEntry i).storePolicy = .hold) && (s.record i).pending)

/-- A trunk capture (R69): taken with PENDING yes, discarded with CAPTURE_HELD under HOLD, or discarded without a flag
when a commit changed the entry. -/
def State.trunkCapture (i : EntryIndex) (copy : Entry) (data : List Byte) (s : State) : State :=
  if s.takesTrunkCapture i copy then (s.captureInto i data .trunk).setPendingMark i true
  else if copy.sameIdentity (s.activeEntry i) then s.setFlag .captureHeld
  else s

/-- A failed REFRESH, PUBLISH or unmasked RELAY for entry i (R77). -/
def State.branchFailure (i : EntryIndex) (s : State) : State :=
  let limit := (s.activeEntry i).silentLimit
  let s1 := s.setRecord i ((s.record i).failed limit)
  if limit ≤ satSucc (s.record i).fails then s1.setFlag .nodeSilent else s1

/-- The record's part of a PUBLISH outcome (R78), with the snapshot's VERSION. -/
def State.publishReport (i : EntryIndex) (version : Byte) (o : BranchOutcome) (s : State) : State :=
  if o = .success then
    let r := s.record i
    s.setRecord i { r.cleared with pending := r.pending && r.version != version }
  else
    let s1 := s.branchFailure i
    if (s.record i).pending = true ∧ (s.activeEntry i).silentLimit ≤ satSucc (s.record i).fails then
      (s1.setPendingMark i false).setFlag .downlinkLost
    else s1

/-- Whether a PUBLISH outcome asks for a RETRY (R78): the record still has PENDING yes after its report. -/
def State.wantsRetry (i : EntryIndex) (version : Byte) (o : BranchOutcome) (s : State) : Bool :=
  ((s.publishReport i version o).record i).pending

/-- The report of a completed record serve (R75). -/
def State.recordServed (i : EntryIndex) (version : Byte) (s : State) : State :=
  let r := s.record i
  if r.state ≠ .empty ∧ r.version = version then s.setRecord i { r with served := satSucc r.served } else s

/-- The record read pointer after a completed RECORD READ serve (R83). -/
def RecordStore.advanceRead (st : RecordStore) : RecordStore :=
  if st.readHalf then { st with readHalf := false, readIndex := st.readIndex + 1 } else { st with readHalf := true }

/-- Aging of every record at a tick (R72), under the STALE_LIMIT of its active entry. -/
def State.ageRecords (s : State) : State :=
  s.mapRecords fun i r => r.aged (s.activeEntry i).staleLimit

/-- The record store's part of a segment reset (R79). -/
def State.clearFailures (s : State) : State :=
  s.mapRecords fun _ r => r.cleared

end Sys2Proof.Machine
end

