-- ==== Sys2Proof/Machine/Scheduling.lean ====
section
/-! DEFINITION. Machine/Scheduling.lean: the shared operations of the poll scheduler (chapter 5): requests (R92), the
queue and the deferred set (R90, R91), the refill (R93), the offer (R94), countdowns (R86, R87) and the re-offer
(R98). -/

namespace Sys2Proof.Machine

/-- The queue holds at most this many items (R90). -/
def queueCapacity : Nat := 16

/-! ## Queue and deferred set -/

/-- The queue holds an item for e. -/
def Scheduler.queued (q : Scheduler) (e : EntryIndex) : Bool :=
  q.queue.any fun it => it.entry == e

/-- The deferred set holds e. -/
def Scheduler.isDeferred (q : Scheduler) (e : EntryIndex) : Bool :=
  q.deferred.any fun d => d.entry == e

/-- Appending an item (R90): it takes the sequence counter, which then goes up by one. -/
def Scheduler.append (e : EntryIndex) (op : QueueOp) (origin : Origin) (cls : BitVec 2) (q : Scheduler) : Scheduler :=
  { q with
    queue := q.queue ++ [{ entry := e, op := op, origin := origin, cls := cls, seq := q.seqCounter }]
    seqCounter := q.seqCounter + 1#16 }

/-- The higher of two classes. -/
def higherClass (c d : BitVec 2) : BitVec 2 :=
  if c ≤ d then d else c

/-- Merging a request of class c with the item for e: the item keeps its place, SEQ, OP and ORIGIN (R92, step 2). -/
def Scheduler.merge (e : EntryIndex) (c : BitVec 2) (q : Scheduler) : Scheduler :=
  { q with queue := q.queue.map fun it => if it.entry = e then { it with cls := higherClass it.cls c } else it }

/-- An element into a deferred set kept in ascending order of entry index. -/
def insertDeferred (d : DeferredElement) : List DeferredElement → List DeferredElement
  | [] => [d]
  | x :: rest => if d.entry ≤ x.entry then d :: x :: rest else x :: insertDeferred d rest

/-- An element joins the deferred set (R92, step 5). -/
def Scheduler.defer (e : EntryIndex) (op : QueueOp) (origin : Origin) (q : Scheduler) : Scheduler :=
  { q with deferred := insertDeferred { entry := e, op := op, origin := origin } q.deferred }

/-- Every item and element discarded, with no refill (R97, R99). -/
def Scheduler.emptied (q : Scheduler) : Scheduler :=
  { q with queue := [], deferred := [] }

/-- The refill (R93): deferred elements, lowest entry index first, are appended with the PRIORITY of their active entry
until the queue holds 16 items or none is left. -/
def Scheduler.refillFrom (priority : EntryIndex → BitVec 2) : List DeferredElement → Scheduler → Scheduler
  | [], q => { q with deferred := [] }
  | d :: rest, q =>
    if q.queue.length < queueCapacity then
      Scheduler.refillFrom priority rest (q.append d.entry d.op d.origin (priority d.entry))
    else { q with deferred := d :: rest }

/-- The refill from the deferred set as it stands (R93). -/
def Scheduler.refill (priority : EntryIndex → BitVec 2) (q : Scheduler) : Scheduler :=
  Scheduler.refillFrom priority q.deferred q

/-- The PRIORITY of active entry i (R89). -/
def State.priorityOf (s : State) (i : EntryIndex) : BitVec 2 :=
  (s.activeEntry i).priority

/-- Remove the items and elements of the entries that `gone` names, then refill (R93, R81, R100, R102). -/
def State.removeWork (gone : EntryIndex → Bool) (s : State) : State :=
  s.mapSched fun q =>
    Scheduler.refill s.priorityOf
      { q with
        queue := q.queue.filter fun it => !gone it.entry
        deferred := q.deferred.filter fun d => !gone d.entry }

/-! ## Requests (R92) -/

/-- The step of R92 that decides a request; REFRESH_NOW reports it (R101). -/
inductive Disposition where
  | dropped
  | merged
  | mergedDeferred
  | queued
  | deferred
  deriving DecidableEq, Repr

/-- Disposition codes (R176). -/
def Disposition.code : Disposition → Byte
  | .dropped => 0#8
  | .merged => 1#8
  | .mergedDeferred => 2#8
  | .queued => 3#8
  | .deferred => 4#8

/-- Which step of R92 decides a request for e with this origin. -/
def State.disposition (s : State) (e : EntryIndex) (origin : Origin) : Disposition :=
  if s.link.state.isQuarantine = true ∧ origin ≠ .periodic then .dropped
  else if s.sched.queued e then .merged
  else if s.sched.isDeferred e then .mergedDeferred
  else if s.sched.queue.length < queueCapacity then .queued
  else .deferred

/-- A request for entry e (R92); its class is the PRIORITY of active entry e (R89). -/
def State.request (e : EntryIndex) (op : QueueOp) (origin : Origin) (s : State) : State :=
  match s.disposition e origin with
  | .dropped => s.setFlag .requestDropped
  | .merged => s.mapSched (Scheduler.merge e (s.priorityOf e))
  | .mergedDeferred => s
  | .queued => s.mapSched (Scheduler.append e op origin (s.priorityOf e))
  | .deferred => (s.mapSched (Scheduler.defer e op origin)).setFlag .queueFull

/-- The demand check (R74) for entry i with the copy of the entry from the lookup. -/
def State.demandCheck (i : EntryIndex) (e : Entry) (s : State) : State :=
  if e.demand = true ∧ (s.record i).state ≠ .fresh then s.request i .refresh .demand else s

/-- The re-offer (R98): a RETRY PUBLISH for every DOWNLINK entry whose record has PENDING yes, in index order. -/
def State.reOffer (s : State) : State :=
  entryIndices.foldl
    (fun t i => if (t.activeEntry i).takesPublish && (t.record i).pending then t.request i .publish .retry else t) s

/-! ## Selection (R94) -/

/-- The highest class present. -/
def highestClass (items : List QueueItem) : BitVec 2 :=
  items.foldl (fun c it => higherClass c it.cls) 0#2

/-- The item of lowest entry index. -/
def lowestEntry : List QueueItem → Option QueueItem
  | [] => none
  | it :: rest =>
    match lowestEntry rest with
    | none => some it
    | some x => if it.entry ≤ x.entry then some it else some x

/-- The item the scheduler offers (R94): of the highest class, the first in the list (ARRIVAL) or the one of lowest
entry index (INDEX). -/
def Scheduler.offer (q : Scheduler) : Option QueueItem :=
  let top := q.queue.filter fun it => it.cls == highestClass q.queue
  match q.order with
  | .arrival => top.head?
  | .index => lowestEntry top

/-! ## Countdowns (R86, R87, R88) -/

/-- The countdown of an entry runs: the entry is valid and its REFRESH above 0 (R86). -/
def Entry.countdownRuns (e : Entry) : Bool :=
  e.valid && e.refresh != 0#8

/-- A countdown value whose next decrease reaches 0. -/
def reachesZero (v : Byte) : Bool :=
  v.toNat ≤ 1

/-- PERIODIC requests are suppressed in ASLEEP and QUARANTINE (R86). -/
def LinkState.suppressesPeriodic (l : LinkState) : Bool :=
  l.isAsleep || l.isQuarantine

/-- The countdown of index i reaches 0 (R86): it is loaded with REFRESH, and a PERIODIC REFRESH is requested unless the
link is ASLEEP or in QUARANTINE. -/
def State.countdownExpires (i : EntryIndex) (s : State) : State :=
  let s1 := s.setCountdown i (s.activeEntry i).refresh
  if s1.link.state.suppressesPeriodic then s1 else s1.request i .refresh .periodic

/-- The countdown of index i is at a tick that brings it to 0. -/
def State.countdownDue (s : State) (i : EntryIndex) : Bool :=
  (s.activeEntry i).countdownRuns && reachesZero (s.countdown i)

/-- The tick's part for one countdown (R86). -/
def State.tickCountdown (s : State) (i : EntryIndex) : State :=
  if s.countdownDue i then s.countdownExpires i
  else if (s.activeEntry i).countdownRuns then s.setCountdown i (s.countdown i - 1#8)
  else s

/-- The tick's part for all countdowns, in ascending order of entry index (R86). -/
def State.tickCountdowns (s : State) : State :=
  entryIndices.foldl State.tickCountdown s

/-- The reload after a success (R87), provided that REFRESH is above 0. -/
def State.reloadCountdown (i : EntryIndex) (s : State) : State :=
  if (s.activeEntry i).refresh = 0#8 then s else s.setCountdown i (s.activeEntry i).refresh

/-- The countdown of an index at a commit, from the old and the new active entry (R88). -/
def countdownAtCommit (old new : Entry) (v : Byte) : Byte :=
  if new.valid = true ∧ (old.valid = false ∨ old.refresh ≠ new.refresh) then new.refresh else v

end Sys2Proof.Machine
end

