-- ==== Sys2Proof/Machine/Table.lean ====
section
/-! DEFINITION. Machine/Table.lean: the shared operations of the route table (chapter 2): lookup (R33 to R36),
validation (R39) and applying a commit with its effects on records and scheduler (R41, R80, R88, R100). -/

namespace Sys2Proof.Machine

/-! ## Lookup (R33 to R36) -/

/-- The first channel of the management block of a unit (R33). -/
def blockBase (unit : BitVec 3) : Nat :=
  960 + 8 * unit.toNat

/-- The channel lies in the management block of the unit (R33). -/
def inOwnBlock (unit : BitVec 3) (c : Channel) : Bool :=
  decide (blockBase unit ≤ c.toNat) && decide (c.toNat ≤ blockBase unit + 7)

/-- The eight channels of the management block, by offset k (R33). -/
inductive ManagementChannel where
  | command
  | result
  | status
  | counters
  | entryRead
  | recordRead
  | streamWrite
  | ident
  deriving DecidableEq, Repr

/-- The channel at offset k of the block (R33). -/
def managementChannel (k : Nat) : ManagementChannel :=
  match k with
  | 0 => .command
  | 1 => .result
  | 2 => .status
  | 3 => .counters
  | 4 => .entryRead
  | 5 => .recordRead
  | 6 => .streamWrite
  | _ => .ident

/-- The fixed length code of a management channel (R33). -/
def ManagementChannel.lengthCode : ManagementChannel → LengthCode
  | .status => 2#2
  | .ident => 2#2
  | .command | .result | .counters | .entryRead | .recordRead | .streamWrite => 3#2

/-- Entry e matches channel c under its group mask (R34). -/
def Entry.covers (e : Entry) (mask c : Channel) : Bool :=
  e.valid && (if e.masked then (c ^^^ e.channel) &&& mask == 0#10 else e.channel == c)

/-- The first entry of a bank that matches c (R34). -/
def Bank.firstMatch (b : Bank) (c : Channel) : Option EntryIndex :=
  entryIndices.find? fun i => (b.entry i).covers (b.maskFor i) c

/-- The branch channel of a RELAYED entry for trunk channel c (R36). -/
def Entry.relayChannel (e : Entry) (mask c : Channel) : Channel :=
  if e.masked then (e.branchChannel &&& mask) ||| (c &&& ~~~ mask) else e.branchChannel

/-- The five results of a lookup (section 2.5); a match carries what R36 lists. -/
inductive LookupResult where
  | management (channel : ManagementChannel)
  | entry (index : EntryIndex) (copy : Entry) (mask : Channel) (branchChannel : Channel)
  | ownMismatch
  | entryMismatch (index : EntryIndex)
  | unrouted
  deriving DecidableEq, Repr

/-- The lookup of channel c with length code L (R33 to R36): the management block first, then the active bank. -/
def State.lookup (s : State) (c : Channel) (l : LengthCode) : LookupResult :=
  if inOwnBlock s.agent.unit c then
    let k := managementChannel (c.toNat - blockBase s.agent.unit)
    if l = k.lengthCode then .management k else .ownMismatch
  else
    let bank := s.route.activeContents
    match bank.firstMatch c with
    | none => .unrouted
    | some i =>
      if (bank.entry i).length = l then
        .entry i (bank.entry i) (bank.maskFor i) ((bank.entry i).relayChannel (bank.maskFor i) c)
      else .entryMismatch i

/-! ## Validation (R39) -/

/-- The lowest reason code for which a valid entry offends (R39). -/
def Entry.offence (unit : BitVec 3) (mask : Channel) (e : Entry) : Option Byte :=
  if e.masked && (e.kind == .localData || e.kind == .cached || e.kind == .downlink) then some 1#8
  else if (e.refresh != 0#8 || e.demand) && (e.kind == .localData || e.kind == .downlink || e.kind == .blocked) then
    some 2#8
  else if e.kind == .relayed && e.masked && (e.refresh != 0#8 || e.demand || e.fallback) then some 3#8
  else if e.fallback && e.kind != .relayed then some 4#8
  else if ((e.kind == .cached || e.kind == .relayed || e.kind == .downlink) && e.branchChannel == 1023#10) ||
      (e.kind == .relayed && e.masked && mask &&& e.branchChannel == mask) then some 5#8
  else if inOwnBlock unit e.channel then some 6#8
  else none

/-- The offence of entry i of a bank; entries with VALID no are skipped (R39). -/
def Bank.offenceAt (b : Bank) (unit : BitVec 3) (i : EntryIndex) : Option Byte :=
  if (b.entry i).valid then (b.entry i).offence unit (b.maskFor i) else none

/-- Validation of a bank (R39): the first offending entry, with its lowest reason code. -/
def Bank.validate (b : Bank) (unit : BitVec 3) : Option (EntryIndex × Byte) :=
  entryIndices.findSome? fun i => (b.offenceAt unit i).map fun reason => (i, reason)

/-! ## Applying a commit (R41) -/

/-- Steps 1 to 3 of R41: the roles are exchanged, the count goes up by one, the pending indication is cleared. -/
def RouteTable.swapped (r : RouteTable) : RouteTable :=
  { r with activeBank := r.activeBank.other, commitCount := r.commitCount + 1#16, commitPending := false }

/-- The record store's part of a commit (R80): records whose identity fields differ are made EMPTY. -/
def State.recordsAtCommit (old : Bank) (s : State) : State :=
  s.mapRecords fun i r => if (old.entry i).sameIdentity (s.activeEntry i) then r else r.emptied

/-- Work of index i is purged at a commit (R100): its record was emptied, or an op no longer fits the new entry. -/
def QueueOp.purgedAtCommit (op : QueueOp) (old new : Entry) : Bool :=
  !(old.sameIdentity new) || !(op.fits new)

/-- The scheduler's part of a commit (R100, R93, R88): purge, refill, countdowns. -/
def State.schedAtCommit (old : Bank) (s : State) : State :=
  s.mapSched fun q =>
    { Scheduler.refill s.priorityOf
        { q with
          queue := q.queue.filter fun it => !(it.op.purgedAtCommit (old.entry it.entry) (s.activeEntry it.entry))
          deferred := q.deferred.filter fun d => !(d.op.purgedAtCommit (old.entry d.entry) (s.activeEntry d.entry)) } with
      countdowns := Vector.ofFn fun i => countdownAtCommit (old.entry i) (s.activeEntry i) (q.countdowns.get i) }

/-- Applying a commit (R41), steps 1 to 4. -/
def State.applyCommit (s : State) : State :=
  ((s.mapRoute RouteTable.swapped).recordsAtCommit s.route.activeContents).schedAtCommit s.route.activeContents

/-- The result data of COMMIT with DONE (R41, R176): bank id of the active bank and the commit count. -/
def State.commitData (s : State) : List Byte :=
  s.route.activeBank.code :: word16Bytes s.route.commitCount

/-- A pending commit is applied and COMMIT's outcome becomes DONE (R40, R41). -/
def State.applyPendingCommit (s : State) : State :=
  if s.route.commitPending then
    (s.applyCommit).finishPending Code.commit { outcome := .done, data := s.applyCommit.commitData }
  else s

/-! ## The edit bank (R25, R32) -/

/-- The configuration store is SAVING or LOADING. -/
def StoreState.isBusy : StoreState → Bool
  | .saving _ _ => true
  | .loading => true
  | .valid => false
  | .invalid => false

/-- The edit bank is held steady (R25): a commit is pending, or the store is SAVING or LOADING. -/
def State.editHeld (s : State) : Bool :=
  s.route.commitPending || s.config.store.isBusy

/-- Replace entry i of the edit bank. -/
def State.setEditEntry (i : EntryIndex) (e : Entry) (s : State) : State :=
  s.mapRoute fun r =>
    r.setEdit { r.editContents with entries := r.editContents.entries.set i.val e i.isLt }

/-- Replace group mask g of the edit bank. -/
def State.setEditMask (g : GroupIndex) (m : Channel) (s : State) : State :=
  s.mapRoute fun r =>
    r.setEdit { r.editContents with masks := r.editContents.masks.set g.val m g.isLt }

/-- An edit command whose operands passed (R25): BUSY while the edit bank is held, otherwise carried out with DONE. -/
def editCommand (change : State → State) (s : State) : State × Answer :=
  if s.editHeld then (s, Answer.plain .busy) else (change s, Answer.plain .done)

end Sys2Proof.Machine
end

