-- ==== Sys2Proof/Machine/Relaying.lean ====
section
/-! DEFINITION. Machine/Relaying.lean: the shared operations of relayed transactions (chapter 7): the relay context
(R127), the end of either side (R132 to R136), received characters (R130). -/

namespace Sys2Proof.Machine

/-! ## The context -/

/-- The context once a side has changed: it is removed when both sides have ended (R127, R136). -/
def RelayContext.kept (x : RelayContext) : Option RelayContext :=
  match x.trunkSide, x.branchSide with
  | .ended, .ended _ => none
  | .ended, .stillOpen => some x
  | .stillOpen _ _, _ => some x

/-- The trunk side has ended: the held characters are discarded and the trunk check register is no longer kept
(R135). -/
def RelayContext.endTrunk (x : RelayContext) : Option RelayContext :=
  RelayContext.kept { x with trunkSide := .ended }

/-- The trunk side of the relay, if there is one, ends (R61, R135). -/
def State.endTrunkSide (s : State) : State :=
  s.setRelay (s.link.relay.bind RelayContext.endTrunk)

/-- Relayed transactions tell the trunk port that nothing more will be handed (R61): it finishes the character it is
sending, if any, and those that wait behind it (log 10), and enters PASSIVE, which ends the trunk side. The report is
ignored outside FORWARD (R63). -/
def State.tellNothingMore (s : State) : State :=
  match s.trunk.port with
  | .forward none _ _ => (s.setPort .passive).endTrunkSide
  | .forward (some c) waiting _ => s.setPort (.forward (some c) waiting true)
  | .hunt => s
  | .header => s
  | .passive => s
  | .serve _ _ => s
  | .capture _ _ _ => s

/-! ## Admission (R128) -/

/-- The context of an admitted relay (R127, R128): both sides OPEN, both check registers over their headers. -/
def RelayContext.admitted (i : EntryIndex) (e : Entry) (branchChannel : Channel) (h0 h1 : Byte) : RelayContext :=
  { index := i, entry := e, trunkH0 := h0, trunkH1 := h1, branchH0 := headerH0 branchChannel,
    branchH1 := headerH1 branchChannel e.length,
    branchCheck := crc8 [headerH0 branchChannel, headerH1 branchChannel e.length], received := [],
    trunkSide := .stillOpen (crc8 [h0, h1]) [], branchSide := .stillOpen }

/-- Admission in one event (R128): context, descriptor with OP RELAY, HEADER, and the trunk port in FORWARD. -/
def State.admitRelay (i : EntryIndex) (e : Entry) (branchChannel : Channel) (h0 h1 : Byte) (s : State) : State :=
  (s.mapLink fun c =>
    { c with
      relay := some (RelayContext.admitted i e branchChannel h0 h1)
      state := .header
        { op := .relay i, branchChannel := branchChannel, length := e.length, rate := c.line.rate,
          breakLength := c.line.breakLength } }).setPort
    (.forward none [] false)

/-! ## Received characters (R130) -/

/-- A good data character into the context (R130): the branch check register always; the trunk check register and the
held characters only while the trunk side is OPEN. -/
def RelayContext.receive (b : Byte) (x : RelayContext) : RelayContext :=
  { x with
    branchCheck := crc8Byte x.branchCheck b
    received := x.received ++ [b]
    trunkSide := match x.trunkSide with
      | .stillOpen check held => .stillOpen (crc8Byte check b) (held ++ [.data b])
      | .ended => .ended }

/-! ## The end of the branch side (R132 to R134) -/

/-- The branch side ENDED with SUCCESS (R133): with the trunk side OPEN, the trunk check byte is formed and held
(R132). -/
def RelayContext.branchSucceeded (x : RelayContext) : RelayContext :=
  { x with
    branchSide := .ended (some .success)
    trunkSide := match x.trunkSide with
      | .stillOpen check held => .stillOpen check (held ++ [.check (~~~ check)])
      | .ended => .ended }

/-- The held characters of a context. -/
def RelayContext.held (x : RelayContext) : List ForwardChar :=
  match x.trunkSide with
  | .stillOpen _ held => held
  | .ended => []

/-- The branch side ended without a good reply, with an error class or abandoned (R134, R122): if nothing is held, the
trunk port is told at once that nothing more will be handed. -/
def State.endBranchSide (outcome : Option BranchOutcome) (s : State) : State :=
  match s.link.relay with
  | none => s
  | some x =>
    let s1 := s.setRelay (RelayContext.kept { x with branchSide := .ended outcome })
    if x.held.isEmpty then s1.tellNothingMore else s1

/-- The reports of a relay's SUCCESS (R133): for an unmasked entry a branch capture and the countdown reload; none for a
masked entry. -/
def State.reportRelaySuccess (x : RelayContext) (s : State) : State :=
  if x.entry.masked then s else (s.branchCapture x.index x.received).reloadCountdown x.index

/-- The report of a relay's failure (R134): counted for an unmasked entry, none for a masked one. -/
def State.reportRelayFailure (x : RelayContext) (s : State) : State :=
  if x.entry.masked then s else s.branchFailure x.index

/-- A relay's outcome handed to relayed transactions (R117, R133, R134). -/
def State.relayOutcome (o : BranchOutcome) (s : State) : State :=
  match s.link.relay with
  | none => s
  | some x =>
    if o = .success then (s.reportRelaySuccess x).setRelay (RelayContext.kept x.branchSucceeded)
    else (s.reportRelayFailure x).endBranchSide (some o)

/-- The characters handed to the trunk port and not yet begun are dropped: a segment reset lets the one on the line
finish and no other (R137; log 10). -/
def PortState.dropWaiting : PortState → PortState
  | .forward sending _ nothingMore => .forward sending [] nothingMore
  | p => p

/-- RESET_BRANCH abandons the branch side of a relay (R122, R137): the held characters are discarded, no check byte is
formed, and the trunk port is told at once that nothing more will be handed. -/
def State.abandonRelay (s : State) : State :=
  ((s.setPort s.trunk.port.dropWaiting).setRelay (s.link.relay.map fun x =>
    { x with trunkSide := match x.trunkSide with
        | .stillOpen check _ => .stillOpen check []
        | .ended => .ended })).endBranchSide none

end Sys2Proof.Machine
end

