-- ==== Sys2Proof/Machine/Linking.lean ====
section
/-! DEFINITION. Machine/Linking.lean: the shared operations of the branch link controller (chapters 6 and 8): taking an
item (R106), the sleep frame (R139), the outcome of a transaction (R111), quarantine (R119, R120), line settings
(R125). -/

namespace Sys2Proof.Machine

/-! ## Beginning a transaction -/

/-- The op of an item taken, with the publication snapshot for a PUBLISH (R106, R76). -/
def State.operationOf (s : State) (it : QueueItem) : TransactionOp :=
  match it.op with
  | .refresh => .refresh it.entry it.origin
  | .publish => .publish it.entry it.origin (s.record it.entry).version (s.record it.entry).data

/-- The controller takes an item (R106): it leaves the queue with the refill of R93, the descriptor is filled from the
item and its active entry, and the break begins. -/
def State.takeItem (it : QueueItem) (s : State) : State :=
  (s.mapSched fun q =>
    Scheduler.refill s.priorityOf { q with queue := q.queue.filter fun x => x.entry != it.entry }).setLinkState
    (.header
      { op := s.operationOf it, branchChannel := (s.activeEntry it.entry).branchChannel,
        length := (s.activeEntry it.entry).length, rate := s.link.line.rate, breakLength := s.link.line.breakLength })

/-- The offer of R94 and the taking of R106: in IDLE, the item offered is taken. -/
def State.takeOffered (s : State) : State :=
  if s.link.state.isIdle then
    match s.sched.offer with
    | some it => s.takeItem it
    | none => s
  else s

/-- The sleep frame is begun (R139). -/
def State.beginSleepFrame (s : State) : State :=
  s.mapLink fun c =>
    { c with
      sleepFramePending := false
      state := .header
        { op := .sleep, branchChannel := sleepChannel, length := 0#2, rate := c.line.rate,
          breakLength := c.line.breakLength } }

/-! ## Quarantine -/

/-- What the hold countdown holds on entry (R119). -/
def LineSettings.holdOnEntry (l : LineSettings) : Byte :=
  match l.policy with
  | .auto => l.qhold
  | .hold => 0#8

/-- Entering QUARANTINE (R119). -/
def State.enterQuarantine (s : State) : State :=
  ((((s.mapLink fun c =>
      { c with
        state := .quarantine, hold := c.line.holdOnEntry, sampling := false, sleepFramePending := false }).setFlag
      .linkQuarantined).mapSched
      Scheduler.emptied).finishPending Code.sleepBranch (Answer.plain .linkFailed)).finishPending
    Code.wakeBranch (Answer.plain .linkFailed)

/-- The release of a quarantine (R120, R121): IDLE, score 0, hold countdown 0, sampling over, then the re-offer (R98)
and the offer (R94). -/
def State.releaseQuarantine (s : State) : State :=
  (s.mapLink fun c => { c with state := .idle, score := 0#8, hold := 0#8, sampling := false }).reOffer.takeOffered

/-! ## Outcomes (R111) -/

/-- A PUBLISH outcome (R116, R78): the record store's part, then the RETRY request it asks for. -/
def State.publishOutcome (i : EntryIndex) (version : Byte) (o : BranchOutcome) (s : State) : State :=
  let s1 := s.publishReport i version o
  if s.wantsRetry i version o then s1.request i .publish .retry else s1

/-- A REFRESH outcome (R115): capture and countdown reload, or a failure counted. -/
def State.refreshOutcome (i : EntryIndex) (data : List Byte) (o : BranchOutcome) (s : State) : State :=
  if o = .success then (s.branchCapture i data).reloadCountdown i else s.branchFailure i

/-- The sleep frame's outcome (R117, R139): SLEEP_BRANCH completes. -/
def State.sleepOutcome (o : BranchOutcome) (s : State) : State :=
  s.finishPending Code.sleepBranch (Answer.plain (if o = .success then .done else .linkFailed))

/-- The outcome handed on by OP (R111). `data` are the characters received for a REFRESH. -/
def State.handOn (op : TransactionOp) (data : List Byte) (o : BranchOutcome) (s : State) : State :=
  match op with
  | .refresh i _ => s.refreshOutcome i data o
  | .publish i _ version _ => s.publishOutcome i version o
  | .relay _ => s.relayOutcome o
  | .sleep => s.sleepOutcome o

/-- The state chosen last (R111): QUARANTINE at a score of 128 or more; ASLEEP after a sleep frame's SUCCESS; otherwise
GAP, at the rate that governed the transaction (R118). -/
def State.leaveTransaction (t : Transaction) (o : BranchOutcome) (s : State) : State :=
  if quarantineScore ≤ s.link.score.toNat then s.enterQuarantine
  else if t.op = .sleep ∧ o = .success then s.setLinkState .asleep
  else s.setLinkState (.gap t.rate)

/-- The outcome of a transaction, one event (R111): score, counters, the hand-over by OP, then a pending commit, then
the next state. -/
def State.takeOutcome (t : Transaction) (data : List Byte) (o : BranchOutcome) (s : State) : State :=
  (((((s.scoreOutcome o).countOutcome t.op o).handOn t.op data o).mapLink fun c =>
      { c with responder := none }).applyPendingCommit).leaveTransaction
    t o

/-! ## Line settings (R125) -/

/-- The effect of a new quarantine policy on the hold countdown and the sampling in QUARANTINE (R125). -/
def LinkController.withLine (l : LineSettings) (c : LinkController) : LinkController :=
  if c.state.isQuarantine = true ∧ c.line.policy ≠ l.policy then
    { c with line := l, hold := l.holdOnEntry, sampling := false }
  else { c with line := l }

/-- Writing the six line settings (R124, R125, R171). -/
def State.writeLine (l : LineSettings) (s : State) : State :=
  s.mapLink (LinkController.withLine l)

/-! ## The tick's part (R84, R120, R144) -/

/-- The hold countdown runs: QUARANTINE under AUTO, no sampling under way (R120). -/
def LinkController.holdRuns (c : LinkController) : Bool :=
  c.state.isQuarantine && decide (c.line.policy = .auto) && !c.sampling

/-- The hold countdown reaches 0: the three samples begin (R120). -/
def State.holdExpires (s : State) : State :=
  s.mapLink fun c => { c with hold := 0#8, sampling := true }

/-- The settle countdown reaches 0: IDLE, and a pending WAKE_BRANCH completes with DONE (R144). -/
def State.settleExpires (s : State) : State :=
  (s.mapLink fun c => { c with settle := 0#8, state := .idle }).finishPending Code.wakeBranch (Answer.plain .done)

/-- The link state is WAKE_SETTLE. -/
def LinkState.isSettling : LinkState → Bool
  | .wakeSettle => true
  | _ => false

/-- The controller's part of a tick: hold countdown in QUARANTINE, settle countdown in WAKE_SETTLE (R84). -/
def State.tickLink (s : State) : State :=
  if s.link.holdRuns then
    if reachesZero s.link.hold then s.holdExpires else s.mapLink fun c => { c with hold := c.hold - 1#8 }
  else if s.link.state.isSettling then
    if reachesZero s.link.settle then s.settleExpires else s.mapLink fun c => { c with settle := c.settle - 1#8 }
  else s

end Sys2Proof.Machine
end

