-- ==== Sys2Proof/Machine/RelayEvents.lean ====
section
/-! DEFINITION. Machine/RelayEvents.lean: the events of relayed transactions and of the trunk transmitter in FORWARD
(chapters 3 and 7). -/

namespace Sys2Proof.Machine

/-- The reply byte the loopback responder sends at position k (R148). -/
def LinkController.responderByte (c : LinkController) (k : Nat) : Byte :=
  (c.responder.getD []).getD k 0#8

/-- The controller is in REPLY_WAIT for a relay (R130). -/
def LinkState.awaitsRelay : LinkState → Bool
  | .replyWait t =>
    match t.op with
    | .relay _ => true
    | .refresh _ _ => false
    | .publish _ _ _ _ => false
    | .sleep => false
  | _ => false

/-- The branch receiver goes on from there, and so many sixteenths have passed since the end of H1 (R11). -/
def State.receiveReply (r : Receiver) (sinceH1 : Nat) (s : State) : State :=
  (s.setBranchReceiver r).mapLink fun c => { c with sinceH1 := sinceH1 }

/-- The reply character of n that comes on the branch, the only one on the line given, before the reply window ends,
with the state after it: the node's in NORMAL, the responder's at position k in LOOPBACK, whose receiver hears nothing
else (R148; log 16). -/
def State.replyCharacter (s : State) (n k : Nat) (line : Wave) : Option (Byte × State) :=
  match s.link.mode with
  | .normal =>
    match s.hearReply n line with
    | (r, [.character (.good b)]) =>
      some (b, s.receiveReply r (s.link.sinceH1 + (withinWindow n s.link.sinceH1 line).length))
    | _ => none
  | .loopback => some (s.link.responderByte k, s.hearLoopback (characterLevels (s.link.responderByte k)))

/-- RELAY_CHARACTER_RECEIVED (R130): a good data character, received count below n. -/
def execRelayCharacterReceived (line : Wave) (s : State) : Host.Outcome State Fault Refusal :=
  match s.isRunning && s.link.state.awaitsRelay, s.link.relay with
  | true, some x =>
    if x.received.length < x.entry.bytes then
      match s.replyCharacter x.entry.bytes x.received.length line with
      | some (b, t) => .next (t.setRelay (some (x.receive b)))
      | none => .next s
    else .next s
  | _, _ => .next s

/-- The branch side ended without a good reply (R134, R122). -/
def BranchSide.failed : BranchSide → Bool
  | .stillOpen => false
  | .ended (some .success) => false
  | .ended _ => true

/-- A character is handed to the trunk transmitter (R61): it is sent, or waits while another is being sent. -/
def PortState.handed (c : ForwardChar) (last : Bool) : PortState → PortState
  | .forward none waiting nothingMore => .forward (some c) waiting (nothingMore || last)
  | .forward (some d) waiting nothingMore => .forward (some d) (waiting ++ [c]) (nothingMore || last)
  | p => p

/-- FORWARD_CHARACTER_HANDOFF (R131): the first held character leaves the held characters and goes to the trunk port,
which sends it, or has it wait for the one being sent (R61; log 10). When the last held character of a relay whose
branch side failed is handed, nothing more will be (R134). -/
def execForwardCharacterHandoff (s : State) : Host.Outcome State Fault Refusal :=
  match s.isRunning, s.trunk.port, s.link.relay with
  | true, .forward sending waiting nothingMore, some x =>
    match x.trunkSide with
    | .stillOpen check (c :: rest) =>
      .next ((s.setRelay (some { x with trunkSide := .stillOpen check rest })).setPort
        (PortState.handed c (rest.isEmpty && x.branchSide.failed) (.forward sending waiting nothingMore)))
    | .stillOpen _ [] => .next s
    | .ended => .next s
  | _, _, _ => .next s

/-- RELAY_TRUNK_COMPLETE (R132): the trunk check byte reads back correctly; RELAYED_OK goes up and the trunk side ends.
-/
def execRelayTrunkComplete (s : State) (sent : Transmission := {}) : Host.Outcome State Fault Refusal :=
  match s.isRunning, s.trunk.port with
  | true, .forward (some (.check b)) _ _ =>
    match s.sentOnTrunk [b] sent with
    | some t => .next (((t.count .relayedOk).setPort .passive).endTrunkSide)
    | none => .next s
  | _, _ => .next s

/-- TRUNK_FORWARD_BIT_ERROR (R13, R62, R135): a bit of the character being sent reads back differently; those handed and
not yet begun are discarded. -/
def execTrunkForwardBitError (s : State) (sent : Transmission := differingLine) : Host.Outcome State Fault Refusal :=
  match s.isRunning, s.trunk.port with
  | true, .forward (some c) _ _ =>
    match s.collidesOnTrunk [c.value] sent with
    | some t => .next (((t.setFlag .trunkCollision).setPort .passive).endTrunkSide)
    | none => .next s
  | _, _ => .next s

/-- FORWARDED_CHARACTER_FINISHED (R61): the transmitter finishes a forwarded data character, read back as sent. The next
of the waiting characters is begun; with none waiting, the port enters PASSIVE and the trunk side ends after nothing
more will be handed, and otherwise the transmitter waits for the next character (log 11). -/
def execForwardedCharacterFinished (s : State) (sent : Transmission := {}) : Host.Outcome State Fault Refusal :=
  match s.isRunning, s.trunk.port with
  | true, .forward (some (.data b)) waiting nothingMore =>
    match s.sentOnTrunk [b] sent with
    | some t =>
      match waiting, nothingMore with
      | c :: rest, _ => .next (t.setPort (.forward (some c) rest nothingMore))
      | [], true => .next ((t.setPort .passive).endTrunkSide)
      | [], false => .next (t.setPort (.forward none [] false))
    | none => .next s
  | _, _ => .next s

end Sys2Proof.Machine
end

