-- ==== Sys2Proof/Machine/BranchEvents.lean ====
section
/-! DEFINITION. Machine/BranchEvents.lean: the events of the branch line (chapters 6 and 8): headers sent, replies,
publications, faults, the gap, wakes and wake pulses. What the receiver hands over in a state that does not use it
changes nothing (R112). -/

namespace Sys2Proof.Machine

/-- The levels of a transaction's break, delimiter and header (R4, R108). -/
def Transaction.headerSent (t : Transaction) : List Bool :=
  headerLevels t.breakLength (headerH0 t.branchChannel) (headerH1 t.branchChannel t.length)

/-- The bits of break and delimiter at the beginning of a header (R4): a difference in them is LINE_FAULT, one in H0 or
H1 BIT_ERROR (R13, R14). -/
def Transaction.breakBits (t : Transaction) : Nat :=
  t.breakLength.bits + delimiterBits

/-- BRANCH_LINE_FAULT (R4, R14, R108): readback of the break or the delimiter differs in HEADER; the outcome is
LINE_FAULT. None arises in LOOPBACK (R148). -/
def execBranchLineFault (s : State) (sent : Transmission := differingLine) : Host.Outcome State Fault Refusal :=
  match s.isRunning && s.noWakeBefore sent, s.link.state with
  | true, .header t =>
    match s.differsOnBranch t.headerSent sent with
    | some k => if k < t.breakBits then .next ((s.cutOnBranch sent k).takeOutcome t [] .lineFault) else .next s
    | none => .next s
  | _, _ => .next s

/-- BRANCH_BIT_ERROR (R13, R108, R110): readback of a character differs in HEADER or DATA_OUT; the outcome is BIT_ERROR.
None arises in LOOPBACK (R148). -/
def execBranchBitError (s : State) (sent : Transmission := differingLine) : Host.Outcome State Fault Refusal :=
  match s.isRunning, s.link.state with
  | true, .header t =>
    match s.noWakeBefore sent, s.differsOnBranch t.headerSent sent with
    | true, some k => if k < t.breakBits then .next s else .next ((s.cutOnBranch sent k).takeOutcome t [] .bitError)
    | _, _ => .next s
  | true, .dataOut t =>
    match s.differsOnBranch (charactersLevels t.published) sent with
    | some k => .next ((s.cutOnBranch sent k).takeOutcome t [] .bitError)
    | none => .next s
  | _, _ => .next s

/-- The reply the loopback responder forms from a copy of the record's DATA at the end of H1 (R148): n complemented
bytes, or n bytes of 0xFF for an EMPTY record. -/
def responderReply (r : Record) (n : Nat) : List Byte :=
  match r.state with
  | .empty => List.replicate n 0xFF#8
  | .fresh => r.data.map fun b => ~~~ b
  | .stale => r.data.map fun b => ~~~ b

/-- REPLY_WAIT is entered for entry i, at the end of H1 (R108, R109); in LOOPBACK the responder takes its copy (R148). -/
def State.awaitReply (t : Transaction) (i : EntryIndex) (s : State) : State :=
  s.mapLink fun c =>
    { c with
      state := .replyWait t
      responder := match c.mode with
        | .normal => none
        | .loopback => some (responderReply (s.record i) (dataBytes t.length))
      sinceH1 := 0 }

/-- H1's stop bit has been read back (R108): REPLY_WAIT for a REFRESH or RELAY, DATA_OUT for a PUBLISH or the sleep
frame. -/
def State.headerSent (t : Transaction) (s : State) : State :=
  match t.op with
  | .refresh i _ => s.awaitReply t i
  | .relay i => s.awaitReply t i
  | .publish _ _ _ _ => s.setLinkState (.dataOut t)
  | .sleep => s.setLinkState (.dataOut t)

/-- BRANCH_HEADER_SENT (R4, R108): break, delimiter, H0 and H1 read back as sent. -/
def execBranchHeaderSent (s : State) (sent : Transmission := {}) : Host.Outcome State Fault Refusal :=
  match s.isRunning && s.noWakeBefore sent, s.link.state with
  | true, .header t =>
    match s.sentOnBranch t.headerSent sent with
    | some u => .next (u.headerSent t)
    | none => .next s
  | _, _ => .next s

/-- The CRC-8 register over a transaction's own header (R9). -/
def Transaction.register (t : Transaction) : Byte :=
  crc8 [headerH0 t.branchChannel, headerH1 t.branchChannel t.length]

/-- The end of a reply reception on the branch: the state with the branch receiver after it, the data that came in it,
and the outcome. -/
structure BranchReception where
  after : State
  data : List Byte
  outcome : BranchOutcome
  deriving DecidableEq, Repr

/-- What is handed over early enough for a reception of n data bytes, where the reply window is taken before what comes
at its very end (R11). -/
def State.earlyReply (s : State) (n : Nat) (line : Wave) : List RxEvent :=
  (s.link.receiver.hearReply .branch s.link.sinceH1
    ((withinWindow n s.link.sinceH1 line).take (windowLeft n s.link.sinceH1 - 1))).2

/-- The end of a REFRESH's reply reception (R10, R11, R109, R115): on the line in NORMAL; in LOOPBACK the responder's
reply with its check byte, received as a node's (R148; log 16). -/
def State.refreshReception (t : Transaction) (ending : ReplyEnd) (s : State) : Option BranchReception :=
  match s.link.mode with
  | .normal =>
    let n := dataBytes t.length
    let heard := s.hearReply n ending.line
    (replyVerdict t.register n false (windowEnds n s.link.sinceH1 ending.line)
        (if ending.windowFirst then s.earlyReply n ending.line else heard.2) heard).map fun o =>
      { after := s.setBranchReceiver heard.1, data := (goodBytes heard.2).take n, outcome := o }
  | .loopback =>
    let reply := s.link.responder.getD []
    let sent := replyCharacters (headerH0 t.branchChannel) (headerH1 t.branchChannel t.length) reply
    some { after := s.hearLoopback (replyLevels sent), data := reply, outcome := .success }

/-- The end of a RELAY's reply reception (R10, R11, R109, R130), whose data characters came before one by one: on the
line the check byte, a character marked FRAMING or the end of the window; in LOOPBACK the responder's check byte, which
is that of the branch check register (R148; log 16). -/
def State.relayReception (x : RelayContext) (ending : ReplyEnd) (s : State) : Option BranchReception :=
  match s.link.mode with
  | .normal =>
    let n := x.entry.bytes
    let heard := s.hearReply n ending.line
    let counted := if ending.windowFirst then s.earlyReply n ending.line else heard.2
    if x.received.length < n ∧ goodBytes counted ≠ [] then none
    else
      (replyVerdict x.branchCheck (n - x.received.length) (!x.received.isEmpty)
          (windowEnds n s.link.sinceH1 ending.line) counted heard).map fun o =>
        { after := s.setBranchReceiver heard.1, data := [], outcome := o }
  | .loopback =>
    if x.received.length = x.entry.bytes then
      some { after := s.hearLoopback (characterLevels (~~~ x.branchCheck)), data := [], outcome := .success }
    else none

/-- The end of a reply reception gives the outcome of the transaction. -/
def State.replyEnds (t : Transaction) (e : Option BranchReception) (s : State) : State :=
  match e with
  | some e => e.after.takeOutcome t e.data e.outcome
  | none => s

/-- BRANCH_REPLY_END (R109, R130): reply reception ends and gives the outcome. -/
def execBranchReplyEnd (ending : ReplyEnd) (s : State) : Host.Outcome State Fault Refusal :=
  match s.isRunning, s.link.state with
  | true, .replyWait t =>
    match t.op, s.link.relay with
    | .refresh _ _, _ => .next (s.replyEnds t (s.refreshReception t ending))
    | .relay _, some x => .next (s.replyEnds t (s.relayReception x ending))
    | .relay _, none => .next s
    | .publish _ _ _ _, _ => .next s
    | .sleep, _ => .next s
  | _, _ => .next s

/-- PUBLISH_DATA_SENT (R110): data and check byte read back as sent in DATA_OUT; the outcome is SUCCESS. -/
def execPublishDataSent (s : State) (sent : Transmission := {}) : Host.Outcome State Fault Refusal :=
  match s.isRunning, s.link.state with
  | true, .dataOut t =>
    match s.sentOnBranch (charactersLevels t.published) sent with
    | some u => .next (u.takeOutcome t [] .success)
    | none => .next s
  | _, _ => .next s

/-- The end of a gap (R118, R107): IDLE; a pending sleep frame is begun before any offer; otherwise a WAKE_BRANCH whose
pulse was sent from IDLE completes (R143), and the offer is made (R94). -/
def State.gapEnds (s : State) : State :=
  if s.link.sleepFramePending then (s.setLinkState .idle).beginSleepFrame
  else ((s.setLinkState .idle).finishPending Code.wakeBranch (Answer.plain .done)).takeOffered

/-- GAP_END (R118). -/
def execGapEnd (s : State) : Host.Outcome State Fault Refusal :=
  match s.isRunning, s.link.state with
  | true, .gap _ => .next s.gapEnds
  | _, _ => .next s

/-- The settle begins (R141, R143, R144). -/
def State.beginSettle (s : State) : State :=
  s.mapLink fun c => { c with state := .wakeSettle, settle := c.line.settleLen }

/-- A wake ends the line, its only one: a low that ends, so many sixteenths after `before`, with a return to high (R18). In
the states of R18 the branch is outside a frame, and has been since the last row that brought its line; what was low
already then is a wake only if it began outside a frame (R145; log 19). -/
def State.hearsWake (s : State) (before : Wave) (low : Nat) : Bool :=
  s.wakesOn (Wave.levels (lowAfter before low)) && !s.wakesOn (Wave.levels before)

/-- A wake is handed over (R141): BRANCH_WAKE. -/
def State.wakeDetected (line : Wave) (s : State) : State :=
  (s.setBranchReceiver (s.hearBranch line).1).setFlag .branchWake

/-- BRANCH_WAKE_DETECTED (R18, R141): the low is a wake; BRANCH_WAKE, and from ASLEEP the settle. In the states that
transmit or receive a reply, and in LOOPBACK, no wake is handed over. -/
def execBranchWakeDetected (before : Wave) (low : Nat) (s : State) : Host.Outcome State Fault Refusal :=
  let woken := s.wakeDetected (lowAfter before low)
  match s.isRunning && s.hearsWake before low, s.link.state with
  | true, .asleep => .next woken.beginSettle
  | true, .wakeSettle => .next woken
  | true, .idle => .next woken
  | true, .gap _ => .next woken
  | true, .quarantine => .next woken
  | _, _ => .next s

/-- A wake pulse has ended as sent (R143): WAKE_SETTLE from ASLEEP, GAP at the branch rate of the pulse from IDLE. -/
def State.pulseEnds (fromAsleep : Bool) (rate : RateCode) (s : State) : State :=
  if fromAsleep then s.beginSettle else s.setLinkState (.gap rate)

/-- WAKE_PULSE_END (R14, R17, R143): every step of the pulse reads low, by its three samples. The line is given in
sixteenths of a step (log 27). -/
def execWakePulseEnd (s : State) (sent : Transmission := {}) : Host.Outcome State Fault Refusal :=
  match s.isRunning, s.link.state with
  | true, .wakeOut fromAsleep steps rate =>
    match s.pulseSent steps sent with
    | some t => .next (t.pulseEnds fromAsleep rate)
    | none => .next s
  | _, _ => .next s

/-- A failed pulse (R143): the score rises by 16, WAKE_BRANCH completes with LINK_FAILED, then QUARANTINE, ASLEEP or
GAP, at the branch rate of the pulse. -/
def State.pulseFails (fromAsleep : Bool) (rate : RateCode) (s : State) : State :=
  let s1 := (s.scoreOutcome .lineFault).finishPending Code.wakeBranch (Answer.plain .linkFailed)
  if quarantineScore ≤ s1.link.score.toNat then s1.enterQuarantine
  else if fromAsleep then s1.setLinkState .asleep
  else s1.setLinkState (.gap rate)

/-- WAKE_PULSE_FAULT (R14, R17, R143): a step of the pulse reads high; none does in LOOPBACK (R148). -/
def execWakePulseFault (s : State) (sent : Transmission := differingLine) : Host.Outcome State Fault Refusal :=
  match s.isRunning, s.link.state with
  | true, .wakeOut fromAsleep steps rate =>
    match s.pulseCut steps sent with
    | some t => .next (t.pulseFails fromAsleep rate)
    | none => .next s
  | _, _ => .next s

end Sys2Proof.Machine
end

