-- ==== Sys2Proof/Machine/LinkCommands.lean ====
section
/-! DEFINITION. Machine/LinkCommands.lean: the commands of the branch link controller, sleep, wake and loopback test
(chapters 6 and 8). -/

namespace Sys2Proof.Machine

/-! ## SET_LINE (R124) -/

/-- A break length operand: 0 for 13, 1 for 17 (R124). -/
def breakOperand (b : Byte) : Option BreakLength :=
  if b = 0#8 then some .bits13 else if b = 1#8 then some .bits17 else none

/-- A policy operand: 0 AUTO, 1 HOLD (R124). -/
def policyOperand (b : Byte) : Option QuarantinePolicy :=
  if b = 0#8 then some .auto else if b = 1#8 then some .hold else none

/-- The six operands of SET_LINE, if every one is in range (R124, R175). -/
def lineOperands (ops : Operands) : Option LineSettings :=
  match breakOperand (opByte ops 3), policyOperand (opByte ops 4) with
  | some breakLength, some policy =>
    if (opByte ops 2).toNat ≤ 3 ∧ 1 ≤ (opByte ops 5).toNat ∧ 1 ≤ (opByte ops 6).toNat ∧ (opByte ops 6).toNat ≤ 20 ∧
        1 ≤ (opByte ops 7).toNat then
      some
        { rate := (opByte ops 2).setWidth 2, breakLength := breakLength, policy := policy, qhold := opByte ops 5,
          wakeLen := opByte ops 6, settleLen := opByte ops 7 }
    else none
  | _, _ => none

/-- SET_LINE (R124): BUSY in HEADER, REPLY_WAIT and DATA_OUT. -/
def execSetLine (tag : Byte) (ops : HeardOperands) (s : State) : Host.Outcome State Fault Refusal :=
  .next (takeCommand Code.setLine tag ops
    (withOperand (lineOperands ops.bytes) fun l t =>
      if t.link.state.inTransaction then (t, Answer.plain .busy) else (t.writeLine l, Answer.plain .done)) s)

/-! ## RELEASE_LINK (R121) -/

/-- RELEASE_LINK (R121): in QUARANTINE, under either policy, the release; BAD_STATE elsewhere. -/
def execReleaseLink (tag : Byte) (ops : HeardOperands) (s : State) : Host.Outcome State Fault Refusal :=
  .next (takeCommand Code.releaseLink tag ops
    (fun t =>
      if t.link.state.isQuarantine then (t.releaseQuarantine, Answer.plain .done) else (t, Answer.plain .badState)) s)

/-! ## RESET_BRANCH (R122, R123) -/

/-- A transaction in progress is abandoned (R122): relayed transactions are told for a RELAY. -/
def State.abandonTransaction (s : State) : State :=
  match s.link.state.transaction with
  | some t =>
    match t.op with
    | .relay _ => s.abandonRelay
    | .refresh _ _ => s
    | .publish _ _ _ _ => s
    | .sleep => s
  | none => s

/-- The controller's own part of a segment reset (R122). -/
def LinkController.segmentReset (c : LinkController) : LinkController :=
  { c with
    state := .idle, mode := .normal, score := 0#8, hold := 0#8, settle := 0#8, sampling := false,
    sleepFramePending := false, responder := none }

/-- The effects of R122: abandonment, IDLE and NORMAL, queue emptied (R99), failure history cleared (R79), and a pending
SLEEP_BRANCH or WAKE_BRANCH ended with ABORTED. -/
def State.segmentReset (s : State) : State :=
  ((((s.abandonTransaction.mapLink LinkController.segmentReset).mapSched Scheduler.emptied).clearFailures).finishPending
    Code.sleepBranch (Answer.plain .aborted)).finishPending
    Code.wakeBranch (Answer.plain .aborted)

/-- R122, then the completion of R123 up to RESULT: the re-offer, and the pending commit. -/
def State.resetBranch (s : State) : State :=
  s.segmentReset.reOffer.applyPendingCommit

/-- The result data of RESET_BRANCH (R123, R176): code, tag and final outcome of the command it ended. -/
def endedCommand (slot : Option Slot) (after : State) : List Byte :=
  match slot with
  | some sl => [sl.code, sl.tag, after.agent.result.outcome.code]
  | none => []

/-- A transaction or wake pulse is on the branch (R104). -/
def LinkState.inFrame : LinkState → Bool
  | .header _ | .replyWait _ | .dataOut _ | .wakeOut _ _ _ => true
  | .idle | .gap _ | .quarantine | .asleep | .wakeSettle => false

/-- The branch receiver has heard what it was fed up to a segment reset that cuts a transaction or a wake pulse short
(R112, R122; log 24); of a pulse, in sixteenths of a step. -/
def State.hearFrameCut (branch : Transmission) (s : State) : State :=
  match s.link.state with
  | .wakeOut _ _ _ => s.pulseHeard branch.before (Wave.levels branch.during)
  | .header _ | .replyWait _ | .dataOut _ => s.hearFrame (Wave.levels branch.before) (Wave.levels branch.during)
  | .idle | .gap _ | .quarantine | .asleep | .wakeSettle => s

/-- RESET_BRANCH (R122, R123): taken while COMMIT, SLEEP_BRANCH or WAKE_BRANCH holds the slot (R152). -/
def execResetBranch (tag : Byte) (ops : HeardOperands) (s : State) (branch : Transmission := {}) :
    Host.Outcome State Fault Refusal :=
  .next (takeCommand Code.resetBranch tag ops
    (fun t =>
      ((t.hearFrameCut branch).resetBranch.takeOffered,
        { outcome := .done, data := endedCommand t.agent.slot (t.hearFrameCut branch).resetBranch })) s)

/-! ## SLEEP_BRANCH and WAKE_BRANCH (R138, R142) -/

/-- The owner of SLEEP_BRANCH, by mode and link state (R138). WAKE_OUT does not meet it: WAKE_BRANCH holds the slot
there (R143; log 17). -/
def sleepOwner (s : State) : State × Answer :=
  match s.link.mode, s.link.state with
  | .loopback, _ => (s, Answer.plain .badState)
  | .normal, .idle => (s.beginSleepFrame, Answer.plain .pending)
  | .normal, .gap _ => (s.mapLink fun c => { c with sleepFramePending := true }, Answer.plain .pending)
  | .normal, .header _ => (s.mapLink fun c => { c with sleepFramePending := true }, Answer.plain .pending)
  | .normal, .replyWait _ => (s.mapLink fun c => { c with sleepFramePending := true }, Answer.plain .pending)
  | .normal, .dataOut _ => (s.mapLink fun c => { c with sleepFramePending := true }, Answer.plain .pending)
  | .normal, .asleep => (s, Answer.plain .done)
  | .normal, .quarantine => (s, Answer.plain .badState)
  | .normal, .wakeSettle => (s, Answer.plain .badState)
  | .normal, .wakeOut _ _ _ => (s, Answer.plain .badState)

/-- SLEEP_BRANCH (R138). -/
def execSleepBranch (tag : Byte) (ops : HeardOperands) (s : State) : Host.Outcome State Fault Refusal :=
  .next (takeCommand Code.sleepBranch tag ops sleepOwner s)

/-- A wake pulse begins with the WAKE_LEN and the branch rate in force (R125, R142, R143). -/
def State.beginPulse (fromAsleep : Bool) (s : State) : State :=
  s.mapLink fun c => { c with state := .wakeOut fromAsleep c.line.wakeLen c.line.rate }

/-- The owner of WAKE_BRANCH, by mode and link state (R142). WAKE_OUT does not meet it (R143; log 17). -/
def wakeOwner (s : State) : State × Answer :=
  match s.link.mode, s.link.state with
  | .loopback, _ => (s, Answer.plain .badState)
  | .normal, .asleep => (s.beginPulse true, Answer.plain .pending)
  | .normal, .idle => (s.beginPulse false, Answer.plain .pending)
  | .normal, .wakeSettle => (s, Answer.plain .pending)
  | .normal, .header _ => (s, Answer.plain .badState)
  | .normal, .replyWait _ => (s, Answer.plain .badState)
  | .normal, .dataOut _ => (s, Answer.plain .badState)
  | .normal, .gap _ => (s, Answer.plain .badState)
  | .normal, .quarantine => (s, Answer.plain .badState)
  | .normal, .wakeOut _ _ _ => (s, Answer.plain .badState)

/-- WAKE_BRANCH (R142). -/
def execWakeBranch (tag : Byte) (ops : HeardOperands) (s : State) : Host.Outcome State Fault Refusal :=
  .next (takeCommand Code.wakeBranch tag ops wakeOwner s)

/-! ## TEST_KEY and TEST_EXIT (R146, R147, R150) -/

/-- What a key does in a sequence state (R146): the state after it and the outcome; none for a third key. -/
def keyStep (k : KeyState) (key : Byte) : Option (KeyState × CommandOutcome) :=
  if key = 0x3C#8 then some (.key1, .keyAccepted)
  else
    match k with
    | .none => some (.none, .keyRestart)
    | .key1 => if key = 0xC3#8 then some (.key2, .keyAccepted) else some (.none, .keyRestart)
    | .key2 => if key = 0x5A#8 then none else some (.none, .keyRestart)

/-- A third key (R147): LOOPBACK if the link is IDLE and the branch queue empty, otherwise BAD_STATE; NONE either way. In
LOOPBACK the receiver hears no more of a low that is under way on the branch (R148; log 19). -/
def enterLoopback (s : State) : State × Answer :=
  if s.link.state.isIdle && s.sched.queue.isEmpty then
    (s.mapLink fun c => { c with mode := .loopback, outsideLow := none }, { outcome := .done, data := [0#8] })
  else (s, { outcome := .badState, data := [0#8] })

/-- The owner of TEST_KEY: `k` is the sequence state before the record was taken (R146, R152 step 1). -/
def testKeyOwner (k : KeyState) (key : Byte) (s : State) : State × Answer :=
  match keyStep k key with
  | some (k', o) =>
    (s.mapAgent fun g => { g with keyState := k' }, { outcome := o, data := [k'.code.setWidth 8] })
  | none => enterLoopback s

/-- TEST_KEY (R146). -/
def execTestKey (tag : Byte) (ops : HeardOperands) (s : State) : Host.Outcome State Fault Refusal :=
  .next (takeCommand Code.testKey tag ops (testKeyOwner s.agent.keyState (opByte ops.bytes 2)) s)

/-- The owner of TEST_EXIT, by mode and link state (R150). In LOOPBACK the link is in IDLE, HEADER, REPLY_WAIT, DATA_OUT
or GAP (R149); the other states are answered BAD_STATE (log 17). -/
def testExitOwner (s : State) : State × Answer :=
  match s.link.mode, s.link.state with
  | .normal, _ => (s, Answer.plain .badState)
  | .loopback, .idle =>
    ((s.mapLink fun c => { c with mode := .normal, state := .idle }).takeOffered, Answer.plain .done)
  | .loopback, .gap _ =>
    ((s.mapLink fun c => { c with mode := .normal, state := .idle }).takeOffered, Answer.plain .done)
  | .loopback, .header _ => (s, Answer.plain .busy)
  | .loopback, .replyWait _ => (s, Answer.plain .busy)
  | .loopback, .dataOut _ => (s, Answer.plain .busy)
  | .loopback, .quarantine => (s, Answer.plain .badState)
  | .loopback, .asleep => (s, Answer.plain .badState)
  | .loopback, .wakeOut _ _ _ => (s, Answer.plain .badState)
  | .loopback, .wakeSettle => (s, Answer.plain .badState)

/-- TEST_EXIT (R150). -/
def execTestExit (tag : Byte) (ops : HeardOperands) (s : State) : Host.Outcome State Fault Refusal :=
  .next (takeCommand Code.testExit tag ops testExitOwner s)

end Sys2Proof.Machine
end

