-- ==== Sys2Proof/Machine/Starting.lean ====
section
/-! DEFINITION. Machine/Starting.lean: the shared operations of starts and of the configuration store (chapter 10): the
start sequence (R166), the snapshot of a save (R44, R169) and the effect of a load (R171). -/

namespace Sys2Proof.Machine

/-- The settings and table a start applies (R166, phases 3 and 4): those of a VALID image, else the cleared bank and the
defaults. -/
def startContents (image : Image) : ImageContents :=
  image.validContents.getD { bank := clearedBank, line := defaultLine, tickPeriod := 10#8, order := .arrival }

/-- The flag word a start leaves (R165, R166 phase 6). -/
def startFlags (image : Image) : Word16 :=
  if image.validContents.isSome then Flag.restarted.mask else Flag.restarted.mask ||| Flag.storeInvalid.mask

/-- The block in the start sequence of a start (R166): the image survives, RESULT is the one given, the straps are
sampled, and everything else takes its start values (R43, R45, R66, R103, R126, R165). The sequence ends with
START_SEQUENCE_COMPLETE. -/
def startState (cause : ResetCause) (straps : Straps) (image : Image) (result : ResultRecord)
    (pending : List Instr) : State :=
  let c := startContents image
  { State.reset with
    power := .starting
    route := { State.reset.route with bankA := c.bank, bankB := c.bank }
    sched :=
      { State.reset.sched with
        tickPeriod := c.tickPeriod, runningPeriod := c.tickPeriod, order := c.order
        countdowns := Vector.ofFn fun i => (c.bank.entry i).refresh }
    link := { State.reset.link with line := c.line, receiverRate := c.line.rate }
    trunk := { State.reset.trunk with rate := straps.rate }
    agent := { State.reset.agent with unit := straps.unit, result := result, flags := startFlags image }
    config :=
      { image := image, cause := cause, store := if image.validContents.isSome then .valid else .invalid }
    pending := pending }

/-- A start from power-on or pin reset: RESULT is cleared (R155, R165). -/
def State.start (cause : ResetCause) (straps : Straps) (s : State) : State :=
  startState cause straps s.config.image State.reset.agent.result s.pending

/-- The start of RESTART: RESULT is left as RESTART wrote it (R172). -/
def State.restarted (straps : Straps) (s : State) : State :=
  startState .restart straps s.config.image s.agent.result s.pending

/-- The snapshot of a save (R44, R169): the active bank and the settings as they stand. -/
def State.saveSnapshot (s : State) : ImageContents :=
  { bank := s.route.activeContents, line := s.link.line, tickPeriod := s.sched.tickPeriod, order := s.sched.order }

/-- A load completes (R171): the edit bank is replaced, the line settings are written with the effects of SET_LINE, the
tick period and order mode with those of SET_TICK and SET_ORDER. -/
def State.applyLoad (c : ImageContents) (s : State) : State :=
  ((s.mapRoute (RouteTable.setEdit c.bank)).writeLine c.line).mapSched fun q =>
    { q with tickPeriod := c.tickPeriod, order := c.order }

end Sys2Proof.Machine
end

