-- ==== Sys2Proof/Machine/PowerEvents.lean ====
section
/-! DEFINITION. Machine/PowerEvents.lean: the supply, RESET_N and the end of the start sequence (R166, R167, R170). An
event that the pins and the supply cannot bring about in the present state changes nothing (log 4). -/

namespace Sys2Proof.Machine

/-- POWER_ON (R167): the supply rises. With RESET_N high the start sequence runs with cause POWER_ON; with RESET_N low
the relay is held, and the cause stays POWER_ON for the start at the release. -/
def execPowerOn (straps : Straps) (s : State) : Host.Outcome State Fault Refusal :=
  match s.power with
  | .off false => .next (s.start .powerOn straps)
  | .off true => .next (s.setPower (.held .powerOn))
  | .held _ => .next s
  | .starting => .next s
  | .running => .next s

/-- RESET_N_ASSERT (R167): with the supply in range the relay is held, to start with cause PIN; a start sequence in
progress ends. Without supply only the pin's level is remembered. -/
def execResetNAssert (s : State) : Host.Outcome State Fault Refusal :=
  match s.power with
  | .off _ => .next (s.setPower (.off true))
  | .held cause => .next (s.setPower (.held cause))
  | .starting => .next (s.setPower (.held .pin))
  | .running => .next (s.setPower (.held .pin))

/-- RESET_N_RELEASE (R167): a held relay runs the start sequence, with the cause its hold recorded. -/
def execResetNRelease (straps : Straps) (s : State) : Host.Outcome State Fault Refusal :=
  match s.power with
  | .off _ => .next (s.setPower (.off false))
  | .held cause => .next (s.start cause straps)
  | .starting => .next s
  | .running => .next s

/-- POWER_LOSS (R170): the relay stops. A save in progress is cut off: its image has not matched its word since the
erase began (R169), so the next start finds it INVALID. RESET_N keeps its level. -/
def execPowerLoss (s : State) : Host.Outcome State Fault Refusal :=
  match s.power with
  | .off low => .next (s.setPower (.off low))
  | .held _ => .next (s.setPower (.off true))
  | .starting => .next (s.setPower (.off false))
  | .running => .next (s.setPower (.off false))

/-- START_SEQUENCE_COMPLETE (R166, phase 7): the timebase begins its first tick period and the trunk receiver begins
listening. -/
def execStartSequenceComplete (s : State) : Host.Outcome State Fault Refusal :=
  match s.power with
  | .starting =>
    .next ((s.setPower .running).mapSched fun q => { q with runningPeriod := q.tickPeriod })
  | .off _ => .next s
  | .held _ => .next s
  | .running => .next s

end Sys2Proof.Machine
end

