-- ==== Sys2Proof/Machine/RecordCommands.lean ====
section
/-! DEFINITION. Machine/RecordCommands.lean: the commands of the record store (chapter 4). -/

namespace Sys2Proof.Machine

/-- The parts of WRITE_RECORD (R70). -/
inductive RecordPart where
  | whole
  | firstHalf
  | secondHalf
  deriving DecidableEq, Repr

/-- The part of a part number; above 2 names none (R70). -/
def recordPart? (b : Byte) : Option RecordPart :=
  if b = 0#8 then some .whole else if b = 1#8 then some .firstHalf else if b = 2#8 then some .secondHalf else none

/-- The index and part operands (R70, check 1). -/
def recordOperands (ops : Operands) : Option (EntryIndex × RecordPart) :=
  match entryIndex? (opByte ops 2), recordPart? (opByte ops 3) with
  | some i, some p => some (i, p)
  | _, _ => none

/-- The part carries records of this length (R70, check 3). -/
def RecordPart.carries (p : RecordPart) (length : LengthCode) : Bool :=
  match p with
  | .whole => length != 3#2
  | .firstHalf => length == 3#2
  | .secondHalf => length == 3#2

/-- The first half staged for index i, if the buffer holds one (R70, check 4). -/
def RecordStore.stagedFor (st : RecordStore) (i : EntryIndex) : Option (List Byte) :=
  match st.staging with
  | some x => if x.index = i then some x.bytes else none
  | none => none

/-- A management capture (R71): taken whatever the STORE_POLICY; on a DOWNLINK entry PENDING becomes yes and a MANUAL
PUBLISH is requested in the same event. The answer gives the index, the new VERSION and the new STAMP. -/
def State.managementCapture (i : EntryIndex) (data : List Byte) (s : State) : State × Answer :=
  let s1 := s.captureInto i data .management
  let answer : Answer :=
    { outcome := .done
      data := [BitVec.ofNat 8 i.val, (s1.record i).version] ++ word16Bytes (s1.record i).stamp }
  if (s.activeEntry i).kind = .downlink then
    (((s1.setPendingMark i true).request i .publish .manual).takeOffered, answer)
  else (s1, answer)

/-- WRITE_RECORD for a part whose operands passed (R70, checks 2 to 4; R71). `staged` is the first half staged for the
index before this command. -/
def writeRecordPart (ops : Operands) (staged : Option (List Byte)) (i : EntryIndex) (p : RecordPart) (s : State) :
    State × Answer :=
  if (s.activeEntry i).keepsRecord && p.carries (s.activeEntry i).length then
    match p with
    | .whole => s.managementCapture i (opBytes ops 4 (s.activeEntry i).bytes)
    | .firstHalf =>
      (s.mapStore fun st => { st with staging := some { index := i, bytes := opBytes ops 4 8 } },
        { outcome := .done, data := [BitVec.ofNat 8 i.val] })
    | .secondHalf =>
      match staged with
      | some first => s.managementCapture i (first ++ opBytes ops 4 8)
      | none => (s, Answer.plain .badState)
  else (s, Answer.plain .badState)

/-- Every part 2 empties the staging buffer, whether it passes the checks or fails them (R70). -/
def State.emptyStaging (ops : Operands) (s : State) : State :=
  if opByte ops 3 = 2#8 then s.mapStore fun st => { st with staging := none } else s

/-- The owner of WRITE_RECORD (R70, R71). -/
def writeRecordOwner (ops : Operands) (s : State) : State × Answer :=
  withOperand (recordOperands ops) (fun x => writeRecordPart ops (s.store.stagedFor x.1) x.1 x.2) (s.emptyStaging ops)

/-- WRITE_RECORD (R70). -/
def execWriteRecord (tag : Byte) (ops : HeardOperands) (s : State) : Host.Outcome State Fault Refusal :=
  .next (takeCommand Code.writeRecord tag ops (writeRecordOwner ops.bytes) s)

/-- The operand of FLUSH_RECORD: one index, or 0xFF for all records (R81, R175), as the set of indices it names. -/
def flushOperand (ops : Operands) : Option (EntryIndex → Bool) :=
  if opByte ops 2 = 0xFF#8 then some fun _ => true
  else (entryIndex? (opByte ops 2)).map fun i j => j == i

/-- The records named are made EMPTY, their items and elements removed, and the queue refilled, in one event (R81). -/
def State.flush (named : EntryIndex → Bool) (s : State) : State :=
  (s.mapRecords fun i r => if named i then r.emptied else r).removeWork named

/-- FLUSH_RECORD (R81). -/
def execFlushRecord (tag : Byte) (ops : HeardOperands) (s : State) : Host.Outcome State Fault Refusal :=
  .next (takeCommand Code.flushRecord tag ops
    (withOperand (flushOperand ops.bytes) fun named t => (t.flush named, Answer.plain .done)) s)

end Sys2Proof.Machine
end

