-- ==== Sys2Proof/Machine/SchedulerCommands.lean ====
section
/-! DEFINITION. Machine/SchedulerCommands.lean: the commands of the poll scheduler (chapter 5). -/

namespace Sys2Proof.Machine

/-- The owner of REFRESH_NOW (R101). -/
def refreshNowOwner (i : EntryIndex) (s : State) : State × Answer :=
  if (s.activeEntry i).takesRefresh then
    ((s.request i .refresh .manual).takeOffered,
      { outcome := .done, data := [BitVec.ofNat 8 i.val, (s.disposition i .manual).code] })
  else (s, Answer.plain .badState)

/-- REFRESH_NOW (R101). -/
def execRefreshNow (tag : Byte) (ops : HeardOperands) (s : State) : Host.Outcome State Fault Refusal :=
  .next (takeCommand Code.refreshNow tag ops (withOperand (entryIndex? (opByte ops.bytes 2)) refreshNowOwner) s)

/-- The queue item for e, if there is one. -/
def Scheduler.itemFor (q : Scheduler) (e : EntryIndex) : Option QueueItem :=
  q.queue.find? fun it => it.entry == e

/-- The deferred element for e, if there is one. -/
def Scheduler.elementFor (q : Scheduler) (e : EntryIndex) : Option DeferredElement :=
  q.deferred.find? fun d => d.entry == e

/-- Removing the work held for e; a PUBLISH removed clears PENDING of record e (R102). -/
def State.withdrawn (e : EntryIndex) (op : QueueOp) (s : State) : State :=
  match op with
  | .refresh => s.removeWork fun j => j == e
  | .publish => (s.removeWork fun j => j == e).setPendingMark e false

/-- The op and origin codes of a transaction in flight for e (R102, R176): 0 for the origin of a RELAY. -/
def TransactionOp.inFlightFor (e : EntryIndex) : TransactionOp → Option (Byte × Byte)
  | .refresh j origin => if j = e then some (0#8, origin.code) else none
  | .publish j origin _ _ => if j = e then some (1#8, origin.code) else none
  | .relay j => if j = e then some (2#8, 0#8) else none
  | .sleep => none

/-- The owner of WITHDRAW (R102), with the result data of R176. -/
def withdrawOwner (e : EntryIndex) (s : State) : State × Answer :=
  match s.sched.itemFor e with
  | some it =>
    (s.withdrawn e it.op,
      { outcome := .done
        data :=
          [BitVec.ofNat 8 e.val, 0#8, it.op.code, it.origin.code, it.cls.setWidth 8] ++ word16Bytes it.seq })
  | none =>
    match s.sched.elementFor e with
    | some d =>
      (s.withdrawn e d.op,
        { outcome := .done, data := [BitVec.ofNat 8 e.val, 1#8, d.op.code, d.origin.code, 0#8] ++ word16Bytes 0#16 })
    | none =>
      match s.link.state.transaction.bind fun t => t.op.inFlightFor e with
      | some codes => (s, { outcome := .inFlight, data := [BitVec.ofNat 8 e.val, 0#8, codes.1, codes.2] })
      | none => (s, { outcome := .notFound, data := [BitVec.ofNat 8 e.val] })

/-- WITHDRAW (R102). -/
def execWithdraw (tag : Byte) (ops : HeardOperands) (s : State) : Host.Outcome State Fault Refusal :=
  .next (takeCommand Code.withdraw tag ops (withOperand (entryIndex? (opByte ops.bytes 2)) withdrawOwner) s)

/-- The operand of SET_ORDER: 0 ARRIVAL, 1 INDEX (R95). -/
def orderOperand (ops : Operands) : Option OrderMode :=
  if opByte ops 2 = 0#8 then some .arrival else if opByte ops 2 = 1#8 then some .index else none

/-- SET_ORDER (R95). -/
def execSetOrder (tag : Byte) (ops : HeardOperands) (s : State) : Host.Outcome State Fault Refusal :=
  .next (takeCommand Code.setOrder tag ops
    (withOperand (orderOperand ops.bytes) fun m t => (t.mapSched fun q => { q with order := m }, Answer.plain .done)) s)

/-- The operand of SET_TICK: 1..250 ms (R85). -/
def tickOperand (ops : Operands) : Option Byte :=
  if 1 ≤ (opByte ops 2).toNat ∧ (opByte ops 2).toNat ≤ 250 then some (opByte ops 2) else none

/-- SET_TICK (R85): the tick period already running ends at the old period. -/
def execSetTick (tag : Byte) (ops : HeardOperands) (s : State) : Host.Outcome State Fault Refusal :=
  .next (takeCommand Code.setTick tag ops
    (withOperand (tickOperand ops.bytes) fun p t => (t.mapSched fun q => { q with tickPeriod := p }, Answer.plain .done)) s)

end Sys2Proof.Machine
end

