-- ==== Sys2Proof/Machine/StoreCommands.lean ====
section
/-! DEFINITION. Machine/StoreCommands.lean: the commands and events of the configuration store (chapter 10). -/

namespace Sys2Proof.Machine

/-- A save begins (R169): the snapshot is taken, the store is SAVING, and the image no longer matches its old word. -/
def State.beginSave (s : State) : State :=
  s.mapConfig fun c =>
    { c with image := .unmatched, store := .saving s.saveSnapshot s.route.commitCount }

/-- SAVE_CONFIG (R169): BUSY while a commit is pending or the store is SAVING or LOADING; otherwise PENDING. -/
def execSaveConfig (tag : Byte) (ops : HeardOperands) (s : State) : Host.Outcome State Fault Refusal :=
  .next (takeCommand Code.saveConfig tag ops
    (fun t => if t.editHeld then (t, Answer.plain .busy) else (t.beginSave, Answer.plain .pending)) s)

/-- SAVE_COMPLETE (R169): with the verify matching, the image holds the snapshot with its integrity word and the store
is VALID; otherwise the image does not match, the store is INVALID and STORE_FAILED is set. DESIGN CHOICE (log 26): R169
does not say when programming fails, so the operand `verified` brings the verify's result, and a match always leaves
exactly the snapshot. -/
def execSaveComplete (verified : Bool) (s : State) : Host.Outcome State Fault Refusal :=
  match s.isRunning, s.config.store with
  | true, .saving snapshot count =>
    if verified then
      .next ((s.mapConfig fun c =>
          { c with image := .written snapshot snapshot.integrityWord, store := .valid }).finishPending Code.saveConfig
        { outcome := .done, data := word16Bytes snapshot.integrityWord ++ word16Bytes count })
    else
      .next (((s.mapConfig fun c => { c with image := .unmatched, store := .invalid }).setFlag
        .storeFailed).finishPending Code.saveConfig (Answer.plain .storeFailed))
  | _, _ => .next s

/-- The owner of LOAD_CONFIG (R171). -/
def loadOwner (s : State) : State × Answer :=
  if s.editHeld then (s, Answer.plain .busy)
  else
    match s.config.store with
    | .invalid => (s, Answer.plain .badState)
    | .valid => (s.mapConfig fun c => { c with store := .loading }, Answer.plain .pending)
    | .saving _ _ => (s, Answer.plain .busy)
    | .loading => (s, Answer.plain .busy)

/-- LOAD_CONFIG (R171). -/
def execLoadConfig (tag : Byte) (ops : HeardOperands) (s : State) : Host.Outcome State Fault Refusal :=
  .next (takeCommand Code.loadConfig tag ops loadOwner s)

/-- LOAD_COMPLETE (R171, R44): the image's table replaces the edit bank, its settings are written, the store is VALID,
and LOAD_CONFIG completes with DONE and the image's integrity word. -/
def execLoadComplete (s : State) : Host.Outcome State Fault Refusal :=
  match s.isRunning, s.config.store, s.config.image with
  | true, .loading, .written c word =>
    .next (((s.applyLoad c).mapConfig fun g => { g with store := .valid }).finishPending Code.loadConfig
      { outcome := .done, data := word16Bytes word })
  | _, _, _ => .next s

/-- RESTART (R172): RESULT is written with DONE, then a start with cause RESTART follows in the same event. -/
def execRestart (tag : Byte) (ops : HeardOperands) (straps : Straps) (s : State) :
    Host.Outcome State Fault Refusal :=
  .next (takeCommandThen Code.restart tag ops (fun t => (t, Answer.plain .done)) (State.restarted straps) s)

end Sys2Proof.Machine
end

