-- ==== Sys2Proof/Machine/TableCommands.lean ====
section
/-! DEFINITION. Machine/TableCommands.lean: the commands of the route table (chapter 2). -/

namespace Sys2Proof.Machine

/-- The five operands of SET_POINTERS, if every one is in range (R24, R175). -/
structure PointerOperands where
  bank : Role
  readIndex : EntryIndex
  writeIndex : Fin 65
  recordIndex : EntryIndex
  recordHalf : Bool
  deriving DecidableEq, Repr

/-- A bank code: 0 ACTIVE, 1 EDIT (R24). -/
def roleOfCode (b : Byte) : Option Role :=
  if b = 0#8 then some .active else if b = 1#8 then some .edit else none

/-- A half: 0 or 1 (R24). -/
def halfOfCode (b : Byte) : Option Bool :=
  if b = 0#8 then some false else if b = 1#8 then some true else none

/-- A write index: 0..64 (R23, R24). -/
def writeIndex? (b : Byte) : Option (Fin 65) :=
  if h : b.toNat < 65 then some ⟨b.toNat, h⟩ else none

/-- The operands of SET_POINTERS (R24, R175). -/
def pointerOperands (ops : Operands) : Option PointerOperands :=
  match roleOfCode (opByte ops 2), entryIndex? (opByte ops 3), writeIndex? (opByte ops 4), entryIndex? (opByte ops 5),
    halfOfCode (opByte ops 6) with
  | some bank, some readIndex, some writeIndex, some recordIndex, some recordHalf =>
    some
      { bank := bank, readIndex := readIndex, writeIndex := writeIndex, recordIndex := recordIndex,
        recordHalf := recordHalf }
  | _, _, _, _, _ => none

/-- All five pointers take the values given (R24). -/
def State.setPointers (p : PointerOperands) (s : State) : State :=
  (s.mapRoute fun r =>
    { r with readBank := p.bank, readIndex := p.readIndex, writeIndex := p.writeIndex }).mapStore fun st =>
    { st with readIndex := p.recordIndex, readHalf := p.recordHalf }

/-- SET_POINTERS (R24). -/
def execSetPointers (tag : Byte) (ops : HeardOperands) (s : State) : Host.Outcome State Fault Refusal :=
  .next (takeCommand Code.setPointers tag ops
    (withOperand (pointerOperands ops.bytes) fun p t => (t.setPointers p, Answer.plain .done)) s)

/-- The operands of WRITE_ENTRY: an index 0..63 and ten bytes that pass the encoding checks (R26). -/
def entryOperands (ops : Operands) : Option (EntryIndex × Entry) :=
  match entryIndex? (opByte ops 2), decodeEntry (opBytes ops 3 10) with
  | some i, some e => some (i, e)
  | _, _ => none

/-- WRITE_ENTRY (R25, R26). -/
def execWriteEntry (tag : Byte) (ops : HeardOperands) (s : State) : Host.Outcome State Fault Refusal :=
  .next (takeCommand Code.writeEntry tag ops
    (withOperand (entryOperands ops.bytes) fun x => editCommand (State.setEditEntry x.1 x.2)) s)

/-- The operands of WRITE_MASK: a group 0..15 and a mask 0..1023 (R27). -/
def maskOperands (ops : Operands) : Option (GroupIndex × Channel) :=
  match groupIndex? (opByte ops 2), channel? (opWord ops 3) with
  | some g, some m => some (g, m)
  | _, _ => none

/-- WRITE_MASK (R25, R27). -/
def execWriteMask (tag : Byte) (ops : HeardOperands) (s : State) : Host.Outcome State Fault Refusal :=
  .next (takeCommand Code.writeMask tag ops
    (withOperand (maskOperands ops.bytes) fun x => editCommand (State.setEditMask x.1 x.2)) s)

/-- COPY_ACTIVE (R25, R28). -/
def execCopyActive (tag : Byte) (ops : HeardOperands) (s : State) : Host.Outcome State Fault Refusal :=
  .next (takeCommand Code.copyActive tag ops
    (editCommand fun t => t.mapRoute fun r => r.setEdit r.activeContents) s)

/-- CLEAR_EDIT (R25, R29). -/
def execClearEdit (tag : Byte) (ops : HeardOperands) (s : State) : Host.Outcome State Fault Refusal :=
  .next (takeCommand Code.clearEdit tag ops (editCommand fun t => t.mapRoute (RouteTable.setEdit clearedBank)) s)

/-- The four steps of COMMIT (R38). -/
def commitOwner (s : State) : State × Answer :=
  match s.route.editContents.validate s.agent.unit with
  | some (i, reason) => (s, { outcome := .badTable, data := [BitVec.ofNat 8 i.val, reason] })
  | none =>
    if s.config.store.isBusy then (s, Answer.plain .busy)
    else if s.link.state.inTransaction then
      (s.mapRoute fun r => { r with commitPending := true }, Answer.plain .pending)
    else (s.applyCommit, { outcome := .done, data := s.applyCommit.commitData })

/-- COMMIT (R38). -/
def execCommit (tag : Byte) (ops : HeardOperands) (s : State) : Host.Outcome State Fault Refusal :=
  .next (takeCommand Code.commit tag ops commitOwner s)

end Sys2Proof.Machine
end

