-- ==== Sys2Proof/Machine/TimeEvents.lean ====
section
/-! DEFINITION. Machine/TimeEvents.lean: the tick (R84) and the events that come about in it or by it: countdown expiry
(R86), hold expiry and sample (R120), settle expiry (R144). TICK is one event with all its parts. The rows for the
expiries are that part alone, on a state whose countdown is due (log 5). -/

namespace Sys2Proof.Machine

/-- The count and the next tick period (R84, R85). -/
def Scheduler.ticked (q : Scheduler) : Scheduler :=
  { q with tickCount := q.tickCount + 1#16, runningPeriod := q.tickPeriod }

/-- A tick (R84): the count, the link controller's part, the record store's, the countdowns', then the offer. -/
def State.ticked (s : State) : State :=
  ((s.mapSched Scheduler.ticked).tickLink.ageRecords.tickCountdowns).takeOffered

/-- TICK (R84). -/
def execTick (s : State) : Host.Outcome State Fault Refusal :=
  if s.isRunning then .next s.ticked else .next s

/-- REFRESH_COUNTDOWN_EXPIRY (R86): the countdown of index i, due, reaches 0. -/
def execRefreshCountdownExpiry (index : EntryIndex) (s : State) : Host.Outcome State Fault Refusal :=
  if s.isRunning && s.countdownDue index then .next (s.countdownExpires index).takeOffered else .next s

/-- QUARANTINE_HOLD_EXPIRY (R120): under AUTO the hold countdown, due, reaches 0 and the samples begin. -/
def execQuarantineHoldExpiry (s : State) : Host.Outcome State Fault Refusal :=
  if s.isRunning && s.link.holdRuns && reachesZero s.link.hold then .next s.holdExpires else .next s

/-- The third sample (R120): by the majority, the release, or the hold countdown loaded with QHOLD again. -/
def State.decideSample (high : Bool) (s : State) : State :=
  if high then s.releaseQuarantine
  else s.mapLink fun c => { c with hold := c.line.qhold, sampling := false }

/-- QUARANTINE_SAMPLE (R120). -/
def execQuarantineSample (first second third : Bool) (s : State) : Host.Outcome State Fault Refusal :=
  if s.isRunning && s.link.state.isQuarantine && s.link.sampling then
    .next (s.decideSample (majority first second third))
  else .next s

/-- SETTLE_EXPIRY (R144): the settle countdown, due, reaches 0; IDLE, and the offer resumes. -/
def execSettleExpiry (s : State) : Host.Outcome State Fault Refusal :=
  if s.isRunning && s.link.state.isSettling && reachesZero s.link.settle then .next s.settleExpires.takeOffered
  else .next s

end Sys2Proof.Machine
end

