-- ==== Sys2Proof/Machine/TrunkEvents.lean ====
section
/-! DEFINITION. Machine/TrunkEvents.lean: the events of the trunk port (chapter 3): breaks, headers, serves, captures.
What the trunk receiver hands over in a state that takes no action on it changes nothing (R52). -/

namespace Sys2Proof.Machine

/-! ## Breaks (R47, R48) -/

/-- What a break ends (R47): in FORWARD the trunk side of the relay; a serve, a capture or a header is dropped with the
port's state. -/
def State.breakEnds (s : State) : State :=
  match s.trunk.port with
  | .forward _ _ _ => s.endTrunkSide
  | .hunt => s
  | .header => s
  | .passive => s
  | .serve _ _ => s
  | .capture _ _ _ => s

/-- The data bytes of a publication captured for that target (R57, R59, R60). -/
def CaptureTarget.bytes : CaptureTarget → Nat
  | .downlink _ copy => copy.bytes
  | .command => 16
  | .streamWrite => 16

/-- The break that TRUNK_BREAK stands for is handed over at the end of the line given (R5): it is the only one there;
in HEADER it comes before the header has ended (R7), in CAPTURE not behind a good publication (R10; one behind another
end of the reception is taken in PASSIVE, which is the same). -/
def State.hearsBreak (s : State) (line : Wave) : Bool :=
  match s.trunk.port with
  | .header => breaksHeader (s.hearTrunk line).2
  | .hunt => endsWithBreak (s.hearTrunk line).2
  | .passive => endsWithBreak (s.hearTrunk line).2
  | .serve _ _ => endsWithBreak (s.hearTrunk line).2
  | .capture target h0 h1 =>
    endsWithBreak (s.hearTrunk line).2 &&
      replyEnded (crc8 [h0, h1]) target.bytes (s.hearCapture target.bytes line).2 != some .success
  | .forward _ _ _ => endsWithBreak (s.hearTrunk line).2

/-- TRUNK_BREAK (R5, R47, R48): a break that the trunk receiver detects is taken in every state; the tick count becomes
the last header stamp, and HEADER is entered. A line in which the receiver detects none brings no such event (R46;
log 4). -/
def execTrunkBreak (s : State) (line : Wave := plainBreak) : Host.Outcome State Fault Refusal :=
  if s.isRunning && s.hearsBreak line then
    .next ((s.breakEnds.setReceiver (s.hearTrunk line).1).mapTrunk fun t =>
      { t with stamp := s.sched.tickCount, port := .header })
  else .next s

/-! ## Serving (R53, R54) -/

/-- The port enters SERVE with a snapshot: the reply is the data and the check byte over the header received (R54). -/
def State.serve (source : ServeSource) (data : List Byte) (h0 h1 : Byte) (s : State) : State :=
  s.setPort (.serve source (replyCharacters h0 h1 data))

/-- The serve decision on record i and its snapshot (R53, R73): SERVE or PASSIVE. -/
def State.serveRecord (i : EntryIndex) (e : Entry) (h0 h1 : Byte) (s : State) : State :=
  if (s.record i).serves e.missPolicy then s.serve (.record i (s.record i).version) (s.record i).data h0 h1
  else s.setPort .passive

/-! ## Dispatch (R51) -/

/-- Dispatch of a management channel (R51, R53): the snapshot is that of this moment, after the header was counted. -/
def State.dispatchManagement (k : ManagementChannel) (h0 h1 : Byte) (s : State) : State :=
  match k with
  | .command => s.setPort (.capture .command h0 h1)
  | .streamWrite => s.setPort (.capture .streamWrite h0 h1)
  | .result => s.serve .result s.agent.result.bytes h0 h1
  | .status => s.serve .status s.statusBytes h0 h1
  | .counters => s.serve .counters s.agent.counters.bytes h0 h1
  | .entryRead => s.serve .entryRead s.route.entryReadBytes h0 h1
  | .recordRead => s.serve .recordRead s.store.recordReadBytes h0 h1
  | .ident => s.serve .ident s.identBytes h0 h1

/-- The branch and trunk rate codes differ (R128, first test). -/
def State.ratesDiffer (s : State) : Bool :=
  s.link.line.rate != s.trunk.rate

/-- A refused relay (R129): RELAY_REFUSED as counter and flag, RATE_MISMATCH for unequal rates; then the trunk slot (a
fallback serve or PASSIVE) and, for an unmasked entry, the demand check. -/
def State.refuseRelay (i : EntryIndex) (e : Entry) (h0 h1 : Byte) (s : State) : State :=
  let s1 := (s.count .relayRefused).setFlag .relayRefused
  let s2 := if s.ratesDiffer then s1.setFlag .rateMismatch else s1
  if e.masked then s2.setPort .passive
  else
    ((if e.fallback then s2.serveRecord i e h0 h1 else s2.setPort .passive).demandCheck i e).takeOffered

/-- A relay request (R128): equal rates first, then IDLE; a relay request is decided before any offered item (R107). -/
def State.requestRelay (i : EntryIndex) (e : Entry) (branchChannel : Channel) (h0 h1 : Byte) (s : State) : State :=
  if !s.ratesDiffer && s.link.state.isIdle then s.admitRelay i e branchChannel h0 h1
  else s.refuseRelay i e h0 h1

/-- Dispatch of a match by KIND (R51), with the demand check of a CACHED serve decision (R74). -/
def State.dispatchEntry (i : EntryIndex) (e : Entry) (branchChannel : Channel) (h0 h1 : Byte) (s : State) : State :=
  match e.kind with
  | .blocked => s.setPort .passive
  | .localData => s.serveRecord i e h0 h1
  | .cached => ((s.serveRecord i e h0 h1).demandCheck i e).takeOffered
  | .relayed => s.requestRelay i e branchChannel h0 h1
  | .downlink => s.setPort (.capture (.downlink i e) h0 h1)

/-- A header error, by line error or by length mismatch (R49, R50): HEADER_ERRORS, HEADER_ERROR, PASSIVE. -/
def State.headerFails (s : State) : State :=
  ((s.count .headerErrors).setFlag .headerError).setPort .passive

/-- A valid header (R50): HEADERS, lookup, then by the result. -/
def State.takeValidHeader (h0 h1 : Byte) (s : State) : State :=
  let s1 := s.count .headers
  match s1.lookup (headerChannel h0 h1) (headerLength h1) with
  | .management k => (s1.count .routed).dispatchManagement k h0 h1
  | .entry i e _ branchChannel => (s1.count .routed).dispatchEntry i e branchChannel h0 h1
  | .ownMismatch => s1.headerFails
  | .entryMismatch _ => s1.headerFails
  | .unrouted => s1.setPort .passive

/-- The time since the end of H1 is that (R11). -/
def State.setSinceH1 (since : Nat) (s : State) : State :=
  s.mapTrunk fun t => { t with sinceH1 := since }

/-- A header judged under R7, acted on under R49 or R50; `since`: the time that has passed since it ended. -/
def State.takeHeader (j : HeaderJudgement) (since : Nat) (s : State) : State :=
  match j with
  | .valid h0 h1 => (s.setSinceH1 since).takeValidHeader h0 h1
  | .framing => s.headerFails
  | .headerCheck => s.headerFails

/-- The port is in HEADER and listening: the one state in which characters are a header (R52). -/
def State.takesHeader (s : State) : Bool :=
  s.isRunning && decide (s.trunk.port = .header)

/-- The header that the trunk receiver hears in the line since the break, judged and acted on (R7, R49, R50). A line in
which it hears no whole header, or more than one, brings no such event (log 4). -/
def State.hearHeader (line : Wave) (s : State) : State :=
  match headerHeard (s.hearTrunk line).2 with
  | some j =>
    (s.setReceiver (s.hearTrunk line).1).takeHeader j (s.trunk.receiver.sinceHanded .trunk 0 (Wave.levels line))
  | none => s

/-- TRUNK_HEADER_ERROR (R49). -/
def execTrunkHeaderError (delimiter header : Wave) (s : State) : Host.Outcome State Fault Refusal :=
  if s.takesHeader then .next (s.hearHeader (delimiter ++ header)) else .next s

/-- TRUNK_VALID_HEADER (R50). -/
def execTrunkValidHeader (delimiter header : Wave) (s : State) : Host.Outcome State Fault Refusal :=
  if s.takesHeader then .next (s.hearHeader (delimiter ++ header)) else .next s

/-! ## The end of a serve (R55, R56) -/

/-- The report of a completed serve to its supplier (R55). -/
def State.reportServed (source : ServeSource) (s : State) : State :=
  match source with
  | .record i version => (s.recordServed i version).count .served
  | .entryRead => s.mapRoute fun r => { r with readIndex := r.readIndex + 1 }
  | .recordRead => s.mapStore RecordStore.advanceRead
  | .result => s
  | .status => s
  | .counters => s
  | .ident => s

/-- SERVE_COMPLETE (R13, R55): every bit of the reply, up to its check byte's stop bit, reads back as sent. -/
def execServeComplete (s : State) (sent : Transmission := {}) : Host.Outcome State Fault Refusal :=
  match s.isRunning, s.trunk.port with
  | true, .serve source reply =>
    match s.sentOnTrunk reply sent with
    | some t => .next ((t.reportServed source).setPort .passive)
    | none => .next s
  | _, _ => .next s

/-- TRUNK_SERVE_BIT_ERROR (R13, R56): a bit of the reply reads back differently; TRUNK_COLLISION, PASSIVE; the serve is
reported as not completed, which changes nothing (R55). -/
def execTrunkServeBitError (s : State) (sent : Transmission := differingLine) : Host.Outcome State Fault Refusal :=
  match s.isRunning, s.trunk.port with
  | true, .serve _ reply =>
    match s.collidesOnTrunk reply sent with
    | some t => .next ((t.setFlag .trunkCollision).setPort .passive)
    | none => .next s
  | _, _ => .next s

/-! ## Captures (R57, R58, R60) -/

/-- The end of a reception in CAPTURE (R57): a good publication is handed over, and the port enters PASSIVE; on an error
class it enters PASSIVE and nothing is handed over, counted or set. `r` is the trunk receiver then. What is no end of
the reception changes nothing. -/
def State.endCapture (verdict : Option BranchOutcome) (r : Receiver) (handOver : State → State) (s : State) : State :=
  match verdict with
  | none => s
  | some o =>
    if o = .success then handOver ((s.setReceiver r).setPort .passive) else (s.setReceiver r).setPort .passive

/-- CAPTURE_FAILED (R57): the reception ends with an error class. A good reply names no event of this row (log 4). -/
def execCaptureFailed (ending : ReplyEnd) (s : State) : Host.Outcome State Fault Refusal :=
  match s.isRunning, s.trunk.port with
  | true, .capture target h0 h1 =>
    let verdict := s.captureVerdict h0 h1 target.bytes ending.windowFirst ending.line
    if verdict = some .success then .next s
    else .next (s.endCapture verdict (s.hearCapture target.bytes ending.line).1 id)
  | _, _ => .next s

/-- A trunk capture for DOWNLINK entry i and, if it is taken, its PUBLISH request, in one event (R58, R69). -/
def State.downlinkCaptured (i : EntryIndex) (copy : Entry) (data : List Byte) (s : State) : State :=
  if s.takesTrunkCapture i copy then ((s.trunkCapture i copy data).request i .publish .downlink).takeOffered
  else s.trunkCapture i copy data

/-- DOWNLINK_CAPTURE (R10, R57, R58, R69): the entry's n bytes and the check byte have come; a good publication is
handed to the record store; then PASSIVE. -/
def execDownlinkCapture (line : Wave) (s : State) : Host.Outcome State Fault Refusal :=
  match s.isRunning, s.trunk.port with
  | true, .capture (.downlink i copy) h0 h1 =>
    let heard := s.hearCapture copy.bytes line
    .next (s.endCapture (s.captureVerdict h0 h1 copy.bytes false line) heard.1 fun t =>
      t.downlinkCaptured i copy ((goodBytes heard.2).take copy.bytes))
  | _, _ => .next s

/-- A STREAM WRITE publication of 16 bytes (R32): refused with WRITE_REFUSED, or accepted into the edit bank at the
write index, which then goes up by one. Byte 10 is the expected index (R177). -/
def State.streamWritten (data : List Byte) (s : State) : State :=
  match decodeEntry (data.take 10), entryIndex? (data.getD 10 0#8) with
  | some e, some i =>
    if i.val = s.route.writeIndex.val ∧ s.editHeld = false then
      (s.setEditEntry i e).mapRoute fun r => { r with writeIndex := ⟨i.val + 1, by omega⟩ }
    else s.setFlag .writeRefused
  | _, _ => s.setFlag .writeRefused

/-- STREAM_WRITE (R10, R57, R60, R32). -/
def execStreamWrite (line : Wave) (s : State) : Host.Outcome State Fault Refusal :=
  match s.isRunning, s.trunk.port with
  | true, .capture .streamWrite h0 h1 =>
    let heard := s.hearCapture 16 line
    .next (s.endCapture (s.captureVerdict h0 h1 16 false line) heard.1
      (State.streamWritten ((goodBytes heard.2).take 16)))
  | _, _ => .next s

end Sys2Proof.Machine
end

