-- ==== Sys2Proof/Machine/Dispatch.lean ====
section
/-! DEFINITION. Machine/Dispatch.lean: the one dispatch from a command to its meaning, an arm for each row of
spec/opcode_table.json. -/

namespace Sys2Proof.Machine

def exec (i : Instr) (s : State) : Host.Outcome State Fault Refusal :=
  match i with
  | .powerOn straps => Sys2Proof.Machine.execPowerOn straps s
  | .resetNAssert => Sys2Proof.Machine.execResetNAssert s
  | .resetNRelease straps => Sys2Proof.Machine.execResetNRelease straps s
  | .trunkBreak line => Sys2Proof.Machine.execTrunkBreak s line
  | .trunkHeaderError delimiter header => Sys2Proof.Machine.execTrunkHeaderError delimiter header s
  | .trunkValidHeader delimiter header => Sys2Proof.Machine.execTrunkValidHeader delimiter header s
  | .serveComplete sent => Sys2Proof.Machine.execServeComplete s sent
  | .trunkServeBitError sent => Sys2Proof.Machine.execTrunkServeBitError s sent
  | .captureFailed ending => Sys2Proof.Machine.execCaptureFailed ending s
  | .downlinkCapture line => Sys2Proof.Machine.execDownlinkCapture line s
  | .streamWrite line => Sys2Proof.Machine.execStreamWrite line s
  | .unknownCommand code tag ops => Sys2Proof.Machine.execUnknownCommand code tag ops s
  | .nop tag ops => Sys2Proof.Machine.execNop tag ops s
  | .clearFlags tag ops => Sys2Proof.Machine.execClearFlags tag ops s
  | .clearCounters tag ops => Sys2Proof.Machine.execClearCounters tag ops s
  | .setPointers tag ops => Sys2Proof.Machine.execSetPointers tag ops s
  | .writeEntry tag ops => Sys2Proof.Machine.execWriteEntry tag ops s
  | .writeMask tag ops => Sys2Proof.Machine.execWriteMask tag ops s
  | .copyActive tag ops => Sys2Proof.Machine.execCopyActive tag ops s
  | .clearEdit tag ops => Sys2Proof.Machine.execClearEdit tag ops s
  | .commit tag ops => Sys2Proof.Machine.execCommit tag ops s
  | .writeRecord tag ops => Sys2Proof.Machine.execWriteRecord tag ops s
  | .flushRecord tag ops => Sys2Proof.Machine.execFlushRecord tag ops s
  | .refreshNow tag ops => Sys2Proof.Machine.execRefreshNow tag ops s
  | .withdraw tag ops => Sys2Proof.Machine.execWithdraw tag ops s
  | .setOrder tag ops => Sys2Proof.Machine.execSetOrder tag ops s
  | .setTick tag ops => Sys2Proof.Machine.execSetTick tag ops s
  | .setLine tag ops => Sys2Proof.Machine.execSetLine tag ops s
  | .releaseLink tag ops => Sys2Proof.Machine.execReleaseLink tag ops s
  | .resetBranch tag ops branch => Sys2Proof.Machine.execResetBranch tag ops s branch
  | .sleepBranch tag ops => Sys2Proof.Machine.execSleepBranch tag ops s
  | .wakeBranch tag ops => Sys2Proof.Machine.execWakeBranch tag ops s
  | .testKey tag ops => Sys2Proof.Machine.execTestKey tag ops s
  | .testExit tag ops => Sys2Proof.Machine.execTestExit tag ops s
  | .saveConfig tag ops => Sys2Proof.Machine.execSaveConfig tag ops s
  | .saveComplete verified => Sys2Proof.Machine.execSaveComplete verified s
  | .loadConfig tag ops => Sys2Proof.Machine.execLoadConfig tag ops s
  | .loadComplete => Sys2Proof.Machine.execLoadComplete s
  | .restart tag ops straps => Sys2Proof.Machine.execRestart tag ops straps s
  | .forwardCharacterHandoff => Sys2Proof.Machine.execForwardCharacterHandoff s
  | .relayTrunkComplete sent => Sys2Proof.Machine.execRelayTrunkComplete s sent
  | .trunkForwardBitError sent => Sys2Proof.Machine.execTrunkForwardBitError s sent
  | .branchLineFault sent => Sys2Proof.Machine.execBranchLineFault s sent
  | .branchBitError sent => Sys2Proof.Machine.execBranchBitError s sent
  | .branchHeaderSent sent => Sys2Proof.Machine.execBranchHeaderSent s sent
  | .relayCharacterReceived line => Sys2Proof.Machine.execRelayCharacterReceived line s
  | .branchReplyEnd ending => Sys2Proof.Machine.execBranchReplyEnd ending s
  | .publishDataSent sent => Sys2Proof.Machine.execPublishDataSent s sent
  | .gapEnd => Sys2Proof.Machine.execGapEnd s
  | .tick => Sys2Proof.Machine.execTick s
  | .refreshCountdownExpiry index => Sys2Proof.Machine.execRefreshCountdownExpiry index s
  | .quarantineHoldExpiry => Sys2Proof.Machine.execQuarantineHoldExpiry s
  | .quarantineSample first second third => Sys2Proof.Machine.execQuarantineSample first second third s
  | .branchWakeDetected before low => Sys2Proof.Machine.execBranchWakeDetected before low s
  | .wakePulseEnd sent => Sys2Proof.Machine.execWakePulseEnd s sent
  | .wakePulseFault sent => Sys2Proof.Machine.execWakePulseFault s sent
  | .settleExpiry => Sys2Proof.Machine.execSettleExpiry s
  | .powerLoss => Sys2Proof.Machine.execPowerLoss s
  | .forwardedCharacterFinished sent => Sys2Proof.Machine.execForwardedCharacterFinished s sent
  | .startSequenceComplete => Sys2Proof.Machine.execStartSequenceComplete s

end Sys2Proof.Machine
end

