-- ==== Sys2Proof/Machine/Step.lean ====
section
/-! DEFINITION. Machine/Step.lean: one step of the block: the command at the front of the queue. -/

namespace Sys2Proof.Machine

/-- One step: take the command at the front of the queue and run it with the queue's rest. On an empty queue the block
idles (DESIGN CHOICE, log 8, safe: it waits for the next command; ticks are commands of the table). -/
def step (s : State) : Host.Outcome State Fault Refusal :=
  match s.pending with
  | [] => .next s
  | c :: rest => exec c (s.setPending rest)

/-- The state with the command that a word spells put at the front of its queue; no row of the table gives bits, so no
word spells one (Decode.lean). -/
def State.withFetchWord (s : State) (nbits w : Nat) : State :=
  match decodeTableWord nbits w with
  | none => s
  | some c => s.setPending (c :: s.pending)

end Sys2Proof.Machine
end

