-- ==== Sys2Proof/WellFormed.lean ====
section
/-! DEFINITION. WellFormed.lean: what the operands of a command must satisfy for the event its row names to be what
happened on the line. exec is defined on every term; an ill-formed one stands for no event of its row. -/

namespace Sys2Proof

/-- What a trunk header row brings, heard from the break before it (R5, R7). -/
def headerAfterBreak (line : Wave) : Option Machine.HeaderJudgement :=
  Machine.headerHeard (Machine.Receiver.afterBreak.hear .trunk line).2

/-- The event of a row, by its operands alone. TRUNK_HEADER_ERROR: behind a break the line is heard as a header that is
in error (R7). TRUNK_VALID_HEADER: as one that is valid (R7). UNKNOWN_COMMAND: a code that is not one of the 25 (R152).
BRANCH_WAKE_DETECTED: the line falls where the low begins, or
goes on being low from the last row on. What the rows' lines bring beyond that
depends on the state: exec judges it. -/
def Instr.wellFormed : Instr → Bool
  | .trunkHeaderError delimiter header =>
    match headerAfterBreak (delimiter ++ header) with
    | some (.valid _ _) => false
    | some .framing => true
    | some .headerCheck => true
    | none => false
  | .trunkValidHeader delimiter header =>
    match headerAfterBreak (delimiter ++ header) with
    | some (.valid _ _) => true
    | some .framing => false
    | some .headerCheck => false
    | none => false
  | .downlinkCapture _ | .captureFailed _ => true
  | .unknownCommand code _ _ => !isCommandCode code
  | .branchReplyEnd _ => true
  | .branchWakeDetected before low =>
    (low != 0 || (Machine.Wave.levels before).isEmpty) && (Machine.Wave.levels before).getLast? != some false
  | .powerOn _ | .resetNAssert | .resetNRelease _ | .trunkBreak _ | .serveComplete _ | .trunkServeBitError _ => true
  | .streamWrite _ | .nop _ _ | .clearFlags _ _ | .clearCounters _ _ | .setPointers _ _ => true
  | .writeEntry _ _ | .writeMask _ _ | .copyActive _ _ | .clearEdit _ _ | .commit _ _ => true
  | .writeRecord _ _ | .flushRecord _ _ | .refreshNow _ _ | .withdraw _ _ | .setOrder _ _ => true
  | .setTick _ _ | .setLine _ _ | .releaseLink _ _ | .resetBranch _ _ _ | .sleepBranch _ _ => true
  | .wakeBranch _ _ | .testKey _ _ | .testExit _ _ => true
  | .saveConfig _ _ | .saveComplete _ | .loadConfig _ _ | .loadComplete | .restart _ _ _ => true
  | .forwardCharacterHandoff | .relayTrunkComplete _ | .trunkForwardBitError _ | .branchLineFault _ => true
  | .branchBitError _ | .branchHeaderSent _ | .relayCharacterReceived _ | .publishDataSent _ | .gapEnd | .tick => true
  | .refreshCountdownExpiry _ | .quarantineHoldExpiry | .quarantineSample _ _ _ | .wakePulseEnd _ => true
  | .wakePulseFault _ | .settleExpiry | .powerLoss | .forwardedCharacterFinished _ | .startSequenceComplete => true

end Sys2Proof
end

