-- ==== Sys2Proof/Safety.lean ====
section
/-! DEFINITION. Safety.lean: the words in which the statements speak. What a state must satisfy for a COMMAND record to
be executed, what executing it does to the trunk port and RESULT, and the invariants the manual states. -/

namespace Sys2Proof.Machine

/-! ## Taking a COMMAND record (R152, R155, R57) -/

/-- The trunk port is receiving a COMMAND publication (R51, R59). -/
def PortState.capturesCommand : PortState → Bool
  | .capture .command _ _ => true
  | .capture (.downlink _ _) _ _ | .capture .streamWrite _ _ => false
  | .hunt | .header | .passive | .serve _ _ | .forward _ _ _ => false

/-- The check byte that a good COMMAND record with these bytes carries in the CAPTURE under way: over the header
received and the 16 bytes (R9, R10). -/
def State.goodCheck (s : State) (code tag : Byte) (ops : Operands) : Byte :=
  match s.trunk.port with
  | .capture _ h0 h1 => checkByte h0 h1 (code :: tag :: ops.toList)
  | .hunt | .header | .passive | .serve _ _ | .forward _ _ _ => 0#8

/-- On that line, as far as the reply window reaches, the trunk receiver of `u` hears the 16 bytes of a COMMAND record,
with the check byte that is good in the CAPTURE under way behind them (R2, R10, R11); `s` is the state with the receiver
after it. -/
abbrev HearsRecord (u : State) (code tag : Byte) (ops : Operands) (line : Wave) (s : State) : Prop :=
  ∃ r, u.hearCapture 16 line = (r, goodCharacters (code :: tag :: ops.toList ++ [u.goodCheck code tag ops])) ∧
    s = { u with trunk := { u.trunk with receiver := r } }

/-- The relay listens, the trunk port is receiving a COMMAND publication, and the pending-command slot is empty: a
record heard now with a good check byte is executed (R152, steps 2 and 3). -/
abbrev AcceptsRecord (s : State) : Prop :=
  s.power = .running ∧ s.trunk.port.capturesCommand = true ∧ s.agent.slot = none

/-- Heard on whatever line, the COMMAND record with this code, tag and operand bytes and a good check byte leads to `t`:
wherever the trunk receiver of a state hears it, and `s` is that state with the receiver after it, the row answers the
next state `t` (R59, R152; log 24). -/
abbrev RecordAnswers (code tag : Byte) (ops : Operands) (row : HeardOperands → Instr) (s t : State) : Prop :=
  ∀ (line : Wave) (u : State), HearsRecord u code tag ops line s → exec (row ⟨ops, line⟩) u = .next t

/-- The relay listens and the trunk port is receiving a COMMAND publication, while the slot is held. -/
abbrev RefusesRecord (s : State) (code : Byte) : Prop :=
  s.power = .running ∧ s.trunk.port.capturesCommand = true ∧
    ∃ sl, s.agent.slot = some sl ∧
      (code = 0x42#8 → sl.code ≠ 0x15#8 ∧ sl.code ≠ 0x50#8 ∧ sl.code ≠ 0x51#8)

/-- A record executed with that outcome and result data, and nothing else: the port is PASSIVE (R57), the test key state
NONE (R152, step 1), RESULT rewritten whole (R155). -/
def executed (code tag : Byte) (outcome : CommandOutcome) (data : List Byte) (s : State) : State :=
  { s with
    trunk := { s.trunk with port := .passive }
    agent :=
      { s.agent with
        keyState := .none
        result :=
          { tag := tag, code := code, outcome := outcome, refusals := 0#8, lastRefused := 0#8, data := data } } }

/-- The same with the outcome PENDING, which takes the slot (R152, step 4). -/
def executedPending (code tag : Byte) (s : State) : State :=
  { s with
    trunk := { s.trunk with port := .passive }
    agent :=
      { s.agent with
        keyState := .none
        slot := some { code := code, tag := tag }
        result :=
          { tag := tag, code := code, outcome := .pending, refusals := 0#8, lastRefused := 0#8, data := [] } } }

/-- A command completes after it was PENDING (R153): its final outcome and result data in RESULT, the slot empty. -/
def completed (outcome : CommandOutcome) (data : List Byte) (s : State) : State :=
  { s with
    agent := { s.agent with slot := none, result := { s.agent.result with outcome := outcome, data := data } } }

/-! ## Reading a transmission back (R4, R13, R14) -/

/-- Bit k reads as `v` on a line given in sixteenths of a bit time: the majority of its samples at 7/16, 8/16 and 9/16
(R2, R13, R14). -/
abbrev SampledAs (heard : List Bool) (k : Nat) (v : Bool) : Prop :=
  ∃ a b c, heard[16 * k + 7]? = some a ∧ heard[16 * k + 8]? = some b ∧ heard[16 * k + 9]? = some c ∧
    v = ((a && b) || (a && c) || (b && c))

/-- Every bit of the levels sent reads back as sent on the line that the row brings, which goes on as sent where the row
leaves it open, and not beyond the transmission (R13, R14; log 27). -/
abbrev ReadsBack (levels : List Bool) (sent : Transmission) : Prop :=
  (Wave.levels sent.during).length ≤ 16 * levels.length ∧
    ∀ k < levels.length, SampledAs (Transmission.filled sent levels) k (levels.getD k true)

/-- Bit k of the levels sent is the first that reads back differently, on the line as far as the row brings it (R13,
R14; log 27). -/
abbrev DiffersFirst (levels : List Bool) (sent : Transmission) (k : Nat) : Prop :=
  (Wave.levels sent.during).length ≤ 16 * levels.length ∧ k < levels.length ∧
    SampledAs (Wave.levels sent.during) k (!levels.getD k true) ∧
      ∀ j < k, ¬ SampledAs (Wave.levels sent.during) j (!levels.getD j true)

/-- A transmission of these characters on the trunk ends at the third sample of bit k, the first that reads back
differently (R13): `r` is the trunk receiver after it. No break was complete before; if one is complete with that very
sample, and the difference is taken first (R56), the receiver has not yet read it (log 27). -/
abbrev Collides (s : State) (values : List Byte) (sent : Transmission) (k : Nat) (r : Receiver) : Prop :=
  DiffersFirst (charactersLevels values) sent k ∧
    ∃ earlier last, Wave.levels sent.before ++ (Wave.levels sent.during).take (16 * k + 10) = earlier ++ [last] ∧
      RxEvent.lineBreak ∉ (s.trunk.receiver.hearLevels .trunk earlier).2 ∧
      r =
        if RxEvent.lineBreak ∈ (s.trunk.receiver.hearLevels .trunk (earlier ++ [last])).2 then
          (s.trunk.receiver.hearLevels .trunk earlier).1
        else (s.trunk.receiver.hearLevels .trunk (earlier ++ [last])).1

/-! ## Receptions and their window (R11) -/

/-- The reply window of n data bytes has ended at the end of that line, if so many sixteenths of a bit time had passed
since the end of H1 before it (R11). -/
abbrev WindowOver (n sinceH1 : Nat) (line : Wave) : Prop :=
  16 * (48 + 14 * (n + 1)) ≤ sinceH1 + (Wave.levels line).length

/-- What the branch receiver hears of the reply characters when the last sixteenth of the reply window is left out: what
comes at its very end comes too late if the window is taken first (R11). -/
abbrev HearsEarly (s : State) (n : Nat) (line : Wave) (events : List RxEvent) : Prop :=
  (s.link.receiver.hearReply .branch s.link.sinceH1 (withinWindow n s.link.sinceH1 line).dropLast).2 = events

/-! ## Lows of branch nodes (R18) -/

/-- A low of that length, in sixteenths of a bit time at 115200 bit/s, lasts 150 µs to 10 ms (R18). -/
abbrev WakeLong (length : Nat) : Prop :=
  150 * (16 * 115200) ≤ 1000000 * length ∧ 1000000 * length ≤ 10000 * (16 * 115200)

/-- At the end of these levels of the branch line a low of that length is under way that began outside a frame: its
falling edge came on them, or behind the level before them, or the last row that brought the line left it under way
(R18, R145). A sixteenth of a bit time at a rate is 115200 / rate such sixteenths long; the rate is the one at which the
branch receiver has run since the last transaction or wake pulse (R3). -/
abbrev LowOutside (s : State) (levels : List Bool) (length : Nat) : Prop :=
  (∃ before low, s.link.receiver.high :: levels = before ++ true :: List.replicate (low + 1) false ∧
    length = (low + 1) * (115200 / bitRate s.link.receiverRate)) ∨
  ∃ carried, s.link.receiver.high = false ∧ s.link.outsideLow = some carried ∧ true ∉ levels ∧
    length = carried + levels.length * (115200 / bitRate s.link.receiverRate)

/-- On these levels of the branch line a low of a wake's length returns to high that began outside a frame (R18). -/
abbrev WakeOn (s : State) (levels : List Bool) : Prop :=
  ∃ before length after, levels = before ++ true :: after ∧ LowOutside s before length ∧ WakeLong length

/-- Over a transmission at that rate, behind the line before it, the branch receiver comes to stand at `r`. It hears the
line before at the rate it ran at until then, and the transmission's own line at the rate that takes effect with it
(R3, R125). Where that is another rate, it begins the transmission waiting for a falling edge, a character in progress
given up (log 29). -/
abbrev HearsFrame (s : State) (rate : RateCode) (before during : List Bool) (r : Receiver) : Prop :=
  ∃ reached, reached = (s.link.receiver.hearLevels .branch before).1 ∧
    (s.link.receiverRate = rate → r = (reached.hearLevels .branch during).1) ∧
    (s.link.receiverRate ≠ rate →
      r = (({ high := reached.high, lasted := 0, phase := .waiting } : Receiver).hearLevels .branch during).1)

/-- On the branch a wake pulse at that rate followed these levels, and its own line is given in sixteenths of a 250 µs
step: the branch receiver, which goes on receiving (R112), stands at `r`, and `low` is the length of the low that began outside a
frame before the pulse and has gone on through it, if there is one (R145), which in LOOPBACK none does. As far as the
line of the pulse goes, each sixteenth of a bit time at the rate of the pulse reads the level that stands where it begins
(R17; log 27). -/
abbrev HearsPulse (s : State) (rate : RateCode) (before pulse : List Bool) (r : Receiver) (low : Option Nat) : Prop :=
  ∃ heard : List Bool,
    (∀ k v, heard[k]? = some v ↔ pulse[k * 4000 / bitRate rate]? = some v) ∧
      HearsFrame s rate before heard r ∧
      ∀ length, low = some length ↔
        s.link.mode = .normal ∧ true ∉ heard ∧ ∃ earlier, LowOutside s before earlier ∧
          length = earlier + heard.length * (115200 / bitRate rate)

/-- In NORMAL, no wake comes on the line before the transmission: one that did would have been reported by its own row
(R18; log 19). -/
abbrev NoWakeBefore (s : State) (sent : Transmission) : Prop :=
  s.link.mode = .normal → ¬ WakeOn s (Wave.levels sent.before)

/-! ## Events of the supply and the pins -/

/-- The rows that act on a relay that is not running: supply, RESET_N, the end of the start sequence (R166, R167). -/
def isPowerEvent : Instr → Bool
  | .powerOn _ | .resetNAssert | .resetNRelease _ | .powerLoss | .startSequenceComplete => true
  | _ => false

/-- The in-flight transaction of a link state, with what the sleep frame's is told apart by. -/
def LinkState.sendsSleepFrame (l : LinkState) : Bool :=
  match l.transaction with
  | some t => decide (t.op = .sleep)
  | none => false

/-! ## What a start leaves (R43, R45, R66, R103, R126, R165, R166) -/

/-- The part of a start that does not depend on the image: pins, pointers, records, timebase, link, agent. RESULT is the
one given: cleared, or what RESTART wrote (R172). -/
def StartedWith (cause : ResetCause) (straps : Straps) (result : ResultRecord) (t : State) : Prop :=
  t.power = .starting ∧
    (t.route.activeBank = .a ∧ t.route.readBank = .active ∧ t.route.readIndex = 0 ∧ t.route.writeIndex = 0 ∧
      t.route.commitCount = 0#16 ∧ t.route.commitPending = false) ∧
    t.trunk =
      { port := .hunt, stamp := 0#16, rate := straps.rate,
        receiver := { high := false, lasted := 0, phase := .quiet }, sinceH1 := 0 } ∧
    (∀ i, t.record i =
      { state := .empty, data := [], age := 0#16, stamp := 0#16, source := .branch, version := 0#8, served := 0#8,
        pending := false, fails := 0#4, silent := false }) ∧
    (t.store.readIndex = 0 ∧ t.store.readHalf = false ∧ t.store.staging = none) ∧
    (t.sched.tickCount = 0#16 ∧ t.sched.queue = [] ∧ t.sched.deferred = [] ∧ t.sched.seqCounter = 0#16 ∧
      ∀ i, t.countdown i = (t.activeEntry i).refresh) ∧
    (t.link.state = .idle ∧ t.link.mode = .normal ∧ t.link.score = 0#8 ∧ t.link.hold = 0#8 ∧ t.link.settle = 0#8 ∧
      t.link.sampling = false ∧ t.link.relay = none ∧ t.link.sleepFramePending = false ∧ t.link.responder = none ∧
      t.link.receiver = { high := false, lasted := 0, phase := .waiting } ∧ t.link.sinceH1 = 0 ∧
      t.link.receiverRate = t.link.line.rate ∧ t.link.outsideLow = none) ∧
    (t.agent.unit = straps.unit ∧ t.agent.slot = none ∧ t.agent.result = result ∧ t.agent.keyState = .none ∧
      ∀ k, t.agent.counters.get k = 0#16) ∧
    t.config.cause = cause

/-- Every entry of the bank is the cleared entry and every mask 1023 (R22). -/
def Bank.IsCleared (b : Bank) : Prop :=
  (∀ i, b.entry i =
      { valid := false, channel := 0#10, masked := false, kind := .blocked, length := 0#2, branchChannel := 0#10,
        refresh := 0#8, demand := false, staleLimit := 0#16, storePolicy := .replace, missPolicy := .silent,
        fallback := false, priority := 0#2, silentLimit := 1#4 }) ∧
    ∀ i, b.maskFor i = 1023#10

/-- The part of a start that the image decides (R166, phases 3, 4 and 6): its table and settings with store state VALID,
or cleared banks and the defaults with INVALID and the flag STORE_INVALID; the flag RESTARTED either way. -/
def LoadedFrom (image : Image) (t : State) : Prop :=
  t.config.image = image ∧
    (∀ c, image.validContents = some c →
      t.config.store = .valid ∧ t.route.bankA = c.bank ∧ t.route.bankB = c.bank ∧ t.link.line = c.line ∧
        t.sched.tickPeriod = c.tickPeriod ∧ t.sched.order = c.order ∧ t.agent.flags = 0x8000#16) ∧
    (image.validContents = none →
      t.config.store = .invalid ∧ t.route.bankA.IsCleared ∧ t.route.bankB.IsCleared ∧
        t.link.line =
          { rate := 1#2, breakLength := .bits13, policy := .auto, qhold := 50#8, wakeLen := 4#8, settleLen := 10#8 } ∧
        t.sched.tickPeriod = 10#8 ∧ t.sched.order = .arrival ∧ t.agent.flags = 0x9000#16)

/-- RESULT with every field 0 and the outcome NONE (R155). -/
def clearedResult : ResultRecord :=
  { tag := 0#8, code := 0#8, outcome := .none, refusals := 0#8, lastRefused := 0#8, data := [] }

/-! ## Matching (R34) -/

/-- Entry i of a bank matches channel c: valid, and equal to CHANNEL, or equal under the group mask when MASKED. -/
def Bank.Matches (b : Bank) (i : EntryIndex) (c : Channel) : Prop :=
  (b.entry i).valid = true ∧
    (((b.entry i).masked = false ∧ (b.entry i).channel = c) ∨
      ((b.entry i).masked = true ∧ (c ^^^ (b.entry i).channel) &&& b.maskFor i = 0#10))

/-- The store is SAVING. -/
def StoreState.isSaving : StoreState → Bool
  | .saving _ _ => true
  | .valid | .invalid | .loading => false

/-! ## A header that matched (R50, R51, R53, R129) -/

/-- On that line the trunk receiver hears the valid header H0 H1 (R2, R5, R7), and stands at `r` after it. H1 is handed
over at its last level but `since`: so many sixteenths of a bit time have passed since the end of H1 (R11). -/
abbrev HearsHeader (s : State) (line : Wave) (h0 h1 : Byte) (r : Receiver) (since : Nat) : Prop :=
  s.hearTrunk line = (r, [.character (.good h0), .character (.good h1)]) ∧
    checkNibble h0 (highNibble h1) = lowNibble h1 ∧
    ∃ toH1 last idle, Wave.levels line = toH1 ++ last :: idle ∧ idle.length = since ∧
      (s.trunk.receiver.hearLevels .trunk toH1).2 = [.character (.good h0)] ∧
      (s.trunk.receiver.hearLevels .trunk (toH1 ++ [last])).2 = [.character (.good h0), .character (.good h1)]

/-- On that line the trunk receiver hears a header in error (R2, R5, R7), and stands at `r` after it: FRAMING in H0,
FRAMING in H1, or a check nibble that differs. -/
abbrev HearsHeaderError (s : State) (line : Wave) (r : Receiver) : Prop :=
  (∃ v, s.hearTrunk line = (r, [.character (.framing v)])) ∨
    (∃ h0 v, s.hearTrunk line = (r, [.character (.good h0), .character (.framing v)])) ∨
    ∃ h0 h1, s.hearTrunk line = (r, [.character (.good h0), .character (.good h1)]) ∧
      checkNibble h0 (highNibble h1) ≠ lowNibble h1

/-- HEADERS and ROUTED one more, saturating. -/
def routedHeader (s : State) : State :=
  { s with
    agent :=
      { s.agent with
        counters :=
          { s.agent.counters with
            headers := satSucc s.agent.counters.headers, routed := satSucc s.agent.counters.routed } } }

/-- The port state for a management channel (R51): a capture for COMMAND and STREAM WRITE, otherwise a serve of the
channel's snapshot, check byte last (R54). -/
def managementPort (k : ManagementChannel) (h0 h1 : Byte) (s : State) : PortState :=
  let reply := fun data => data ++ [checkByte h0 h1 data]
  match k with
  | .command => .capture .command h0 h1
  | .result => .serve .result (reply s.agent.result.bytes)
  | .status => .serve .status (reply s.statusBytes)
  | .counters => .serve .counters (reply s.agent.counters.bytes)
  | .entryRead => .serve .entryRead (reply s.route.entryReadBytes)
  | .recordRead => .serve .recordRead (reply s.store.recordReadBytes)
  | .streamWrite => .capture .streamWrite h0 h1
  | .ident => .serve .ident (reply s.identBytes)

/-- The port state after a serve decision on record i (R53, R73): SERVE with the record's data and check byte, or
PASSIVE. -/
def recordPort (i : EntryIndex) (policy : MissPolicy) (h0 h1 : Byte) (s : State) : PortState :=
  let serve := PortState.serve (.record i (s.record i).version)
    ((s.record i).data ++ [checkByte h0 h1 (s.record i).data])
  match (s.record i).state, policy with
  | .fresh, _ => serve
  | .stale, .repeat => serve
  | .stale, .silent => .passive
  | .empty, _ => .passive

/-- The demand check of entry i (R74): a DEMAND request for a record that is not FRESH, and the taking of the item it
may bring to an IDLE link (R94, R106; log 7). -/
def demandChecked (i : EntryIndex) (e : Entry) (s : State) : State :=
  (if e.demand = true ∧ (s.record i).state ≠ .fresh then s.request i .refresh .demand else s).takeOffered

/-- The six identity fields agree (chapter 4). -/
abbrev SameIdentity (e f : Entry) : Prop :=
  e.valid = f.valid ∧ e.channel = f.channel ∧ e.masked = f.masked ∧ e.kind = f.kind ∧ e.length = f.length ∧
    e.branchChannel = f.branchChannel

/-- A capture that is taken, from that source (R67): the record it leaves. -/
def capturedRecord (data : List Byte) (source : Source) (tickCount : Word16) (r : Record) : Record :=
  { r with
    data := data, state := .fresh, age := 0#16, served := 0#8, stamp := tickCount, source := source,
    version := r.version + 1#8 }

/-- A record made EMPTY (R65). -/
def emptyRecordOf (r : Record) : Record :=
  { r with
    state := .empty, data := [], age := 0#16, served := 0#8, pending := false, fails := 0#4, silent := false }

/-- The edit bank is held: a commit is pending or the store is SAVING or LOADING (R25, R32). -/
abbrev EditHeld (s : State) : Prop :=
  s.route.commitPending = true ∨ s.config.store.isSaving = true ∨ s.config.store = .loading

/-! ## Validation (R39) -/

/-- The six reasons of R39, by code: when entry i of a bank offends for the reason. -/
def Bank.Offends (b : Bank) (unit : BitVec 3) (i : EntryIndex) (code : Nat) : Prop :=
  let e := b.entry i
  match code with
  | 1 => e.masked = true ∧ (e.kind = .localData ∨ e.kind = .cached ∨ e.kind = .downlink)
  | 2 => (e.refresh ≠ 0#8 ∨ e.demand = true) ∧ (e.kind = .localData ∨ e.kind = .downlink ∨ e.kind = .blocked)
  | 3 => e.kind = .relayed ∧ e.masked = true ∧ (e.refresh ≠ 0#8 ∨ e.demand = true ∨ e.fallback = true)
  | 4 => e.fallback = true ∧ e.kind ≠ .relayed
  | 5 =>
    ((e.kind = .cached ∨ e.kind = .relayed ∨ e.kind = .downlink) ∧ e.branchChannel = 1023#10) ∨
      (e.kind = .relayed ∧ e.masked = true ∧ ∀ k : Fin 10, (b.maskFor i).getLsbD k = true →
        e.branchChannel.getLsbD k = true)
  | 6 => 960 + 8 * unit.toNat ≤ e.channel.toNat ∧ e.channel.toNat ≤ 967 + 8 * unit.toNat
  | _ => False

/-! ## Invariants of the queue (R90, R91) -/

/-- At most 16 items, no two for one entry; the deferred set in ascending order, each index at most once, none of them
queued; deferred elements only while the queue holds 16 items. -/
abbrev Scheduler.Wf (q : Scheduler) : Prop :=
  q.queue.length ≤ 16 ∧ (q.queue.map fun it => it.entry).Nodup ∧
    (q.deferred.map fun d => d.entry).Pairwise (fun a b => a < b) ∧
    (∀ d ∈ q.deferred, ∀ it ∈ q.queue, it.entry ≠ d.entry) ∧
    (q.deferred ≠ [] → q.queue.length = 16)

/-- An IDLE link has no work waiting (log 7). -/
abbrev IdleInv (s : State) : Prop :=
  s.link.state = .idle → s.sched.queue = []

/-! ## Invariants of the link (R3, R113, R138, R139, R149) -/

/-- The score is 128 or more exactly in QUARANTINE (R113). -/
abbrev ScoreInv (s : State) : Prop :=
  128 ≤ s.link.score.toNat ↔ s.link.state = .quarantine

/-- The link states of LOOPBACK (R149). -/
def LinkState.inLoopback : LinkState → Bool
  | .idle | .header _ | .replyWait _ | .dataOut _ | .gap _ => true
  | .quarantine | .asleep | .wakeOut _ _ _ | .wakeSettle => false

/-- The states in which a sleep frame can be pending (R138). -/
def LinkState.delaysSleepFrame : LinkState → Bool
  | .header _ | .replyWait _ | .dataOut _ | .gap _ => true
  | .idle | .quarantine | .asleep | .wakeOut _ _ _ | .wakeSettle => false

/-- The rate of what the branch receiver has heard the beginning of: a transaction behind its header, and the gap behind
a transaction or a wake pulse (R3, R118). -/
def LinkState.begunRate : LinkState → Option RateCode
  | .replyWait t | .dataOut t => some t.rate
  | .gap rate => some rate
  | .idle | .header _ | .quarantine | .asleep | .wakeOut _ _ _ | .wakeSettle => none

/-- The branch transmitter and the branch receiver run at the same rate, which no write of the line settings changes
until the next transaction or wake pulse begins (R3, R118, R125). -/
abbrev RateInv (s : State) : Prop :=
  ∀ rate ∈ s.link.state.begunRate, s.link.receiverRate = rate

/-- A pending or flying sleep frame belongs to the SLEEP_BRANCH that holds the slot, in NORMAL, and there is one of them
at most (R138); in LOOPBACK the link state is one of R149; the receiver keeps to the rate of what is on the branch (R3).
-/
abbrev LinkInv (s : State) : Prop :=
  ScoreInv s ∧
    (s.link.sleepFramePending = true →
      s.slotHeldBy 0x50#8 = true ∧ s.link.mode = .normal ∧ s.link.state.delaysSleepFrame = true) ∧
    (s.link.state.sendsSleepFrame = true →
      s.slotHeldBy 0x50#8 = true ∧ s.link.mode = .normal ∧ s.link.sleepFramePending = false) ∧
    (s.link.mode = .loopback → s.link.state.inLoopback = true) ∧ RateInv s

/-! ## Invariants of the slot (R153, R162) -/

/-- RESULT shows PENDING exactly for the slot's holder, which is one of the five commands; COMMIT holds it exactly while
a commit is pending, SAVE_CONFIG and LOAD_CONFIG exactly while the store is SAVING or LOADING (R153); a commit is
pending only while a transaction is on the branch (R162). -/
abbrev SlotInv (s : State) : Prop :=
  (∀ sl ∈ s.agent.slot,
      s.agent.result.code = sl.code ∧ s.agent.result.tag = sl.tag ∧ s.agent.result.outcome = .pending ∧
        sl.code ∈ [0x15#8, 0x50#8, 0x51#8, 0x60#8, 0x61#8]) ∧
    (s.agent.slot = none → s.agent.result.outcome ≠ .pending) ∧
    (s.slotHeldBy 0x15#8 = true ↔ s.route.commitPending = true) ∧
    (s.slotHeldBy 0x60#8 = true ↔ s.config.store.isSaving = true) ∧
    (s.slotHeldBy 0x61#8 = true ↔ s.config.store = .loading) ∧
    (s.route.commitPending = true → s.link.state.inTransaction = true)

/-! ## Invariants of the table (R20, R39) -/

/-- Every entry of the bank can be encoded: SILENT_LIMIT is 1..15 (R20, R174). -/
abbrev Bank.Encodable (b : Bank) : Prop :=
  ∀ i : EntryIndex, (b.entry i).silentLimit ≠ 0#4

/-- Every entry whose countdown runs is of a kind that is refreshed: what R39, reasons 2 and 3, leaves. -/
abbrev Bank.Refreshable (b : Bank) : Prop :=
  ∀ i : EntryIndex, (b.entry i).countdownRuns = true → (b.entry i).takesRefresh = true

/-- The contents of an image, if any. -/
def Image.contents : Image → Option ImageContents
  | .unmatched => none
  | .written c _ => some c

/-- The snapshot of a save in progress. -/
def StoreState.snapshot : StoreState → Option ImageContents
  | .saving c _ => some c
  | .valid | .invalid | .loading => none

/-- Every entry the relay holds, in a bank, in the image or in a save's snapshot, can be encoded. -/
abbrev EncodableInv (s : State) : Prop :=
  s.route.bankA.Encodable ∧ s.route.bankB.Encodable ∧ (∀ c ∈ s.config.image.contents, c.bank.Encodable) ∧
    ∀ c ∈ s.config.store.snapshot, c.bank.Encodable

/-- The active bank, an edit bank whose commit is pending, the image and a save's snapshot have passed validation, as
far as refreshing goes. -/
abbrev TableInv (s : State) : Prop :=
  s.route.activeContents.Refreshable ∧ (s.route.commitPending = true → s.route.editContents.Refreshable) ∧
    (∀ c ∈ s.config.image.contents, c.bank.Refreshable) ∧ ∀ c ∈ s.config.store.snapshot, c.bank.Refreshable

/-! ## Invariants of records and branch work (R64, R89, R98) -/

/-- A record agrees with its active entry (R64); PENDING only for a DOWNLINK entry; an EMPTY record holds nothing. -/
abbrev Record.Fits (r : Record) (e : Entry) : Prop :=
  (r.state ≠ .empty → e.keepsRecord = true ∧ r.data.length = e.bytes) ∧
    (r.state = .empty → r.data = [] ∧ r.age = 0#16 ∧ r.served = 0#8 ∧ r.pending = false) ∧
    (r.pending = true → e.takesPublish = true)

/-- Queued or deferred work fits its entry, and a publication has data to send. -/
abbrev State.workFits (s : State) (e : EntryIndex) (op : QueueOp) : Prop :=
  op.fits (s.activeEntry e) = true ∧ (op = .publish → (s.record e).state ≠ .empty)

/-- A transaction agrees with the active entry it is for, and a relay with its context. -/
def State.transactionFits (s : State) (t : Transaction) : Bool :=
  match t.op with
  | .refresh i _ => (s.activeEntry i).takesRefresh && t.length == (s.activeEntry i).length
  | .publish i _ _ data =>
    (s.activeEntry i).takesPublish && t.length == (s.activeEntry i).length && data.length == dataBytes t.length
  | .relay i =>
    match s.link.relay with
    | some x =>
      decide (x.index = i) && decide (x.entry = s.activeEntry i) && decide (x.branchSide = .stillOpen) &&
        x.entry.valid && x.entry.kind == .relayed && t.length == x.entry.length
    | none => false
  | .sleep => true

/-- A transaction publishes entry i. -/
def Transaction.publishes (t : Transaction) (i : EntryIndex) : Bool :=
  match t.op with
  | .publish j _ _ _ => j == i
  | .refresh _ _ | .relay _ | .sleep => false

/-- A capture for an entry is for a valid DOWNLINK entry (R51). -/
def PortState.capturesDownlink : PortState → Bool
  | .capture (.downlink _ e) _ _ => e.takesPublish
  | .capture .command _ _ | .capture .streamWrite _ _ | .hunt | .header | .passive | .serve _ _ | .forward _ _ _ => true

/-- Records agree with the active bank, work with its entries, and what is staged or captured with its owner. -/
abbrev WorkInv (s : State) : Prop :=
  (∀ i : EntryIndex, (s.record i).Fits (s.activeEntry i)) ∧ (∀ it ∈ s.sched.queue, s.workFits it.entry it.op) ∧
    (∀ d ∈ s.sched.deferred, s.workFits d.entry d.op) ∧
    (∀ t ∈ s.link.state.transaction, s.transactionFits t = true) ∧
    (∀ x ∈ s.store.staging, x.bytes.length = 8) ∧
    s.trunk.port.capturesDownlink = true

/-- Every record with PENDING set has its entry in the branch queue, in the deferred set or in the in-flight
transaction, except while the link controller is in QUARANTINE (R98). -/
abbrev DeliveryInv (s : State) : Prop :=
  s.link.state ≠ .quarantine →
    ∀ i : EntryIndex, (s.record i).pending = true →
      s.sched.queued i = true ∨ s.sched.isDeferred i = true ∨ ∃ t ∈ s.link.state.transaction, t.publishes i = true

/-- All of the invariants together. -/
abbrev Inv (s : State) : Prop :=
  s.sched.Wf ∧ IdleInv s ∧ LinkInv s ∧ SlotInv s ∧ EncodableInv s ∧ TableInv s ∧ WorkInv s ∧ DeliveryInv s

end Sys2Proof.Machine
end

