-- ==== Sys2Proof/Certificates/Slice0/Obligations.lean ====
section
/-! DEFINITION. Certificates/Slice0/Obligations.lean: the statements for the provers, one Prop each, listed with the
rules they rest on in OBLIGATIONS.json. A result statement gives the whole next state as an update of the old one, so
that it is the completion, the result and the frame of its command at once. -/

open Sys2Proof Sys2Proof.Machine

/-! ## Steps and commands -/

/-- One step runs the command at the front of the queue on the state with the queue's rest; on an empty queue the block
idles (the model's choice, log 8). -/
def Obligations.StepRunsFrontCommand : Prop :=
  (∀ (c : Instr) (rest : List Instr) (s : State), step { s with pending := c :: rest } = exec c { s with pending := rest }) ∧
    ∀ s : State, s.pending = [] → step s = .next s

/-- Every command on every state answers a next state, and leaves the queue of waiting commands as it is: the model's
own conventions, that an event which cannot arise in a state changes nothing (log 4), and that commands wait in a queue
from outside (logs 1 and 8). -/
def Obligations.EveryCommandAnswersNext : Prop :=
  ∀ (c : Instr) (s : State), ∃ t, exec c s = .next t ∧ t.pending = s.pending

/-! ## Starts and the supply (chapter 10) -/

/-- The state after reset: the end of the start sequence after power-on with an INVALID image (log 1, log 2). -/
def Obligations.ResetState : Prop :=
  StartedWith .powerOn { unit := 0#3, rate := 0#2 } clearedResult { State.reset with power := .starting } ∧
    LoadedFrom .unmatched State.reset ∧ State.reset.power = .running ∧ State.reset.pending = []

/-- POWER_ON with RESET_N high, RESET_N_RELEASE of a held relay, and RESTART begin a start: every block takes its start
values, and the image decides the table, the settings and the flags. RESULT is cleared, or left as RESTART wrote it. -/
def Obligations.StartsSetStartValues : Prop :=
  (∀ (straps : Straps) (s : State),
     (s.power = .off false →
       ∃ t, exec (.powerOn straps) s = .next t ∧ StartedWith .powerOn straps clearedResult t ∧
         LoadedFrom s.config.image t) ∧
     ∀ cause, s.power = .held cause →
       ∃ t, exec (.resetNRelease straps) s = .next t ∧ StartedWith cause straps clearedResult t ∧
         LoadedFrom s.config.image t) ∧
  (∀ (tag : Byte) (ops : Operands) (straps : Straps) (s : State), AcceptsRecord s →
     ∃ t, RecordAnswers 0x62#8 tag ops (fun heard => .restart tag heard straps) s t ∧
       StartedWith .restart straps
         { tag := tag, code := 0x62#8, outcome := .done, refusals := 0#8, lastRefused := 0#8, data := [] } t ∧
       LoadedFrom s.config.image t)

/-- The supply and RESET_N: what POWER_ON, RESET_N_ASSERT, RESET_N_RELEASE, POWER_LOSS and START_SEQUENCE_COMPLETE do to
a relay they find off, held, starting or running, beyond the starts. That everything but the supply and the pin is kept
meanwhile is the model's choice (log 14): nothing can read it, and the next start overwrites it. -/
def Obligations.SupplyAndResetPin : Prop :=
  ∀ (straps : Straps) (s : State),
    (s.power = .off true → exec (.powerOn straps) s = .next { s with power := .held .powerOn }) ∧
    (s.power = .running ∨ s.power = .starting → exec .resetNAssert s = .next { s with power := .held .pin }) ∧
    (∀ low, s.power = .off low → exec .resetNAssert s = .next { s with power := .off true }) ∧
    (∀ low, s.power = .off low → exec (.resetNRelease straps) s = .next { s with power := .off false }) ∧
    (s.power = .running ∨ s.power = .starting → exec .powerLoss s = .next { s with power := .off false }) ∧
    (∀ cause, s.power = .held cause → exec .powerLoss s = .next { s with power := .off true }) ∧
    (s.power = .starting →
      exec .startSequenceComplete s =
        .next { s with power := .running, sched := { s.sched with runningPeriod := s.sched.tickPeriod } })

/-- Events that cannot arise (the model's convention, log 4 and log 14). While the relay is not running, both
transmitters are released, and no command but those of the supply, RESET_N and the start sequence changes anything.
While it runs, a row changes nothing in a state that does not take its event, or with a line on which that event does
not come about (logs 19, 24, 25, 27 and 28): ends and faults of transmissions outside the states that transmit, or
against what reads back; breaks, headers, receptions and wakes that the receiver does not hear, or that come too early;
the end of a gap outside GAP; a handoff with nothing held; an expiry whose countdown is not due, whatever keeps it from
being due (log 5); samples outside the sampling; the completion of a save or load that is not under way. -/
def Obligations.EventsThatCannotAriseChangeNothing : Prop :=
  (∀ s : State, s.power ≠ .running →
     s.trunkDrive = .released ∧ s.branchDrive = .released ∧
       ∀ c : Instr, isPowerEvent c = false → exec c s = .next s) ∧
  (∀ (sent : Transmission) (s : State),
     ((∀ source reply, s.trunk.port = .serve source reply →
         ReadsBack (charactersLevels reply) sent →
           RxEvent.lineBreak ∈ (s.trunk.receiver.hearSent .trunk (charactersLevels reply) sent).2) →
       exec (.serveComplete sent) s = .next s) ∧
     ((∀ source reply k r, s.trunk.port = .serve source reply → ¬ Collides s reply sent k r) →
       exec (.trunkServeBitError sent) s = .next s) ∧
     ((∀ b waiting more, s.trunk.port = .forward (some (.check b)) waiting more → ReadsBack (characterLevels b) sent →
         RxEvent.lineBreak ∈ (s.trunk.receiver.hearSent .trunk (characterLevels b) sent).2) →
       exec (.relayTrunkComplete sent) s = .next s) ∧
     ((∀ b waiting more, s.trunk.port = .forward (some (.data b)) waiting more → ReadsBack (characterLevels b) sent →
         RxEvent.lineBreak ∈ (s.trunk.receiver.hearSent .trunk (characterLevels b) sent).2) →
       exec (.forwardedCharacterFinished sent) s = .next s) ∧
     ((∀ c waiting more k r, s.trunk.port = .forward (some c) waiting more → ¬ Collides s [c.value] sent k r) →
       exec (.trunkForwardBitError sent) s = .next s) ∧
     ((∀ t k, s.link.state = .header t → s.link.mode = .normal → NoWakeBefore s sent →
         DiffersFirst t.headerSent sent k → t.breakLength.bits + 2 ≤ k) →
       exec (.branchLineFault sent) s = .next s) ∧
     ((∀ t k, s.link.state = .header t → s.link.mode = .normal → NoWakeBefore s sent →
         DiffersFirst t.headerSent sent k → k < t.breakLength.bits + 2) →
       (∀ t k, s.link.state = .dataOut t → s.link.mode = .normal →
         ¬ DiffersFirst (charactersLevels t.published) sent k) →
         exec (.branchBitError sent) s = .next s) ∧
     ((∀ t, s.link.state = .header t → s.link.mode = .normal ∧ (NoWakeBefore s sent → ¬ ReadsBack t.headerSent sent)) →
       exec (.branchHeaderSent sent) s = .next s) ∧
     ((∀ t, s.link.state = .dataOut t → s.link.mode = .normal ∧ ¬ ReadsBack (charactersLevels t.published) sent) →
       exec (.publishDataSent sent) s = .next s) ∧
     ((∀ b steps rate, s.link.state = .wakeOut b steps rate →
         s.link.mode = .normal ∧ (NoWakeBefore s sent → ¬ ReadsBack (List.replicate steps.toNat false) sent)) →
       exec (.wakePulseEnd sent) s = .next s) ∧
     ((∀ b steps rate k, s.link.state = .wakeOut b steps rate → s.link.mode = .normal → NoWakeBefore s sent →
         ¬ DiffersFirst (List.replicate steps.toNat false) sent k) →
       exec (.wakePulseFault sent) s = .next s)) ∧
  (∀ (line delimiter header before : Wave) (low : Nat) (windowFirst : Bool) (s : State),
     (s.hearsBreak line = false → exec (.trunkBreak line) s = .next s) ∧
     (s.trunk.port ≠ .header ∨ headerHeard (s.hearTrunk (delimiter ++ header)).2 = none →
       exec (.trunkHeaderError delimiter header) s = .next s ∧ exec (.trunkValidHeader delimiter header) s = .next s) ∧
     ((∀ target h0 h1 v, s.trunk.port = .capture target h0 h1 →
         s.captureVerdict h0 h1 target.bytes windowFirst line = some v → v = .success) →
       exec (.captureFailed ⟨line, windowFirst⟩) s = .next s) ∧
     ((∀ i e h0 h1, s.trunk.port = .capture (.downlink i e) h0 h1 →
         s.captureVerdict h0 h1 e.bytes false line = none) →
       exec (.downlinkCapture line) s = .next s) ∧
     ((∀ h0 h1, s.trunk.port = .capture .streamWrite h0 h1 → s.captureVerdict h0 h1 16 false line = none) →
       exec (.streamWrite line) s = .next s) ∧
     (∀ c code tag ops, recordOfCommand c = some (code, tag, ⟨ops, line⟩) →
       (∀ h0 h1, s.trunk.port = .capture .command h0 h1 →
         s.captureVerdict h0 h1 16 false line = none ∨
           s.captureVerdict h0 h1 16 false line = some .success ∧
             (goodBytes (s.hearCapture 16 line).2).take 16 ≠ code :: tag :: ops.toList) →
         exec c s = .next s) ∧
     ((∀ t i x, s.link.state = .replyWait t → t.op = .relay i → s.link.relay = some x →
         x.received.length < x.entry.bytes →
           s.link.mode = .normal ∧ ∀ b, (s.hearReply x.entry.bytes line).2 ≠ [.character (.good b)]) →
       exec (.relayCharacterReceived line) s = .next s) ∧
     ((∀ t, s.link.state = .replyWait t →
         (∀ i o, t.op = .refresh i o → s.refreshReception t ⟨line, windowFirst⟩ = none) ∧
         ∀ i x, t.op = .relay i → s.link.relay = some x → s.relayReception x ⟨line, windowFirst⟩ = none) →
       exec (.branchReplyEnd ⟨line, windowFirst⟩) s = .next s) ∧
     (s.hearsWake before low = false ∨ s.link.state.inFrame = true →
       exec (.branchWakeDetected before low) s = .next s)) ∧
  ∀ s : State,
    ((∀ rate, s.link.state ≠ .gap rate) → exec .gapEnd s = .next s) ∧
    ((∀ sending waiting more x check c rest, s.trunk.port = .forward sending waiting more → s.link.relay = some x →
        x.trunkSide ≠ .stillOpen check (c :: rest)) →
      exec .forwardCharacterHandoff s = .next s) ∧
    (∀ i, (s.activeEntry i).valid = false ∨ (s.activeEntry i).refresh = 0#8 ∨ 1 < (s.countdown i).toNat →
      exec (.refreshCountdownExpiry i) s = .next s) ∧
    (s.link.state ≠ .wakeSettle ∨ 1 < s.link.settle.toNat → exec .settleExpiry s = .next s) ∧
    (s.link.state ≠ .quarantine ∨ s.link.line.policy = .hold ∨ s.link.sampling = true ∨ 1 < s.link.hold.toNat →
      exec .quarantineHoldExpiry s = .next s) ∧
    (s.link.state ≠ .quarantine ∨ s.link.sampling = false → ∀ a b c, exec (.quarantineSample a b c) s = .next s) ∧
    ((∀ c count, s.config.store ≠ .saving c count) → ∀ ok, exec (.saveComplete ok) s = .next s) ∧
    (s.config.store ≠ .loading → exec .loadComplete s = .next s)

/-! ## Lines and formats (chapters 1 and 11) -/

/-- A header composed under R6 is judged valid under R7 and carries its channel and length code. A character sent on the
line is received by either segment's receiver, and a header sent on the trunk after a break and a delimiter of at least
1 bit time, with any idle time between its characters, is heard as that header (the line at sixteenths of a bit time,
log 24). -/
def Obligations.HeaderRoundTrip : Prop :=
  (∀ (c : Channel) (l : LengthCode),
     judgeHeader (.good (headerH0 c)) (.good (headerH1 c l)) = .valid (headerH0 c) (headerH1 c l) ∧
       headerChannel (headerH0 c) (headerH1 c l) = c ∧ headerLength (headerH1 c l) = l) ∧
  (∀ (g : Segment) (b : Byte) (r : Receiver), r.phase = .waiting → r.high = true →
     (r.hear g (characterWave b)).2 = [.character (.good b)] ∧ (r.hear g (characterWave b)).1.phase = .waiting) ∧
  ∀ (c : Channel) (l : LengthCode) (low delimiter idle : Nat), 16 ≤ delimiter →
    headerHeard
        (Receiver.afterBreak.hear .trunk
          ([(false, low), (true, delimiter)] ++ characterWave (headerH0 c) ++ [(true, idle)] ++
            characterWave (headerH1 c l))).2 =
      some (.valid (headerH0 c) (headerH1 c l))

/-- A route entry survives its ten bytes, and ten bytes that pass the encoding checks are those of the entry read from
them. -/
def Obligations.EntryEncodingRoundTrip : Prop :=
  (∀ e : Entry, e.silentLimit ≠ 0#4 → decodeEntry (encodeEntry e) = some e) ∧
    ∀ (bytes : List Byte) (e : Entry), decodeEntry bytes = some e → encodeEntry e = bytes ∧ e.silentLimit ≠ 0#4

/-- A COMMAND record and the command it stands for determine each other. -/
def Obligations.CommandRecordRoundTrip : Prop :=
  (∀ (straps : Straps) (branch : Transmission) (code tag : Byte) (ops : HeardOperands),
      recordOfCommand (commandOfRecord straps branch code tag ops) = some (code, tag, ops) ∧
        (commandOfRecord straps branch code tag ops).wellFormed = true) ∧
    ∀ (c : Instr) (code tag : Byte) (ops : HeardOperands), c.wellFormed = true →
      recordOfCommand c = some (code, tag, ops) → ∃ straps branch, commandOfRecord straps branch code tag ops = c

/-- What the relay drives. On the trunk, only in SERVE and FORWARD: the reply's characters, or the forwarded character.
On the branch, never in LOOPBACK and only in HEADER, DATA_OUT and WAKE_OUT: break, delimiter and the header of the
transaction's channel and length; the data of the publication or of the sleep frame with their check byte; the pulse of
its steps. -/
def Obligations.DrivesOnlyWhereAllowed : Prop :=
  (∀ s : State,
     (s.trunkDrive ≠ .released →
       (∃ source reply, s.trunk.port = .serve source reply) ∨
         ∃ c waiting more, s.trunk.port = .forward (some c) waiting more) ∧
     (s.branchDrive ≠ .released →
       s.link.mode = .normal ∧
         ((∃ t, s.link.state = .header t) ∨ (∃ t, s.link.state = .dataOut t) ∨
           ∃ asleep steps rate, s.link.state = .wakeOut asleep steps rate))) ∧
  ∀ s : State, s.power = .running →
    (∀ source reply, s.trunk.port = .serve source reply → s.trunkDrive = .characters reply) ∧
    (∀ b waiting more,
      s.trunk.port = .forward (some (.data b)) waiting more ∨ s.trunk.port = .forward (some (.check b)) waiting more →
        s.trunkDrive = .characters [b]) ∧
    (s.link.mode = .normal →
      (∀ t, s.link.state = .header t →
        s.branchDrive =
          .frameHeader t.breakLength (headerH0 t.branchChannel) (headerH1 t.branchChannel t.length)) ∧
      (∀ t data, s.link.state = .dataOut t →
        ((∃ i o v, t.op = .publish i o v data) ∨ t.op = .sleep ∧ data = [0x00#8, 0x00#8]) →
          s.branchDrive =
            .characters
              (data ++ [checkByte (headerH0 t.branchChannel) (headerH1 t.branchChannel t.length) data])) ∧
      ∀ asleep steps rate, s.link.state = .wakeOut asleep steps rate → s.branchDrive = .pulse steps)

/-! ## Trunk port (chapter 3) -/

/-- TRUNK_BREAK in every port state, for a line (in sixteenths of a bit time, log 24) in which the trunk receiver hears
the break: HEADER, with the tick count as last header stamp; in FORWARD the trunk side of the relay ends, and its
context goes if the branch side has ended. Which breaks the receiver hears: a low of 11 bit times from its falling edge,
whatever the receiver was doing, and no shorter one; none, and no character, after a break or at the start of listening
until the line has read high for 1 bit time. A character of any value whose stop bit's majority is low is FRAMING on the
branch at once; on the trunk it is FRAMING as soon as the line reads high before its low has lasted 11 bit times, be it
at the third sample of the stop bit, and a break that follows comes besides; otherwise the break alone. A start bit
whose majority is high is discarded: no character, and the receiver waits again, from the third sample on (the model's
choice, log 24). -/
def Obligations.TrunkBreakBeginsFrame : Prop :=
  (∀ (line : Wave) (s : State), s.power = .running → s.hearsBreak line = true →
     ((∀ sending waiting more, s.trunk.port ≠ .forward sending waiting more) →
       exec (.trunkBreak line) s =
         .next
           { s with
             trunk :=
               { s.trunk with
                 port := .header, stamp := s.sched.tickCount, receiver := (s.hearTrunk line).1 } }) ∧
     ∀ sending waiting more, s.trunk.port = .forward sending waiting more →
       exec (.trunkBreak line) s =
         .next
           { s with
             trunk :=
               { s.trunk with
                 port := .header, stamp := s.sched.tickCount, receiver := (s.hearTrunk line).1 }
             link :=
               { s.link with
                 relay :=
                   s.link.relay.bind fun x =>
                     if x.branchSide = .stillOpen then some { x with trunkSide := .ended } else none } }) ∧
  (∀ (r : Receiver) (n : Nat), r.phase ≠ .quiet → r.high = true →
     (n < 176 → RxEvent.lineBreak ∉ (r.hear .trunk [(false, n)]).2) ∧
       endsWithBreak (r.hear .trunk [(false, 176)]).2 = true ∧ (r.hear .trunk [(false, 176)]).1 = Receiver.afterBreak) ∧
  (∀ (r : Receiver) (low : Nat) (edges : List (Nat × Nat)), r.phase = .quiet → (∀ x ∈ edges, x.1 < 16) →
     (r.hear .trunk ((false, low + 1) :: edges.flatMap fun x => [(true, x.1), (false, x.2 + 1)])).2 = []) ∧
  (∀ (r : Receiver) (n : Nat), r.phase = .quiet → 16 ≤ n →
     (r.hear .trunk [(true, n)]).2 = [] ∧ (r.hear .trunk [(true, n)]).1.phase = .waiting) ∧
  (∀ (r : Receiver) (n : Nat), r.phase = .waiting → r.high = true →
    (r.hear .trunk [(false, 176)]).2 = [.lineBreak] ∧
      (153 ≤ n → n < 176 →
        (r.hear .trunk [(false, n), (true, 1)]).2 = [.character (.framing 0x00#8)] ∧
          (r.hear .trunk [(false, n), (true, 1), (false, 176)]).2 = [.character (.framing 0x00#8), .lineBreak]) ∧
      (154 ≤ n → (r.hear .branch [(false, n)]).2 = [.character (.framing 0x00#8)])) ∧
  (∀ (r : Receiver) (b : Byte) (early : List Bool) (v w x : Bool) (levels : List Bool), r.phase = .waiting →
     r.high = true → early.length = 7 → ((v && w) || (v && x) || (w && x)) = false →
     levels = sixteenths ((characterLevels b).take 9) ++ early ++ [v, w, x] →
       (r.hearLevels .branch levels.dropLast).2 = [] ∧
       (r.hearLevels .branch levels).2 = [.character (.framing b)] ∧
       (x = true → (r.hearLevels .trunk levels).2 = [.character (.framing b)]) ∧
       ∀ before m, true :: levels = before ++ true :: List.replicate (m + 1) false →
         (∀ n, m + 1 + n < 176 →
           (r.hearLevels .trunk (levels ++ List.replicate n false ++ [true])).2 = [.character (.framing b)]) ∧
         ∀ n, m + 1 + n = 176 → (r.hearLevels .trunk (levels ++ List.replicate n false)).2 = [.lineBreak]) ∧
  ∀ (g : Segment) (r : Receiver) (early : List Bool) (v w x : Bool), r.phase = .waiting → r.high = true →
    early.length = 6 → ((v && w) || (v && x) || (w && x)) = true →
      (r.hearLevels g ([false] ++ early ++ [v, w, x])).2 = [] ∧
        (r.hearLevels g ([false] ++ early ++ [v, w, x])).1.phase = .waiting

/-- TRUNK_HEADER_ERROR, on a line in which the trunk receiver hears a header in error (log 24): HEADER_ERRORS one more,
saturating, HEADER_ERROR set, PASSIVE, and nothing else. -/
def Obligations.HeaderErrorCounted : Prop :=
  ∀ (delimiter header : Wave) (r : Receiver) (s : State), HearsHeaderError s (delimiter ++ header) r →
    s.power = .running → s.trunk.port = .header →
      exec (.trunkHeaderError delimiter header) s =
        .next
          { s with
            trunk := { s.trunk with port := .passive, receiver := r }
            agent :=
              { s.agent with
                flags := s.agent.flags ||| 0x0001#16
                counters := { s.agent.counters with headerErrors := satSucc s.agent.counters.headerErrors } } }

/-- TRUNK_VALID_HEADER, on a line in which the trunk receiver hears that header (log 24), whose lookup gives no match:
unrouted moves HEADERS only; a length mismatch, on the relay's own block or on an entry, also HEADER_ERRORS and
HEADER_ERROR; PASSIVE, and nothing else. -/
def Obligations.HeaderWithoutMatch : Prop :=
  ∀ (delimiter header : Wave) (h0 h1 : Byte) (r : Receiver) (since : Nat) (s : State),
    HearsHeader s (delimiter ++ header) h0 h1 r since → s.power = .running → s.trunk.port = .header →
      (s.lookup (headerChannel h0 h1) (headerLength h1) = .unrouted →
        exec (.trunkValidHeader delimiter header) s =
          .next
            { s with
              trunk := { s.trunk with port := .passive, receiver := r, sinceH1 := since }
              agent :=
                { s.agent with counters := { s.agent.counters with headers := satSucc s.agent.counters.headers } } }) ∧
      ((s.lookup (headerChannel h0 h1) (headerLength h1) = .ownMismatch ∨
          ∃ i, s.lookup (headerChannel h0 h1) (headerLength h1) = .entryMismatch i) →
        exec (.trunkValidHeader delimiter header) s =
          .next
            { s with
              trunk := { s.trunk with port := .passive, receiver := r, sinceH1 := since }
              agent :=
                { s.agent with
                  flags := s.agent.flags ||| 0x0001#16
                  counters :=
                    { s.agent.counters with
                      headers := satSucc s.agent.counters.headers
                      headerErrors := satSucc s.agent.counters.headerErrors } } })

/-- TRUNK_VALID_HEADER, on a line in which the trunk receiver hears that header (log 24). For a channel of the relay's
own block, COMMAND and STREAM WRITE are captured, the other six are served from the snapshot of this moment, which
counts its own header. For an entry which is not RELAYED: BLOCKED is silent, DOWNLINK is captured with the copy of the
entry, LOCAL and CACHED are served or silent by STATE and MISS_POLICY, and CACHED makes the demand check. What the six
channels carry, byte by byte: RESULT, STATUS, COUNTERS, IDENT, ENTRY READ of the bank and index of the entry read
pointer, RECORD READ of the index and half of the record read pointer. -/
def Obligations.MatchedHeaderDispatch : Prop :=
  (∀ (delimiter header : Wave) (h0 h1 : Byte) (r : Receiver) (since : Nat) (k : ManagementChannel) (s : State),
     HearsHeader s (delimiter ++ header) h0 h1 r since → s.power = .running → s.trunk.port = .header →
       s.lookup (headerChannel h0 h1) (headerLength h1) = .management k →
         exec (.trunkValidHeader delimiter header) s =
           .next
             { routedHeader s with
               trunk :=
                 { s.trunk with port := managementPort k h0 h1 (routedHeader s), receiver := r, sinceH1 := since } }) ∧
  (∀ (delimiter header : Wave) (h0 h1 : Byte) (r : Receiver) (since : Nat) (i : EntryIndex) (e : Entry) (m b : Channel)
      (s : State),
     HearsHeader s (delimiter ++ header) h0 h1 r since → s.power = .running → s.trunk.port = .header →
       s.lookup (headerChannel h0 h1) (headerLength h1) = .entry i e m b →
         (e.kind = .blocked →
           exec (.trunkValidHeader delimiter header) s =
             .next { routedHeader s with trunk := { s.trunk with port := .passive, receiver := r, sinceH1 := since } }) ∧
         (e.kind = .downlink →
           exec (.trunkValidHeader delimiter header) s =
             .next
               { routedHeader s with
                 trunk := { s.trunk with port := .capture (.downlink i e) h0 h1, receiver := r, sinceH1 := since } }) ∧
         (e.kind = .localData →
           exec (.trunkValidHeader delimiter header) s =
             .next
               { routedHeader s with
                 trunk :=
                   { s.trunk with port := recordPort i e.missPolicy h0 h1 s, receiver := r, sinceH1 := since } }) ∧
         (e.kind = .cached →
           exec (.trunkValidHeader delimiter header) s =
             .next (demandChecked i e
               { routedHeader s with
                 trunk :=
                   { s.trunk with port := recordPort i e.missPolicy h0 h1 s, receiver := r, sinceH1 := since } }))) ∧
  ∀ s : State,
    s.agent.result.bytes =
        [s.agent.result.tag, s.agent.result.code,
          match s.agent.result.outcome with
          | .none => 0#8 | .done => 1#8 | .pending => 2#8 | .busy => 3#8 | .badCommand => 4#8 | .badOperand => 5#8
          | .badState => 6#8 | .badTable => 7#8 | .notFound => 8#8 | .inFlight => 9#8 | .keyAccepted => 10#8
          | .keyRestart => 11#8 | .linkFailed => 12#8 | .aborted => 13#8 | .storeFailed => 14#8,
          s.agent.result.refusals, s.agent.result.lastRefused] ++
          (List.range 11).map (fun k => s.agent.result.data.getD k 0x00#8) ∧
      s.statusBytes =
        [s.agent.flags.extractLsb' 0 8, s.agent.flags.extractLsb' 8 8,
          (if s.link.mode = .loopback then 0x80#8 else 0x00#8) +
            (match s.link.state with
            | .idle => 0#8 | .header _ => 1#8 | .replyWait _ => 2#8 | .dataOut _ => 3#8 | .gap _ => 4#8
            | .quarantine => 5#8 | .asleep => 6#8 | .wakeOut _ _ _ => 7#8 | .wakeSettle => 8#8),
          BitVec.ofNat 8 s.sched.queue.length, BitVec.ofNat 8 s.sched.deferred.length, s.link.score,
          (if s.route.commitPending = true then 0x02#8 else 0x00#8) +
            (match s.route.activeBank with | .a => 0#8 | .b => 1#8),
          (match s.agent.keyState with | .none => 0x00#8 | .key1 => 0x10#8 | .key2 => 0x20#8) +
            (match s.config.store with | .valid => 0#8 | .invalid => 1#8 | .saving _ _ => 2#8 | .loading => 3#8)] ∧
      (s.agent.counters.bytes =
        [Counter.headers, .routed, .headerErrors, .served, .relayedOk, .relayRefused, .branchOk, .branchFailed].flatMap
          fun k => [(s.agent.counters.get k).extractLsb' 0 8, (s.agent.counters.get k).extractLsb' 8 8]) ∧
      s.identBytes =
        [0xB5#8, 0x64#8, 0x02#8, 0x01#8, BitVec.ofNat 8 s.agent.unit.toNat,
          match s.config.cause with | .powerOn => 0#8 | .pin => 1#8 | .restart => 2#8,
          match s.config.store with | .valid => 0#8 | .invalid => 1#8 | .saving _ _ => 2#8 | .loading => 3#8,
          BitVec.ofNat 8 s.trunk.rate.toNat] ∧
      (∀ (b : Bank) (id : Byte) (e : Entry) (mask : Channel),
        (s.route.readBank = .active ∧ b = s.route.activeContents ∧
              id = (match s.route.activeBank with | .a => 0#8 | .b => 1#8) ∨
            s.route.readBank = .edit ∧ b = s.route.editContents ∧
              id = (match s.route.activeBank with | .a => 1#8 | .b => 0#8)) →
          e = b.entry s.route.readIndex → mask = b.maskFor s.route.readIndex →
            s.route.entryReadBytes =
              [BitVec.ofNat 8 s.route.readIndex.val, id,
                (if e.valid = true then 0x80#8 else 0x00#8) + (if e.masked = true then 0x40#8 else 0x00#8) +
                  (match e.kind with
                  | .localData => 0x00#8 | .cached => 0x08#8 | .relayed => 0x10#8 | .downlink => 0x18#8
                  | .blocked => 0x20#8) +
                  BitVec.ofNat 8 e.length.toNat,
                BitVec.ofNat 8 (e.channel.toNat % 256), BitVec.ofNat 8 (e.channel.toNat / 256),
                BitVec.ofNat 8 (e.branchChannel.toNat % 256), BitVec.ofNat 8 (e.branchChannel.toNat / 256), e.refresh,
                e.staleLimit.extractLsb' 0 8, e.staleLimit.extractLsb' 8 8,
                (if e.demand = true then 0x80#8 else 0x00#8) + (if e.storePolicy = .hold then 0x40#8 else 0x00#8) +
                  (if e.missPolicy = .repeat then 0x20#8 else 0x00#8) + (if e.fallback = true then 0x10#8 else 0x00#8) +
                  BitVec.ofNat 8 e.priority.toNat,
                BitVec.ofNat 8 e.silentLimit.toNat, BitVec.ofNat 8 (mask.toNat % 256),
                BitVec.ofNat 8 (mask.toNat / 256), s.route.commitCount.extractLsb' 0 8,
                s.route.commitCount.extractLsb' 8 8]) ∧
      ∀ r : Record, r = s.record s.store.readIndex →
        s.store.recordReadBytes =
          [BitVec.ofNat 8 s.store.readIndex.val,
            (match r.state with | .empty => 0#8 | .fresh => 1#8 | .stale => 2#8) +
              (match r.source with | .branch => 0x00#8 | .trunk => 0x04#8 | .management => 0x08#8) +
              (if r.pending = true then 0x10#8 else 0x00#8),
            BitVec.ofNat 8 r.data.length, r.age.extractLsb' 0 8, r.age.extractLsb' 8 8, r.served,
            (if r.silent = true then 0x80#8 else 0x00#8) + BitVec.ofNat 8 r.fails.toNat, r.version] ++
            (List.range 8).map fun k => r.data.getD (if s.store.readHalf = true then k + 8 else k) 0x00#8

/-- TRUNK_VALID_HEADER that matches a RELAYED entry, on a line in which the trunk receiver hears that header (log 24).
Rate codes equal and the link IDLE: the relay is admitted, with its context, its descriptor, and the port in FORWARD.
Otherwise it is refused: the counter and the flag RELAY_REFUSED, RATE_MISMATCH for unequal rates, the fallback serve or
silence, and the demand check for an unmasked entry. -/
def Obligations.RelayAdmittedOrRefused : Prop :=
  (∀ (delimiter header : Wave) (h0 h1 : Byte) (r : Receiver) (since : Nat) (i : EntryIndex) (e : Entry) (m b : Channel)
      (s : State),
     HearsHeader s (delimiter ++ header) h0 h1 r since → s.power = .running → s.trunk.port = .header →
       s.lookup (headerChannel h0 h1) (headerLength h1) = .entry i e m b → e.kind = .relayed →
         s.link.line.rate = s.trunk.rate → s.link.state = .idle →
           exec (.trunkValidHeader delimiter header) s =
             .next
               { routedHeader s with
                 trunk := { s.trunk with port := .forward none [] false, receiver := r, sinceH1 := since }
                 link :=
                   { s.link with
                     state :=
                       .header
                         { op := .relay i, branchChannel := b, length := e.length, rate := s.link.line.rate,
                           breakLength := s.link.line.breakLength }
                     relay :=
                       some
                         { index := i, entry := e, trunkH0 := h0, trunkH1 := h1, branchH0 := headerH0 b,
                           branchH1 := headerH1 b e.length, branchCheck := crc8 [headerH0 b, headerH1 b e.length],
                           received := [], trunkSide := .stillOpen (crc8 [h0, h1]) [], branchSide := .stillOpen } } }) ∧
  (∀ (delimiter header : Wave) (h0 h1 : Byte) (r : Receiver) (since : Nat) (i : EntryIndex) (e : Entry) (m b : Channel)
      (s t : State),
     HearsHeader s (delimiter ++ header) h0 h1 r since → s.power = .running → s.trunk.port = .header →
       s.lookup (headerChannel h0 h1) (headerLength h1) = .entry i e m b → e.kind = .relayed →
         (s.link.line.rate ≠ s.trunk.rate ∨ s.link.state ≠ .idle) →
           t =
             { s with
               trunk :=
                 { s.trunk with
                   port :=
                     if e.masked = false ∧ e.fallback = true then recordPort i e.missPolicy h0 h1 s else .passive
                   receiver := r, sinceH1 := since }
               agent :=
                 { s.agent with
                   flags :=
                     if s.link.line.rate ≠ s.trunk.rate then s.agent.flags ||| 0x2010#16 else s.agent.flags ||| 0x0010#16
                   counters :=
                     { s.agent.counters with
                       headers := satSucc s.agent.counters.headers
                       routed := satSucc s.agent.counters.routed
                       relayRefused := satSucc s.agent.counters.relayRefused } } } →
             exec (.trunkValidHeader delimiter header) s = .next (if e.masked = true then t else demandChecked i e t))

/-- A lookup: the relay's own block first, with its fixed lengths, the eight channels by their offset; then the first
matching entry of the active bank, by its LENGTH; unrouted when none matches. -/
def Obligations.LookupFindsFirstMatch : Prop :=
  ∀ (c : Channel) (l : LengthCode) (s : State),
    (960 + 8 * s.agent.unit.toNat ≤ c.toNat ∧ c.toNat ≤ 967 + 8 * s.agent.unit.toNat →
      s.lookup c l =
        let k := managementChannel (c.toNat - (960 + 8 * s.agent.unit.toNat))
        if l = (if k = .status ∨ k = .ident then 2#2 else 3#2) then .management k else .ownMismatch) ∧
    (¬ (960 + 8 * s.agent.unit.toNat ≤ c.toNat ∧ c.toNat ≤ 967 + 8 * s.agent.unit.toNat) →
      (∀ i, s.route.activeContents.Matches i c → (∀ j < i, ¬ s.route.activeContents.Matches j c) →
        ((s.activeEntry i).length = l →
          s.lookup c l =
            .entry i (s.activeEntry i) (s.route.activeContents.maskFor i)
              (if (s.activeEntry i).masked = true then
                ((s.activeEntry i).branchChannel &&& s.route.activeContents.maskFor i) |||
                  (c &&& ~~~ s.route.activeContents.maskFor i)
              else (s.activeEntry i).branchChannel)) ∧
        ((s.activeEntry i).length ≠ l → s.lookup c l = .entryMismatch i)) ∧
      ((∀ i, ¬ s.route.activeContents.Matches i c) → s.lookup c l = .unrouted)) ∧
    (List.range 8).map managementChannel =
      [.command, .result, .status, .counters, .entryRead, .recordRead, .streamWrite, .ident]

/-- In a bank that passes validation, no channel that matches a RELAYED entry translates to branch channel 1023, the
sleep channel. -/
def Obligations.ValidatedBankNeverReachesSleepChannel : Prop :=
  ∀ (bank : Bank) (unit : BitVec 3) (i : EntryIndex) (c : Channel), bank.validate unit = none → bank.Matches i c →
    (bank.entry i).kind = .relayed → (bank.entry i).relayChannel (bank.maskFor i) c ≠ 1023#10

/-- SERVE_COMPLETE and TRUNK_SERVE_BIT_ERROR in SERVE: what the supplier does at the end of its serve, which is complete
when every bit of its reply reads back as sent, and a collision at the first bit that reads back differently, by the
majority of its three samples (how a row brings that line is log 27). A record's SERVED counts only for the snapshot's
VERSION; the counter SERVED counts every completed record serve; the read pointers advance at a completion; a collision
sets TRUNK_COLLISION and advances nothing, and a break that the receiver hears abandons the serve (what it hears is the
model's choice, log 24). Where the break is complete with the very sample that differs, either may be taken first, and
the break behind a collision begins the next frame. -/
def Obligations.ServeEnds : Prop :=
  ∀ (source : ServeSource) (reply : List Byte) (sent : Transmission) (r : Receiver) (s p : State),
    s.power = .running → s.trunk.port = .serve source reply →
      p = { s with trunk := { s.trunk with port := .passive, receiver := r } } →
        (∀ events, ReadsBack (charactersLevels reply) sent →
          s.trunk.receiver.hearSent .trunk (charactersLevels reply) sent = (r, events) → RxEvent.lineBreak ∉ events →
            (∀ i v, source = .record i v →
              exec (.serveComplete sent) s =
                .next
                  { (if (s.record i).state ≠ .empty ∧ (s.record i).version = v then
                      p.setRecord i { s.record i with served := satSucc (s.record i).served } else p) with
                    agent :=
                      { s.agent with
                        counters := { s.agent.counters with served := satSucc s.agent.counters.served } } }) ∧
            (source = .entryRead →
              exec (.serveComplete sent) s =
                .next { p with route := { s.route with readIndex := s.route.readIndex + 1 } }) ∧
            (source = .recordRead →
              exec (.serveComplete sent) s =
                .next
                  { p with
                    store :=
                      if s.store.readHalf = true then
                        { s.store with readHalf := false, readIndex := s.store.readIndex + 1 }
                      else { s.store with readHalf := true } }) ∧
            (source = .result ∨ source = .status ∨ source = .counters ∨ source = .ident →
              exec (.serveComplete sent) s = .next p)) ∧
        (∀ k, Collides s reply sent k r →
          exec (.trunkServeBitError sent) s =
            .next { p with agent := { s.agent with flags := s.agent.flags ||| 0x0002#16 } }) ∧
        ∀ line, s.hearsBreak line = true →
          exec (.trunkBreak line) s =
            .next
              { s with
                trunk :=
                  { s.trunk with
                    port := .header, stamp := s.sched.tickCount, receiver := (s.hearTrunk line).1 } }

/-- The end of a reception in CAPTURE, by the characters that the trunk receiver hears on the line of the row (log 24).
The line counts as far as the reply window reaches, W(n) bit times from the end of H1. CAPTURE_FAILED, or the row of the
publication, COMMAND record or stream write itself (log 25), when the window ends behind n characters or fewer, when a
character is FRAMING or when the check byte is not that of the header and the data: PASSIVE, and nothing else; a check
byte complete at the very end of the window comes in time or too late, as the row says (R11 allows either). What follows
the end of the reception is not part of it. DOWNLINK_CAPTURE with a good check byte: discarded without a flag when a
commit changed the entry, discarded with CAPTURE_HELD under HOLD while PENDING, otherwise taken with PENDING yes and a
PUBLISH requested. An IDLE link takes the item in the same event (the model's reading, log 7). -/
def Obligations.DownlinkCaptureTaken : Prop :=
  ∀ (target : CaptureTarget) (h0 h1 : Byte) (data : List Byte) (more : List RxEvent) (line : Wave) (r : Receiver)
    (s p : State), s.power = .running → s.trunk.port = .capture target h0 h1 → RxEvent.lineBreak ∉ more →
      p = { s with trunk := { s.trunk with port := .passive, receiver := r } } →
        (data.length ≤ target.bytes ∧ s.hearCapture target.bytes line = (r, goodCharacters data) ∧
              WindowOver target.bytes s.trunk.sinceH1 line ∨
            (∃ v, data.length ≤ target.bytes ∧
              s.hearCapture target.bytes line = (r, goodCharacters data ++ .character (.framing v) :: more)) ∨
            (∃ check, data.length = target.bytes ∧ check ≠ checkByte h0 h1 data ∧
              s.hearCapture target.bytes line = (r, goodCharacters (data ++ [check]) ++ more)) →
          exec (.captureFailed ⟨line, false⟩) s = .next p ∧
          (∀ i copy, target = .downlink i copy → exec (.downlinkCapture line) s = .next p) ∧
          (target = .streamWrite → exec (.streamWrite line) s = .next p) ∧
          ∀ c code tag ops, target = .command → c.wellFormed = true →
            recordOfCommand c = some (code, tag, ⟨ops, line⟩) → exec c s = .next p) ∧
        (WindowOver target.bytes s.trunk.sinceH1 line → data.length ≤ target.bytes →
          (s.hearCapture target.bytes line).1 = r → RxEvent.lineBreak ∉ (s.hearCapture target.bytes line).2 →
            (s.trunk.receiver.hearLevels .trunk (withinWindow target.bytes s.trunk.sinceH1 line).dropLast).2 =
                goodCharacters data →
              exec (.captureFailed ⟨line, true⟩) s = .next p) ∧
        ∀ i copy, target = .downlink i copy → data.length = copy.bytes →
          s.hearCapture copy.bytes line = (r, goodCharacters (data ++ [checkByte h0 h1 data]) ++ more) →
            (¬ SameIdentity copy (s.activeEntry i) → exec (.downlinkCapture line) s = .next p) ∧
            (SameIdentity copy (s.activeEntry i) → (s.activeEntry i).storePolicy = .hold →
              (s.record i).pending = true →
                exec (.downlinkCapture line) s =
                  .next { p with agent := { s.agent with flags := s.agent.flags ||| 0x0004#16 } }) ∧
            (SameIdentity copy (s.activeEntry i) →
              ¬ ((s.activeEntry i).storePolicy = .hold ∧ (s.record i).pending = true) →
                exec (.downlinkCapture line) s =
                  .next
                    ((p.setRecord i
                      { capturedRecord data .trunk s.sched.tickCount (s.record i) with pending := true }).request i
                      .publish .downlink).takeOffered)

/-- STREAM_WRITE, its 16 bytes and a good check byte heard on the line of the row (log 24): accepted into the edit bank
at the write index, which goes up by one, or refused with WRITE_REFUSED; a publication received with an error writes
nothing. -/
def Obligations.StreamWriteJudged : Prop :=
  ∀ (data : Vector Byte 16) (h0 h1 : Byte) (line : Wave) (r : Receiver) (s p : State), s.power = .running →
    s.trunk.port = .capture .streamWrite h0 h1 →
      p = { s with trunk := { s.trunk with port := .passive, receiver := r } } →
        (s.hearCapture 16 line = (r, goodCharacters (data.toList ++ [checkByte h0 h1 data.toList])) →
          (∀ (i : EntryIndex) (e : Entry), s.route.writeIndex.val = i.val → data[10].toNat = i.val →
            decodeEntry (data.toList.take 10) = some e → ¬ EditHeld s →
              exec (.streamWrite line) s =
                .next
                  { p with
                    route :=
                      { s.route.setEdit
                          { s.route.editContents with entries := s.route.editContents.entries.set i.val e i.isLt } with
                        writeIndex := i.succ } }) ∧
          (s.route.writeIndex.val = 64 ∨ data[10].toNat ≠ s.route.writeIndex.val ∨
              decodeEntry (data.toList.take 10) = none ∨ EditHeld s →
            exec (.streamWrite line) s =
              .next { p with agent := { s.agent with flags := s.agent.flags ||| 0x4000#16 } })) ∧
        ∀ (windowFirst : Bool) (o : BranchOutcome), s.captureVerdict h0 h1 16 windowFirst line = some o →
          o ≠ .success → r = (s.hearCapture 16 line).1 → exec (.captureFailed ⟨line, windowFirst⟩) s = .next p

/-! ## COMMAND records (chapter 9) -/

/-- A COMMAND record taken while the slot is held, RESET_BRANCH excepted as R152 excepts it: the refusal count and the
last refused tag, the test key state NONE, the port PASSIVE, and nothing else. -/
def Obligations.RecordRefusedWhileSlotHeld : Prop :=
  ∀ (c : Instr) (code tag : Byte) (ops : Operands) (line : Wave) (u s : State), c.wellFormed = true →
    recordOfCommand c = some (code, tag, ⟨ops, line⟩) → HearsRecord u code tag ops line s → RefusesRecord s code →
      exec c u =
        .next
          { s with
            trunk := { s.trunk with port := .passive }
            agent :=
              { s.agent with
                keyState := .none
                result :=
                  { s.agent.result with refusals := satSucc s.agent.result.refusals, lastRefused := tag } } }

/-- UNKNOWN_COMMAND, NOP, CLEAR_FLAGS and CLEAR_COUNTERS, executed. -/
def Obligations.AgentCommandsExecute : Prop :=
  ∀ (code tag : Byte) (ops : Operands) (s : State), AcceptsRecord s →
    (isCommandCode code = false →
      RecordAnswers code tag ops (.unknownCommand code tag) s (executed code tag .badCommand [] s)) ∧
    RecordAnswers 0x01#8 tag ops (.nop tag) s
      (executed 0x01#8 tag .done [s.trunk.stamp.extractLsb' 0 8, s.trunk.stamp.extractLsb' 8 8] s) ∧
    RecordAnswers 0x02#8 tag ops (.clearFlags tag) s
      (executed 0x02#8 tag .done [s.agent.flags.extractLsb' 0 8, s.agent.flags.extractLsb' 8 8]
        { s with agent := { s.agent with flags := s.agent.flags &&& ~~~ (ops[1] ++ ops[0] : Word16) } }) ∧
    RecordAnswers 0x03#8 tag ops (.clearCounters tag) s
      (executed 0x03#8 tag .done []
        { s with
          agent :=
            { s.agent with
              counters :=
                { headers := 0#16, routed := 0#16, headerErrors := 0#16, served := 0#16, relayedOk := 0#16,
                  relayRefused := 0#16, branchOk := 0#16, branchFailed := 0#16 } } })

/-- Every counter goes up by one and saturates at 65535, and no other counter moves with it. -/
def Obligations.CountersSaturate : Prop :=
  ∀ (c : Counters) (k : Counter),
    ((c.raise k).get k).toNat = min 65535 ((c.get k).toNat + 1) ∧ ∀ j, j ≠ k → (c.raise k).get j = c.get j

/-- SET_POINTERS: with every operand in range all five pointers take the values given, and nothing else changes; with
any operand out of range BAD_OPERAND, and all five keep their values. -/
def Obligations.SetPointersSetsAllFive : Prop :=
  ∀ (tag : Byte) (ops : Operands) (s : State), AcceptsRecord s →
    (∀ (bank : Role) (i : EntryIndex) (w : Fin 65) (r : EntryIndex) (half : Bool),
      ops[0] = (match bank with | .active => 0#8 | .edit => 1#8) → ops[1].toNat = i.val → ops[2].toNat = w.val →
        ops[3].toNat = r.val → ops[4] = (if half then 1#8 else 0#8) →
          RecordAnswers 0x10#8 tag ops (.setPointers tag) s
            (executed 0x10#8 tag .done []
              { s with
                route := { s.route with readBank := bank, readIndex := i, writeIndex := w }
                store := { s.store with readIndex := r, readHalf := half } })) ∧
    (1 < ops[0].toNat ∨ 63 < ops[1].toNat ∨ 64 < ops[2].toNat ∨ 63 < ops[3].toNat ∨ 1 < ops[4].toNat →
      RecordAnswers 0x10#8 tag ops (.setPointers tag) s (executed 0x10#8 tag .badOperand [] s))

/-! ## Route table commands (chapter 2) -/

/-- WRITE_ENTRY, WRITE_MASK, COPY_ACTIVE and CLEAR_EDIT: with good operands the edit bank alone changes, as each says,
with DONE; while the edit bank is held, BUSY and no change; with bad operands BAD_OPERAND and no change, held or not. -/
def Obligations.EditCommandsChangeEditBank : Prop :=
  ∀ (tag : Byte) (ops : Operands) (i : EntryIndex) (e : Entry) (g : GroupIndex) (m : Channel) (s : State),
    AcceptsRecord s →
      (ops[0].toNat = i.val → decodeEntry ((ops.toList.drop 1).take 10) = some e →
        (¬ EditHeld s →
          RecordAnswers 0x11#8 tag ops (.writeEntry tag) s
            (executed 0x11#8 tag .done []
              { s with
                route :=
                  s.route.setEdit
                    { s.route.editContents with
                      entries := s.route.editContents.entries.set i.val e i.isLt } })) ∧
        (EditHeld s →
           RecordAnswers 0x11#8 tag ops (.writeEntry tag) s (executed 0x11#8 tag .busy [] s))) ∧
      (ops[0].toNat = g.val → (ops[2] ++ ops[1] : Word16).toNat = m.toNat →
        (¬ EditHeld s →
          RecordAnswers 0x12#8 tag ops (.writeMask tag) s
            (executed 0x12#8 tag .done []
              { s with
                route :=
                  s.route.setEdit
                    { s.route.editContents with masks := s.route.editContents.masks.set g.val m g.isLt } })) ∧
        (EditHeld s →
           RecordAnswers 0x12#8 tag ops (.writeMask tag) s (executed 0x12#8 tag .busy [] s))) ∧
      (¬ EditHeld s →
        RecordAnswers 0x13#8 tag ops (.copyActive tag) s
          (executed 0x13#8 tag .done [] { s with route := s.route.setEdit s.route.activeContents }) ∧
          ∃ bank, bank.IsCleared ∧
            RecordAnswers 0x14#8 tag ops (.clearEdit tag) s
              (executed 0x14#8 tag .done [] { s with route := s.route.setEdit bank })) ∧
      (EditHeld s →
        RecordAnswers 0x13#8 tag ops (.copyActive tag) s (executed 0x13#8 tag .busy [] s) ∧
          RecordAnswers 0x14#8 tag ops (.clearEdit tag) s (executed 0x14#8 tag .busy [] s)) ∧
      (63 < ops[0].toNat ∨ decodeEntry ((ops.toList.drop 1).take 10) = none →
        RecordAnswers 0x11#8 tag ops (.writeEntry tag) s (executed 0x11#8 tag .badOperand [] s)) ∧
      (15 < ops[0].toNat ∨ 1023 < (ops[2] ++ ops[1] : Word16).toNat →
        RecordAnswers 0x12#8 tag ops (.writeMask tag) s (executed 0x12#8 tag .badOperand [] s))

/-- Validation reports the first valid entry that offends, with the lowest of its reasons; none when no valid entry
offends. -/
def Obligations.ValidationFindsFirstOffence : Prop :=
  ∀ (b : Bank) (unit : BitVec 3),
    (∀ i r, b.validate unit = some (i, r) →
      (b.entry i).valid = true ∧ b.Offends unit i r.toNat ∧ (∀ q < r.toNat, ¬ b.Offends unit i q) ∧
        ∀ j < i, (b.entry j).valid = true → ∀ q, ¬ b.Offends unit j q) ∧
    (b.validate unit = none → ∀ j, (b.entry j).valid = true → ∀ q, ¬ b.Offends unit j q)

/-- COMMIT: BAD_TABLE with the offence, BUSY during a save or load, PENDING behind a branch transaction, or applied at
once with DONE, the newly active bank and the new commit count. -/
def Obligations.CommitDecides : Prop :=
  ∀ (tag : Byte) (ops : Operands) (s : State), AcceptsRecord s →
    (∀ i r, s.route.editContents.validate s.agent.unit = some (i, r) →
      RecordAnswers 0x15#8 tag ops (.commit tag) s (executed 0x15#8 tag .badTable [BitVec.ofNat 8 i.val, r] s)) ∧
    (s.route.editContents.validate s.agent.unit = none →
      (s.config.store.isSaving = true ∨ s.config.store = .loading →
        RecordAnswers 0x15#8 tag ops (.commit tag) s (executed 0x15#8 tag .busy [] s)) ∧
      (¬ (s.config.store.isSaving = true ∨ s.config.store = .loading) →
        (s.link.state.inTransaction = true →
          RecordAnswers 0x15#8 tag ops (.commit tag) s
            { executedPending 0x15#8 tag s with route := { s.route with commitPending := true } }) ∧
        (s.link.state.inTransaction = false →
          RecordAnswers 0x15#8 tag ops (.commit tag) s
            (executed 0x15#8 tag .done
              [match s.route.activeBank with | .a => 1#8 | .b => 0#8,
                (s.route.commitCount + 1#16).extractLsb' 0 8, (s.route.commitCount + 1#16).extractLsb' 8 8]
              s.applyCommit))))

/-- Applying a commit: roles exchanged, count one more, pending indication clear; records whose identity fields differ
emptied and the others kept; countdowns loaded where R88 says; work purged where R100 says and the rest kept in order;
then the refill: as many of the deferred elements left as the queue has room for, lowest index first, behind the rest,
with the PRIORITY of the new active entry as CLASS and SEQ from the counter; nothing else. -/
def Obligations.CommitApplied : Prop :=
  ∀ (s t : State) (old new : EntryIndex → Entry) (keptItems : List QueueItem) (keptElements : List DeferredElement),
    t = s.applyCommit → (old = fun i => s.route.activeContents.entry i) →
    (new = fun i => s.route.editContents.entry i) →
    (keptItems = s.sched.queue.filter fun it =>
      decide (SameIdentity (old it.entry) (new it.entry)) && it.op.fits (new it.entry)) →
    (keptElements = s.sched.deferred.filter fun d =>
      decide (SameIdentity (old d.entry) (new d.entry)) && d.op.fits (new d.entry)) →
      t.route =
          { s.route with
            activeBank := match s.route.activeBank with | .a => .b | .b => .a
            commitCount := s.route.commitCount + 1#16
            commitPending := false } ∧
        (∀ i, t.record i = if SameIdentity (old i) (new i) then s.record i else emptyRecordOf (s.record i)) ∧
        { t.store with records := s.store.records } = s.store ∧
        (∀ i, t.countdown i =
          if (new i).valid = true ∧ ((old i).valid = false ∨ (old i).refresh ≠ (new i).refresh) then (new i).refresh
          else s.countdown i) ∧
        { t.sched with countdowns := s.sched.countdowns } =
          { s.sched with
            queue :=
              keptItems ++
                (keptElements.take (16 - keptItems.length)).mapIdx fun k d =>
                  { entry := d.entry, op := d.op, origin := d.origin, cls := (new d.entry).priority,
                    seq := s.sched.seqCounter + BitVec.ofNat 16 k }
            deferred := keptElements.drop (16 - keptItems.length)
            seqCounter :=
              s.sched.seqCounter + BitVec.ofNat 16 (keptElements.take (16 - keptItems.length)).length } ∧
        t.power = s.power ∧ t.link = s.link ∧ t.trunk = s.trunk ∧ t.agent = s.agent ∧ t.config = s.config ∧
        t.pending = s.pending

/-! ## Record store (chapter 4) -/

/-- WRITE_RECORD: BAD_OPERAND for an index or part out of range. With both in range: BAD_STATE for an entry that keeps
no record, for a part that does not fit its LENGTH, for a part 2 without its first half; part 1 stages; parts 0 and 2
capture with SOURCE MANAGEMENT, and on a DOWNLINK entry set PENDING and request a PUBLISH. Every part 2 empties the
staging buffer. An IDLE link takes the item of that request in the same event (the model's reading, log 7). -/
def Obligations.WriteRecordCaptures : Prop :=
  (∀ (tag : Byte) (ops : Operands) (i : EntryIndex) (e : Entry) (s p : State), AcceptsRecord s → ops[0].toNat = i.val →
     e = s.activeEntry i →
     p = (if ops[1] = 2#8 then { s with store := { s.store with staging := none } } else s) →
       let badState := RecordAnswers 0x20#8 tag ops (.writeRecord tag) s (executed 0x20#8 tag .badState [] p)
       let captures := fun data : List Byte =>
         RecordAnswers 0x20#8 tag ops (.writeRecord tag) s
           (executed 0x20#8 tag .done
             [BitVec.ofNat 8 i.val, (s.record i).version + 1#8, s.sched.tickCount.extractLsb' 0 8,
               s.sched.tickCount.extractLsb' 8 8]
             (if e.kind = .downlink then
               ((p.setRecord i
                 { capturedRecord data .management s.sched.tickCount (s.record i) with pending := true }).request i
                 .publish .manual).takeOffered
             else p.setRecord i (capturedRecord data .management s.sched.tickCount (s.record i))))
       (ops[1].toNat ≤ 2 → e.keepsRecord = false → badState) ∧
       (e.keepsRecord = true →
         (ops[1] = 0#8 → e.length = 3#2 → badState) ∧
         (ops[1] = 1#8 ∨ ops[1] = 2#8 → e.length ≠ 3#2 → badState) ∧
         (ops[1] = 2#8 → e.length = 3#2 → (∀ bytes, s.store.staging ≠ some { index := i, bytes := bytes }) → badState) ∧
         (ops[1] = 1#8 → e.length = 3#2 →
           RecordAnswers 0x20#8 tag ops (.writeRecord tag) s
             (executed 0x20#8 tag .done [BitVec.ofNat 8 i.val]
               { s with
                 store :=
                   { s.store with
                     staging := some { index := i, bytes := (ops.toList.drop 2).take 8 } } })) ∧
         (ops[1] = 0#8 → e.length ≠ 3#2 → captures ((ops.toList.drop 2).take e.bytes)) ∧
         (∀ first, ops[1] = 2#8 → e.length = 3#2 → s.store.staging = some { index := i, bytes := first } →
           captures (first ++ (ops.toList.drop 2).take 8)))) ∧
  ∀ (tag : Byte) (ops : Operands) (s : State), AcceptsRecord s → 63 < ops[0].toNat ∨ 2 < ops[1].toNat →
    RecordAnswers 0x20#8 tag ops (.writeRecord tag) s
      (executed 0x20#8 tag .badOperand []
        (if ops[1] = 2#8 then { s with store := { s.store with staging := none } } else s))

/-- FLUSH_RECORD of one index or of all: the records made EMPTY, their queue items and deferred elements removed with
the refill, DONE without result data; any other operand BAD_OPERAND. -/
def Obligations.FlushEmptiesRecords : Prop :=
  ∀ (tag : Byte) (ops : Operands) (s : State), AcceptsRecord s →
    (∀ i : EntryIndex, ops[0].toNat = i.val →
      RecordAnswers 0x21#8 tag ops (.flushRecord tag) s
        (executed 0x21#8 tag .done []
          ((s.setRecord i (emptyRecordOf (s.record i))).removeWork fun j => j == i))) ∧
    (ops[0] = 0xFF#8 →
      RecordAnswers 0x21#8 tag ops (.flushRecord tag) s
        (executed 0x21#8 tag .done []
          ((s.mapRecords fun _ r => emptyRecordOf r).removeWork fun _ => true))) ∧
    (63 < ops[0].toNat ∧ ops[0].toNat < 255 →
      RecordAnswers 0x21#8 tag ops (.flushRecord tag) s (executed 0x21#8 tag .badOperand [] s))

/-! ## Poll scheduler (chapter 5) -/

/-- TICK: the tick count and the period; the controller's hold or settle countdown, with what follows when it reaches 0;
every record aged; every running refresh countdown down by one, or loaded again when due; then, except in ASLEEP and
QUARANTINE, a PERIODIC REFRESH request for every countdown that was due, in ascending index order, and the offer;
nothing else. A request is judged as RequestJudgedInOrder states, the offer taken as IdleLinkTakesDueItem states. The
model's own choices: the offer comes once, at the end of the tick (log 6), and a running countdown of 0 is due (log 17).
-/
def Obligations.TickDoesItsParts : Prop :=
  ∀ (s p : State) (due : List EntryIndex), s.power = .running →
    (due = (List.finRange 64).filter fun i =>
      (s.activeEntry i).valid && decide ((s.activeEntry i).refresh ≠ 0#8) && decide ((s.countdown i).toNat ≤ 1)) →
    p =
      { s with
        sched :=
          { s.sched with
            tickCount := s.sched.tickCount + 1#16
            runningPeriod := s.sched.tickPeriod
            countdowns :=
              Vector.ofFn fun i =>
                if (s.activeEntry i).valid = true ∧ (s.activeEntry i).refresh ≠ 0#8 then
                  if (s.countdown i).toNat ≤ 1 then (s.activeEntry i).refresh else s.countdown i - 1#8
                else s.countdown i }
        store :=
          { s.store with
            records :=
              Vector.ofFn fun i =>
                if (s.record i).state = .empty then s.record i
                else
                  { s.record i with
                    age := satSucc (s.record i).age
                    state :=
                      if (s.record i).state = .fresh ∧ (s.activeEntry i).staleLimit ≠ 0#16 ∧
                          (s.activeEntry i).staleLimit ≤ satSucc (s.record i).age then .stale
                      else (s.record i).state } }
        link :=
          if s.link.state = .quarantine ∧ s.link.line.policy = .auto ∧ s.link.sampling = false then
            if s.link.hold.toNat ≤ 1 then { s.link with hold := 0#8, sampling := true }
            else { s.link with hold := s.link.hold - 1#8 }
          else if s.link.state = .wakeSettle then
            if s.link.settle.toNat ≤ 1 then { s.link with settle := 0#8, state := .idle }
            else { s.link with settle := s.link.settle - 1#8 }
          else s.link
        agent :=
          if s.link.state = .wakeSettle ∧ s.link.settle.toNat ≤ 1 ∧ s.slotHeldBy 0x51#8 = true then
            { s.agent with slot := none, result := { s.agent.result with outcome := .done, data := [] } }
          else s.agent } →
      exec .tick s =
        .next
          (if s.link.state = .asleep ∨ s.link.state = .quarantine then p
          else (due.foldl (fun t i => t.request i .refresh .periodic) p).takeOffered)

/-- The expiries of a tick taken alone, each when its countdown is due (the model's rows, log 5; a running countdown of
0 counts as due, log 17). A refresh countdown reloads and makes a PERIODIC REFRESH unless the link is ASLEEP or in
QUARANTINE. A settle countdown reaches IDLE, completes a pending WAKE_BRANCH with DONE, and the offer resumes, its item
taken in the same event (log 7). A hold countdown begins the sampling. -/
def Obligations.ExpiriesTakenAlone : Prop :=
  (∀ (i : EntryIndex) (s p : State), s.power = .running → (s.activeEntry i).valid = true →
     (s.activeEntry i).refresh ≠ 0#8 → (s.countdown i).toNat ≤ 1 →
       p = s.setCountdown i (s.activeEntry i).refresh →
         exec (.refreshCountdownExpiry i) s =
           .next
             (if s.link.state = .asleep ∨ s.link.state = .quarantine then p
             else (p.request i .refresh .periodic).takeOffered)) ∧
  (∀ (s p : State), s.power = .running → s.link.state = .wakeSettle → s.link.settle.toNat ≤ 1 →
     p = { s with link := { s.link with state := .idle, settle := 0#8 } } →
       (∀ tag, s.agent.slot = some { code := 0x51#8, tag := tag } →
         exec .settleExpiry s = .next (completed .done [] p).takeOffered) ∧
       (s.slotHeldBy 0x51#8 = false → exec .settleExpiry s = .next p.takeOffered)) ∧
  (∀ s : State, s.power = .running → s.link.state = .quarantine → s.link.line.policy = .auto →
    s.link.sampling = false → s.link.hold.toNat ≤ 1 →
      exec .quarantineHoldExpiry s = .next { s with link := { s.link with hold := 0#8, sampling := true } })

/-- A request is judged by the first of the five steps that applies. -/
def Obligations.RequestJudgedInOrder : Prop :=
  ∀ (e : EntryIndex) (op : QueueOp) (origin : Origin) (s : State),
    (s.link.state = .quarantine ∧ origin ≠ .periodic →
      s.request e op origin = { s with agent := { s.agent with flags := s.agent.flags ||| 0x0040#16 } }) ∧
    (¬ (s.link.state = .quarantine ∧ origin ≠ .periodic) →
      ((∃ it ∈ s.sched.queue, it.entry = e) →
        s.request e op origin =
          { s with
            sched :=
              { s.sched with
                queue :=
                  s.sched.queue.map fun it =>
                    if it.entry = e then
                      { it with cls := if it.cls ≤ (s.activeEntry e).priority then (s.activeEntry e).priority else it.cls }
                    else it } }) ∧
      ((∀ it ∈ s.sched.queue, it.entry ≠ e) →
        ((∃ d ∈ s.sched.deferred, d.entry = e) → s.request e op origin = s) ∧
        ((∀ d ∈ s.sched.deferred, d.entry ≠ e) →
          (s.sched.queue.length < 16 →
            s.request e op origin =
              { s with
                sched :=
                  { s.sched with
                    queue :=
                      s.sched.queue ++
                        [{ entry := e, op := op, origin := origin, cls := (s.activeEntry e).priority,
                            seq := s.sched.seqCounter }]
                    seqCounter := s.sched.seqCounter + 1#16 } }) ∧
          (16 ≤ s.sched.queue.length →
            ∃ before after, s.sched.deferred = before ++ after ∧
              s.request e op origin =
                { s with
                  sched :=
                    { s.sched with deferred := before ++ { entry := e, op := op, origin := origin } :: after }
                  agent := { s.agent with flags := s.agent.flags ||| 0x0020#16 } }))))

/-- The offer: an item of the highest class in the queue, the first of that class in the list under ARRIVAL, one of
lowest entry index under INDEX, some item whenever the queue is not empty. An IDLE link takes the offered item: it
leaves the queue with the refill, the descriptor is the item's and its active entry's, with the record's snapshot for a
PUBLISH, and HEADER is entered. In every other state, and with an empty queue, nothing is taken. -/
def Obligations.IdleLinkTakesDueItem : Prop :=
  (∀ q : Scheduler, (q.queue ≠ [] → q.offer ≠ none) ∧
     ∀ it, q.offer = some it →
       it ∈ q.queue ∧ (∀ x ∈ q.queue, x.cls ≤ it.cls) ∧
         (q.order = .arrival → ∃ before after, q.queue = before ++ it :: after ∧ ∀ x ∈ before, x.cls ≠ it.cls) ∧
         (q.order = .index → ∀ x ∈ q.queue, x.cls = it.cls → it.entry ≤ x.entry)) ∧
  (∀ s : State,
     (s.link.state ≠ .idle → s.takeOffered = s) ∧ (s.sched.queue = [] → s.takeOffered = s) ∧
     ∀ it, s.link.state = .idle → s.sched.Wf → s.sched.offer = some it →
       s.takeOffered =
         { s.removeWork (fun j => j == it.entry) with
           link :=
             { s.link with
               state :=
                 .header
                   { op :=
                       match it.op with
                       | .refresh => .refresh it.entry it.origin
                       | .publish =>
                         .publish it.entry it.origin (s.record it.entry).version (s.record it.entry).data
                     branchChannel := (s.activeEntry it.entry).branchChannel
                     length := (s.activeEntry it.entry).length
                     rate := s.link.line.rate
                     breakLength := s.link.line.breakLength } } })

/-- Work removed from the queue and the deferred set: in a queue that is well formed, removing one queued entry moves
the deferred element of lowest index into the queue behind the rest, as a new item with its active entry's PRIORITY;
removing a deferred element moves none. -/
def Obligations.DepartureRefillsQueue : Prop :=
  ∀ (e : EntryIndex) (s : State), s.sched.Wf →
    (∀ it ∈ s.sched.queue, it.entry = e →
      ∀ q, q = s.sched.queue.filter (fun x => x.entry != e) →
        (s.sched.deferred = [] → s.removeWork (fun j => j == e) = { s with sched := { s.sched with queue := q } }) ∧
        ∀ d rest, s.sched.deferred = d :: rest →
          s.removeWork (fun j => j == e) =
            { s with
              sched :=
                { s.sched with
                  queue :=
                    q ++
                      [{ entry := d.entry, op := d.op, origin := d.origin, cls := (s.activeEntry d.entry).priority,
                          seq := s.sched.seqCounter }]
                  deferred := rest
                  seqCounter := s.sched.seqCounter + 1#16 } }) ∧
    ((∀ it ∈ s.sched.queue, it.entry ≠ e) →
      s.removeWork (fun j => j == e) =
        { s with sched := { s.sched with deferred := s.sched.deferred.filter fun d => d.entry != e } })

/-- The re-offer from an empty queue outside QUARANTINE: the valid DOWNLINK entries whose records have PENDING yes, in
index order, the first 16 as items with origin RETRY, their entry's PRIORITY and the next sequence numbers, the rest
deferred, which sets QUEUE_FULL; and nothing else. -/
def Obligations.ReOfferInIndexOrder : Prop :=
  ∀ (s : State) (due : List EntryIndex), s.link.state ≠ .quarantine → s.sched.queue = [] → s.sched.deferred = [] →
    due = (List.finRange 64).filter (fun i => (s.activeEntry i).takesPublish && (s.record i).pending) →
      s.reOffer =
        { s with
          sched :=
            { s.sched with
              queue :=
                (due.take 16).mapIdx fun k i =>
                  { entry := i, op := .publish, origin := .retry, cls := (s.activeEntry i).priority,
                    seq := s.sched.seqCounter + BitVec.ofNat 16 k }
              deferred := (due.drop 16).map fun i => { entry := i, op := .publish, origin := .retry }
              seqCounter := s.sched.seqCounter + BitVec.ofNat 16 (due.take 16).length }
          agent :=
            { s.agent with flags := if 16 < due.length then s.agent.flags ||| 0x0020#16 else s.agent.flags } }

/-- REFRESH_NOW: BAD_OPERAND, BAD_STATE, or the MANUAL REFRESH request with its disposition. SET_ORDER and SET_TICK: the
setting, or BAD_OPERAND for a value out of range. An IDLE link takes the item of a REFRESH_NOW in the same event (the
model's reading, log 7). -/
def Obligations.QueueCommandsExecute : Prop :=
  ∀ (tag : Byte) (ops : Operands) (s : State), AcceptsRecord s →
    (∀ i : EntryIndex, ops[0].toNat = i.val →
      ((s.activeEntry i).valid = true ∧
          ((s.activeEntry i).kind = .cached ∨ (s.activeEntry i).kind = .relayed ∧ (s.activeEntry i).masked = false) →
        RecordAnswers 0x30#8 tag ops (.refreshNow tag) s
          (executed 0x30#8 tag .done
            [BitVec.ofNat 8 i.val,
              if s.link.state = .quarantine then 0#8 else if s.sched.queued i then 1#8
              else if s.sched.isDeferred i then 2#8 else if s.sched.queue.length < 16 then 3#8 else 4#8]
            (s.request i .refresh .manual).takeOffered)) ∧
      (¬ ((s.activeEntry i).valid = true ∧
          ((s.activeEntry i).kind = .cached ∨ (s.activeEntry i).kind = .relayed ∧ (s.activeEntry i).masked = false)) →
        RecordAnswers 0x30#8 tag ops (.refreshNow tag) s (executed 0x30#8 tag .badState [] s))) ∧
    (∀ m : OrderMode, ops[0] = (match m with | .arrival => 0#8 | .index => 1#8) →
      RecordAnswers 0x32#8 tag ops (.setOrder tag) s
        (executed 0x32#8 tag .done [] { s with sched := { s.sched with order := m } })) ∧
    (1 ≤ ops[0].toNat ∧ ops[0].toNat ≤ 250 →
      RecordAnswers 0x33#8 tag ops (.setTick tag) s
        (executed 0x33#8 tag .done [] { s with sched := { s.sched with tickPeriod := ops[0] } })) ∧
    (63 < ops[0].toNat →
       RecordAnswers 0x30#8 tag ops (.refreshNow tag) s (executed 0x30#8 tag .badOperand [] s)) ∧
    (1 < ops[0].toNat →
       RecordAnswers 0x32#8 tag ops (.setOrder tag) s (executed 0x32#8 tag .badOperand [] s)) ∧
    (ops[0].toNat = 0 ∨ 250 < ops[0].toNat →
       RecordAnswers 0x33#8 tag ops (.setTick tag) s (executed 0x33#8 tag .badOperand [] s))

/-- WITHDRAW of entry e: a queue item or a deferred element is removed with its report, and a PUBLISH removed clears
PENDING; otherwise IN_FLIGHT or NOT_FOUND, and nothing changes; an index above 63 is BAD_OPERAND. -/
def Obligations.WithdrawReports : Prop :=
  (∀ (tag : Byte) (ops : Operands) (e : EntryIndex) (s : State), AcceptsRecord s → ops[0].toNat = e.val →
     s.sched.Wf →
     let cleared := fun op : QueueOp =>
       if op = .publish then s.setRecord e { s.record e with pending := false } else s
     (∀ it ∈ s.sched.queue, it.entry = e →
       RecordAnswers 0x31#8 tag ops (.withdraw tag) s
         (executed 0x31#8 tag .done
           [BitVec.ofNat 8 e.val, 0#8, it.op.code, it.origin.code, it.cls.setWidth 8, it.seq.extractLsb' 0 8,
             it.seq.extractLsb' 8 8]
           ((cleared it.op).removeWork fun j => j == e))) ∧
     (∀ d ∈ s.sched.deferred, d.entry = e →
       RecordAnswers 0x31#8 tag ops (.withdraw tag) s
         (executed 0x31#8 tag .done
           [BitVec.ofNat 8 e.val, 1#8, d.op.code, d.origin.code, 0#8, 0#8, 0#8]
           ((cleared d.op).removeWork fun j => j == e))) ∧
     ((∀ it ∈ s.sched.queue, it.entry ≠ e) → (∀ d ∈ s.sched.deferred, d.entry ≠ e) →
       (∀ t o, s.link.state.transaction = some t → t.op = .refresh e o →
         RecordAnswers 0x31#8 tag ops (.withdraw tag) s
           (executed 0x31#8 tag .inFlight [BitVec.ofNat 8 e.val, 0#8, 0#8, o.code] s)) ∧
       (∀ t o v d, s.link.state.transaction = some t → t.op = .publish e o v d →
         RecordAnswers 0x31#8 tag ops (.withdraw tag) s
           (executed 0x31#8 tag .inFlight [BitVec.ofNat 8 e.val, 0#8, 1#8, o.code] s)) ∧
       (∀ t, s.link.state.transaction = some t → t.op = .relay e →
         RecordAnswers 0x31#8 tag ops (.withdraw tag) s
           (executed 0x31#8 tag .inFlight [BitVec.ofNat 8 e.val, 0#8, 2#8, 0#8] s)) ∧
       ((∀ t ∈ s.link.state.transaction, t.op.entry? ≠ some e) →
         RecordAnswers 0x31#8 tag ops (.withdraw tag) s (executed 0x31#8 tag .notFound [BitVec.ofNat 8 e.val] s)))) ∧
  ∀ (tag : Byte) (ops : Operands) (s : State), AcceptsRecord s → 63 < ops[0].toNat →
    RecordAnswers 0x31#8 tag ops (.withdraw tag) s (executed 0x31#8 tag .badOperand [] s)

/-! ## Branch link controller (chapter 6) -/

/-- BRANCH_HEADER_SENT, when break, delimiter, H0 and H1 read back as sent, bit by bit (how the row brings that line is
log 27; in LOOPBACK the receiver is fed from the transmitter), and the line before holds no wake, which would have come
first as its own row (log 19): the branch receiver has heard the line before at the rate it ran at, and the frame at the
rate of the transaction (a character that a node had under way where the rate changes is given up, log 29); a REFRESH or
RELAY enters REPLY_WAIT, where the reply window begins, a PUBLISH or the sleep frame DATA_OUT; in LOOPBACK the responder
forms its reply from the record at this moment, complemented, or 0xFF throughout for an EMPTY record. -/
def Obligations.HeaderSentLeavesHeader : Prop :=
  ∀ (t : Transaction) (sent : Transmission) (r : Receiver) (s p : State), s.power = .running →
    s.link.state = .header t → NoWakeBefore s sent →
    (s.link.mode = .normal ∧ ReadsBack t.headerSent sent ∧
          HearsFrame s t.rate (Wave.levels sent.before) (Transmission.filled sent t.headerSent) r ∨
        s.link.mode = .loopback ∧
          HearsFrame s t.rate (Wave.levels (sent.before.map fun y => (true, y.2))) (sixteenths t.headerSent) r) →
      p = { s with link := { s.link with receiver := r, receiverRate := t.rate, outsideLow := none } } →
        (∀ i o, t.op = .refresh i o ∨ t.op = .relay i →
          exec (.branchHeaderSent sent) s =
            .next
              { p with
                link :=
                  { p.link with
                    state := .replyWait t
                    responder :=
                      if s.link.mode = .loopback then
                        some (if (s.record i).state = .empty then List.replicate (dataBytes t.length) 0xFF#8
                          else (s.record i).data.map fun b => 0xFF#8 - b)
                      else none
                    sinceH1 := 0 } }) ∧
        ((∃ i o v d, t.op = .publish i o v d) ∨ t.op = .sleep →
          exec (.branchHeaderSent sent) s = .next { p with link := { p.link with state := .dataOut t } }) ∧
        t.headerSent =
          List.replicate (match t.breakLength with | .bits13 => 13 | .bits17 => 17) false ++ [true, true] ++
            characterLevels (headerH0 t.branchChannel) ++ characterLevels (headerH1 t.branchChannel t.length)

/-- Which outcome an event of the line takes, by the first bit that reads back differently: LINE_FAULT in the break and
the delimiter, BIT_ERROR in H0 and H1 and in DATA_OUT; SUCCESS in DATA_OUT when every bit reads back as sent (how a row
brings that line is log 27). In REPLY_WAIT the end of reply reception, by the reply characters that the branch receiver
hears on the line of the row (log 24; which they are, log 28), as far as the reply window reaches: of a REFRESH by its
check byte, of a relay by the check byte against the branch check register once n characters have come, and of both by
FRAMING, or by the window once W(n) bit times have passed since the end of H1, and not before; a check byte complete at
its very end is in time or too late, as the row says (R11 allows either). The branch receiver runs at the rate of the
transaction (R3; what becomes of a character under way where that is a new rate, log 29). In LOOPBACK, by the model's
reading (log 16), the receiver hears only the transmitter and the responder: any ending that is brought gives SUCCESS
with the responder's reply, and faults of the line change nothing. -/
def Obligations.LineEventsTakeOutcome : Prop :=
  (∀ (t : Transaction) (sent : Transmission) (k : Nat) (r : Receiver) (s p : State), s.power = .running →
     p = { s with link := { s.link with receiver := r, receiverRate := t.rate, outsideLow := none } } →
       (s.link.state = .header t → s.link.mode = .normal → NoWakeBefore s sent → DiffersFirst t.headerSent sent k →
         HearsFrame s t.rate (Wave.levels sent.before) ((Wave.levels sent.during).take (16 * k + 10)) r →
           (k < t.breakLength.bits + 2 → exec (.branchLineFault sent) s = .next (p.takeOutcome t [] .lineFault)) ∧
             (t.breakLength.bits + 2 ≤ k → exec (.branchBitError sent) s = .next (p.takeOutcome t [] .bitError))) ∧
       (s.link.state = .dataOut t →
         (s.link.mode = .normal ∧ ReadsBack (charactersLevels t.published) sent ∧
               HearsFrame s t.rate (Wave.levels sent.before)
                 (Transmission.filled sent (charactersLevels t.published)) r ∨
             s.link.mode = .loopback ∧
               HearsFrame s t.rate (Wave.levels (sent.before.map fun y => (true, y.2)))
                 (sixteenths (charactersLevels t.published)) r →
           exec (.publishDataSent sent) s = .next (p.takeOutcome t [] .success)) ∧
         (s.link.mode = .normal → DiffersFirst (charactersLevels t.published) sent k →
           HearsFrame s t.rate (Wave.levels sent.before) ((Wave.levels sent.during).take (16 * k + 10)) r →
             exec (.branchBitError sent) s = .next (p.takeOutcome t [] .bitError))) ∧
       (s.link.mode = .loopback → exec (.branchLineFault sent) s = .next s ∧ exec (.branchBitError sent) s = .next s)) ∧
  (∀ (t : Transaction) (i : EntryIndex) (o : Origin) (line : Wave) (r : Receiver) (data : List Byte)
     (more : List RxEvent) (n : Nat) (s p : State), s.power = .running → s.link.state = .replyWait t →
       t.op = .refresh i o → n = dataBytes t.length → RxEvent.lineBreak ∉ more →
       p = { s with link := { s.link with receiver := r, receiverRate := t.rate, outsideLow := none } } →
         (s.link.mode = .normal →
           (∀ check, data.length = n → s.hearReply n line = (r, goodCharacters (data ++ [check]) ++ more) →
             exec (.branchReplyEnd ⟨line, false⟩) s =
               .next
                 (p.takeOutcome t data
                   (if check = checkByte (headerH0 t.branchChannel) (headerH1 t.branchChannel t.length) data then
                     .success
                   else .check))) ∧
           (∀ v, data.length ≤ n → s.hearReply n line = (r, goodCharacters data ++ .character (.framing v) :: more) →
             exec (.branchReplyEnd ⟨line, false⟩) s =
               .next (p.takeOutcome t ((data ++ goodBytes more).take n) .framing)) ∧
           (data.length ≤ n → s.hearReply n line = (r, goodCharacters data) → WindowOver n s.link.sinceH1 line →
             exec (.branchReplyEnd ⟨line, false⟩) s =
               .next
                 (p.takeOutcome t data (if data ≠ [] ∨ r.midCharacter = true then .shortReply else .noReply))) ∧
           (∀ c, data.length ≤ n → s.hearReply n line = (r, goodCharacters data ++ [.character c]) →
             HearsEarly s n line (goodCharacters data) → WindowOver n s.link.sinceH1 line →
               exec (.branchReplyEnd ⟨line, true⟩) s =
                 .next (p.takeOutcome t ((data ++ goodBytes [.character c]).take n) .shortReply)) ∧
           (data.length ≤ n → s.hearReply n line = (r, goodCharacters data) → ¬ WindowOver n s.link.sinceH1 line →
             ∀ first, exec (.branchReplyEnd ⟨line, first⟩) s = .next s)) ∧
         (∀ ending, s.link.mode = .loopback → s.link.responder = some data →
           r =
             (s.link.receiver.hearLevels .branch
               (sixteenths
                 (replyLevels
                   (data ++
                     [checkByte (headerH0 t.branchChannel) (headerH1 t.branchChannel t.length) data])))).1 →
             exec (.branchReplyEnd ending) s = .next (p.takeOutcome t data .success))) ∧
  ∀ (t : Transaction) (i : EntryIndex) (x : RelayContext) (line : Wave) (r : Receiver) (more : List RxEvent) (n : Nat)
    (s p : State), s.power = .running → s.link.state = .replyWait t → t.op = .relay i → s.link.relay = some x →
      n = x.entry.bytes → x.received.length ≤ n → RxEvent.lineBreak ∉ more →
      p = { s with link := { s.link with receiver := r, receiverRate := t.rate, outsideLow := none } } →
        (s.link.mode = .normal →
          (∀ check, x.received.length = n → s.hearReply n line = (r, .character (.good check) :: more) →
            exec (.branchReplyEnd ⟨line, false⟩) s =
              .next (p.takeOutcome t [] (if check = ~~~ x.branchCheck then .success else .check))) ∧
          (∀ v, s.hearReply n line = (r, [.character (.framing v)]) →
            exec (.branchReplyEnd ⟨line, false⟩) s = .next (p.takeOutcome t [] .framing)) ∧
          (s.hearReply n line = (r, []) → WindowOver n s.link.sinceH1 line →
            exec (.branchReplyEnd ⟨line, false⟩) s =
              .next
                (p.takeOutcome t []
                  (if x.received ≠ [] ∨ r.midCharacter = true then .shortReply else .noReply))) ∧
          (∀ c, s.hearReply n line = (r, [.character c]) → HearsEarly s n line [] →
            WindowOver n s.link.sinceH1 line →
              exec (.branchReplyEnd ⟨line, true⟩) s = .next (p.takeOutcome t [] .shortReply)) ∧
          (s.hearReply n line = (r, []) → ¬ WindowOver n s.link.sinceH1 line →
            ∀ first, exec (.branchReplyEnd ⟨line, first⟩) s = .next s)) ∧
        ∀ ending, s.link.mode = .loopback → x.received.length = x.entry.bytes →
          r = (s.link.receiver.hearLevels .branch (sixteenths (characterLevels (~~~ x.branchCheck)))).1 →
            exec (.branchReplyEnd ending) s = .next (p.takeOutcome t [] .success)

/-- An outcome, whatever the transaction: the score; LINK_WARNING and LINK_QUARANTINED set exactly where the score rose
to 64 or more, or reached 128; the counters, a pending commit applied, the descriptor empty, and QUARANTINE, ASLEEP or
GAP chosen by the score. The sleep frame's outcome completes the SLEEP_BRANCH that holds the slot, with DONE for SUCCESS
and LINK_FAILED otherwise, and frees the slot; a commit applied completes COMMIT. With a commit pending, the records,
the countdowns, the queue and the flags first take what the outcome does to them under the old table, as it would with
none pending, and then the commit (as CommitApplied states it). The frame: trunk and relay context but for a RELAY, the
timebase and its settings, the line settings, the branch receiver with the rate it runs at, the staging buffer and the
read pointers, the store, every flag that no outcome sets; below a score of 128 and without a commit, also the queue,
the deferred set and the sequence counter but for a PUBLISH, the slot and RESULT but for the sleep frame, and the hold
countdown. -/
def Obligations.OutcomeMovesScoreAndState : Prop :=
  ∀ (t : Transaction) (data : List Byte) (o : BranchOutcome) (s s' : State), s' = s.takeOutcome t data o →
    s'.link.score.toNat =
        (match o with
        | .success => s.link.score.toNat - 1
        | .lineFault => min 255 (s.link.score.toNat + 16)
        | .bitError => min 255 (s.link.score.toNat + 8)
        | .framing => min 255 (s.link.score.toNat + 4)
        | .check => min 255 (s.link.score.toNat + 4)
        | .shortReply => min 255 (s.link.score.toNat + 2)
        | .noReply => min 255 (s.link.score.toNat + 1)) ∧
      s'.flag .linkWarning =
        (s.flag .linkWarning || decide (s.link.score.toNat < s'.link.score.toNat ∧ 64 ≤ s'.link.score.toNat)) ∧
      s'.flag .linkQuarantined = (s.flag .linkQuarantined || decide (128 ≤ s'.link.score.toNat)) ∧
      s'.agent.counters =
        (if t.op = .sleep then s.agent.counters
        else if o = .success then { s.agent.counters with branchOk := satSucc s.agent.counters.branchOk }
        else { s.agent.counters with branchFailed := satSucc s.agent.counters.branchFailed }) ∧
      s'.link.state =
        (if 128 ≤ s'.link.score.toNat then .quarantine
        else if t.op = .sleep ∧ o = .success then .asleep else .gap t.rate) ∧
      (128 ≤ s'.link.score.toNat →
        s'.sched.queue = [] ∧ s'.sched.deferred = [] ∧
          s'.link.hold = (match s.link.line.policy with | .auto => s.link.line.qhold | .hold => 0#8) ∧
          s'.link.sleepFramePending = false ∧ s'.slotHeldBy 0x50#8 = false ∧ s'.slotHeldBy 0x51#8 = false) ∧
      (s.route.commitPending = true → s'.route = s.route.swapped) ∧
      (s.route.commitPending = false → s'.route = s.route) ∧
      (∀ sl, s.route.commitPending = true → s.agent.slot = some sl → sl.code = 0x15#8 →
        s'.agent.slot = none ∧
          s'.agent.result =
            { s.agent.result with
              outcome := .done
              data :=
                [match s.route.activeBank with | .a => 1#8 | .b => 0#8,
                  (s.route.commitCount + 1#16).extractLsb' 0 8, (s.route.commitCount + 1#16).extractLsb' 8 8] }) ∧
      (∀ tag, t.op = .sleep → s.agent.slot = some { code := 0x50#8, tag := tag } →
        s'.agent.slot = none ∧
          s'.agent.result =
            { s.agent.result with outcome := if o = .success then .done else .linkFailed, data := [] }) ∧
      s'.link.line = s.link.line ∧ s'.link.mode = s.link.mode ∧ s'.link.settle = s.link.settle ∧
      s'.link.receiver = s.link.receiver ∧ s'.link.receiverRate = s.link.receiverRate ∧
      s'.link.responder = none ∧ s'.power = s.power ∧ s'.config = s.config ∧ s'.pending = s.pending ∧
      s'.trunk.stamp = s.trunk.stamp ∧ s'.trunk.rate = s.trunk.rate ∧ s'.trunk.receiver = s.trunk.receiver ∧
      s'.agent.keyState = s.agent.keyState ∧ s'.agent.unit = s.agent.unit ∧
      s'.sched.tickCount = s.sched.tickCount ∧ s'.sched.tickPeriod = s.sched.tickPeriod ∧
      s'.sched.runningPeriod = s.sched.runningPeriod ∧ s'.sched.order = s.sched.order ∧
      { s'.store with records := s.store.records } = s.store ∧
      (∀ f, s.flag f = true → s'.flag f = true) ∧
      (t.op = .sleep → ∀ f ∈ [Flag.captureHeld, .downlinkLost, .queueFull, .nodeSilent], s'.flag f = s.flag f) ∧
      (s.link.state ≠ .quarantine →
        ∀ f ∉ [Flag.captureHeld, .downlinkLost, .queueFull, .linkWarning, .linkQuarantined, .nodeSilent],
          s'.flag f = s.flag f) ∧
      ((∀ i, t.op ≠ .relay i) → s'.trunk = s.trunk ∧ s'.link.relay = s.link.relay) ∧
      (s.route.commitPending = false → t.op = .sleep →
        s'.store = s.store ∧ s'.sched.countdowns = s.sched.countdowns) ∧
      (s'.link.score.toNat < 128 → s.route.commitPending = false →
        ((∀ i origin version sent, t.op ≠ .publish i origin version sent) →
          { s'.sched with countdowns := s.sched.countdowns } = s.sched) ∧
        (t.op ≠ .sleep → s'.agent.slot = s.agent.slot ∧ s'.agent.result = s.agent.result) ∧
        s'.link.hold = s.link.hold ∧ s'.link.sampling = s.link.sampling ∧
        s'.link.sleepFramePending = s.link.sleepFramePending) ∧
      ∀ (u : State) (old new : EntryIndex → Entry), s.route.commitPending = true →
        u = ({ s with route := { s.route with commitPending := false } } : State).takeOutcome t data o →
        (old = fun i => s.route.activeContents.entry i) → (new = fun i => s.route.editContents.entry i) →
          (s'.link.score.toNat < 128 → s'.sched = u.applyCommit.sched) ∧ s'.agent.flags = u.agent.flags ∧ ∀ i,
            (s'.record i = if SameIdentity (old i) (new i) then u.record i else emptyRecordOf (u.record i)) ∧
              s'.countdown i =
                if (new i).valid = true ∧ ((old i).valid = false ∨ (old i).refresh ≠ (new i).refresh) then
                  (new i).refresh
                else u.countdown i

/-- A REFRESH's outcome on the record store and the scheduler, no commit pending: a capture under the STORE_POLICY with
the countdown reloaded, or a failure counted against SILENT_LIMIT; CAPTURE_HELD and NODE_SILENT set in their cases
alone, DOWNLINK_LOST and QUEUE_FULL in none; other records and countdowns, the trunk port and the relay context
unchanged; below a score of 128 also the queue, the deferred set, the sequence counter and the timebase. -/
def Obligations.RefreshOutcomeOnRecord : Prop :=
  ∀ (t : Transaction) (i : EntryIndex) (origin : Origin) (data : List Byte) (o : BranchOutcome) (s s' : State)
    (r : Record) (e : Entry),
    t.op = .refresh i origin → s' = s.takeOutcome t data o → r = s.record i → e = s.activeEntry i →
      s.route.commitPending = false →
        (∀ j, j ≠ i → s'.record j = s.record j ∧ s'.countdown j = s.countdown j) ∧
        (o = .success →
          (e.storePolicy = .hold ∧ r.state = .fresh ∧ r.served = 0#8 →
            s'.record i = { r with fails := 0#4, silent := false }) ∧
          (¬ (e.storePolicy = .hold ∧ r.state = .fresh ∧ r.served = 0#8) →
            s'.record i =
              { capturedRecord data .branch s.sched.tickCount r with fails := 0#4, silent := false }) ∧
          s'.countdown i = if e.refresh = 0#8 then s.countdown i else e.refresh) ∧
        (o ≠ .success →
          s'.record i =
              { r with
                fails := satSucc r.fails
                silent := r.silent || decide (e.silentLimit ≤ satSucc r.fails)
                state := if e.silentLimit ≤ satSucc r.fails ∧ r.state = .fresh then .stale else r.state } ∧
            s'.countdown i = s.countdown i) ∧
        s'.flag .captureHeld =
          (s.flag .captureHeld ||
            decide (o = .success ∧ e.storePolicy = .hold ∧ r.state = .fresh ∧ r.served = 0#8)) ∧
        s'.flag .nodeSilent = (s.flag .nodeSilent || decide (o ≠ .success ∧ e.silentLimit ≤ satSucc r.fails)) ∧
        s'.flag .downlinkLost = s.flag .downlinkLost ∧ s'.flag .queueFull = s.flag .queueFull ∧
        { s'.store with records := s.store.records } = s.store ∧ s'.trunk = s.trunk ∧ s'.link.relay = s.link.relay ∧
        (s'.link.score.toNat < 128 → { s'.sched with countdowns := s.sched.countdowns } = s.sched)

/-- A PUBLISH's outcome, no commit pending: delivery clears PENDING when VERSION is the snapshot's; a failure counts,
and at SILENT_LIMIT gives the data up; NODE_SILENT, DOWNLINK_LOST and, by a RETRY that is deferred, QUEUE_FULL are set
in their cases alone, CAPTURE_HELD in none; a record that keeps PENDING is queued or deferred again, unless the link has
gone into QUARANTINE. No countdown moves. Below a score of 128 the scheduler changes by the RETRY request alone, and
only for a record that keeps PENDING; the trunk port and the relay context are unchanged. -/
def Obligations.PublishOutcomeOnRecord : Prop :=
  ∀ (t : Transaction) (i : EntryIndex) (origin : Origin) (version : Byte) (sent data : List Byte) (o : BranchOutcome)
    (s s' : State) (r : Record) (e : Entry),
    t.op = .publish i origin version sent → s.link.state.transaction = some t → s' = s.takeOutcome t data o →
      r = s.record i → e = s.activeEntry i → s.route.commitPending = false →
        (∀ j, j ≠ i → s'.record j = s.record j) ∧ (∀ j, s'.countdown j = s.countdown j) ∧
        (o = .success →
          s'.record i =
            { r with fails := 0#4, silent := false, pending := r.pending && decide (r.version ≠ version) }) ∧
        (o ≠ .success →
          s'.record i =
              { r with
                fails := satSucc r.fails
                silent := r.silent || decide (e.silentLimit ≤ satSucc r.fails)
                state := if e.silentLimit ≤ satSucc r.fails ∧ r.state = .fresh then .stale else r.state
                pending := r.pending && decide (satSucc r.fails < e.silentLimit) }) ∧
        s'.flag .nodeSilent = (s.flag .nodeSilent || decide (o ≠ .success ∧ e.silentLimit ≤ satSucc r.fails)) ∧
        s'.flag .downlinkLost =
          (s.flag .downlinkLost || decide (o ≠ .success ∧ r.pending = true ∧ e.silentLimit ≤ satSucc r.fails)) ∧
        s'.flag .captureHeld = s.flag .captureHeld ∧
        s'.flag .queueFull =
          (s.flag .queueFull ||
            decide ((s'.record i).pending = true ∧ (∀ it ∈ s.sched.queue, it.entry ≠ i) ∧
              (∀ d ∈ s.sched.deferred, d.entry ≠ i) ∧ 16 ≤ s.sched.queue.length)) ∧
        ((s'.record i).pending = true → s'.link.state ≠ .quarantine →
          s'.sched.queued i = true ∨ s'.sched.isDeferred i = true) ∧
        { s'.store with records := s.store.records } = s.store ∧ s'.trunk = s.trunk ∧ s'.link.relay = s.link.relay ∧
        (s'.link.score.toNat < 128 →
          s'.sched = if (s'.record i).pending = true then (s.request i .publish .retry).sched else s.sched)

/-- A relay's outcome, no commit pending: the record is touched for an unmasked entry only: a capture under its
STORE_POLICY with the countdown loaded again, or a failure counted against SILENT_LIMIT, and CAPTURE_HELD and
NODE_SILENT set in these cases alone; on SUCCESS with the trunk side OPEN the trunk check byte is held; a failed branch
side with nothing held and nothing being sent ends the trunk side and the context at once; with nothing held and a
character on the line the port is told that nothing more comes, and goes on with that character (R61). That characters
handed before and not yet begun stay in the port then, to be sent behind it, is the model's reading, DEDUCED: R61 does
not name them (log 10). A context whose trunk side had ended goes. Below a score of 128 the queue, the deferred set, the
sequence counter and the timebase are unchanged. -/
def Obligations.RelayOutcomeOnBothSides : Prop :=
  ∀ (t : Transaction) (i : EntryIndex) (data : List Byte) (o : BranchOutcome) (x : RelayContext) (s s' : State),
    t.op = .relay i → s.link.relay = some x → s' = s.takeOutcome t data o → s.route.commitPending = false →
      (x.entry.masked = true → s'.store = s.store ∧ s'.sched.countdowns = s.sched.countdowns) ∧
      (∀ j, j ≠ x.index → s'.record j = s.record j ∧ s'.countdown j = s.countdown j) ∧
      (∀ (r : Record) (e : Entry), x.entry.masked = false → r = s.record x.index → e = s.activeEntry x.index →
        (o = .success →
          (e.storePolicy = .hold ∧ r.state = .fresh ∧ r.served = 0#8 →
            s'.record x.index = { r with fails := 0#4, silent := false }) ∧
          (¬ (e.storePolicy = .hold ∧ r.state = .fresh ∧ r.served = 0#8) →
            s'.record x.index =
              { capturedRecord x.received .branch s.sched.tickCount r with fails := 0#4, silent := false }) ∧
          s'.countdown x.index = if e.refresh = 0#8 then s.countdown x.index else e.refresh) ∧
        (o ≠ .success →
          s'.record x.index =
              { r with
                fails := satSucc r.fails
                silent := r.silent || decide (e.silentLimit ≤ satSucc r.fails)
                state := if e.silentLimit ≤ satSucc r.fails ∧ r.state = .fresh then .stale else r.state } ∧
            s'.countdown x.index = s.countdown x.index) ∧
        s'.flag .captureHeld =
          (s.flag .captureHeld ||
            decide (o = .success ∧ e.storePolicy = .hold ∧ r.state = .fresh ∧ r.served = 0#8)) ∧
        s'.flag .nodeSilent = (s.flag .nodeSilent || decide (o ≠ .success ∧ e.silentLimit ≤ satSucc r.fails))) ∧
      (x.entry.masked = true →
        s'.flag .captureHeld = s.flag .captureHeld ∧ s'.flag .nodeSilent = s.flag .nodeSilent) ∧
      s'.flag .downlinkLost = s.flag .downlinkLost ∧ s'.flag .queueFull = s.flag .queueFull ∧
      (∀ check held, x.trunkSide = .stillOpen check held →
        (o = .success →
          s'.link.relay =
              some
                { x with
                  branchSide := .ended (some .success)
                  trunkSide := .stillOpen check (held ++ [.check (~~~ check)]) } ∧
            s'.trunk = s.trunk) ∧
        (o ≠ .success → held ≠ [] →
          s'.link.relay = some { x with branchSide := .ended (some o) } ∧ s'.trunk = s.trunk) ∧
        (o ≠ .success → held = [] → ∀ waiting more, s.trunk.port = .forward none waiting more →
          s'.link.relay = none ∧ s'.trunk = { s.trunk with port := .passive }) ∧
        (o ≠ .success → held = [] → ∀ c waiting more, s.trunk.port = .forward (some c) waiting more →
          s'.link.relay = some { x with branchSide := .ended (some o) } ∧
            s'.trunk = { s.trunk with port := .forward (some c) waiting true })) ∧
      (x.trunkSide = .ended →
        s'.link.relay = none ∧
          ((∀ sending waiting more, s.trunk.port ≠ .forward sending waiting more) → s'.trunk = s.trunk)) ∧
      { s'.store with records := s.store.records } = s.store ∧
      (s'.link.score.toNat < 128 → { s'.sched with countdowns := s.sched.countdowns } = s.sched)

/-- GAP_END: a pending sleep frame is begun in the event that reaches IDLE; otherwise a WAKE_BRANCH in the slot
completes with DONE, and the offer is made, its item taken in the same event (log 7). -/
def Obligations.GapEndBeginsWork : Prop :=
  ∀ (rate : RateCode) (s p : State), s.power = .running → s.link.state = .gap rate →
    p = { s with link := { s.link with state := .idle } } →
      (s.link.sleepFramePending = true →
        exec .gapEnd s =
          .next
            { s with
              link :=
                { s.link with
                  sleepFramePending := false
                  state :=
                    .header
                      { op := .sleep, branchChannel := 1023#10, length := 0#2, rate := s.link.line.rate,
                        breakLength := s.link.line.breakLength } } }) ∧
      (s.link.sleepFramePending = false → ∀ tag, s.agent.slot = some { code := 0x51#8, tag := tag } →
        exec .gapEnd s = .next (completed .done [] p).takeOffered) ∧
      (s.link.sleepFramePending = false → s.slotHeldBy 0x51#8 = false → exec .gapEnd s = .next p.takeOffered)

/-- The release of a quarantine, by RELEASE_LINK under either policy or by a high third majority: IDLE, score 0, hold
countdown 0, the re-offer, then the offer, its item taken in the same event (log 7); a low majority loads QHOLD again;
RELEASE_LINK outside QUARANTINE is BAD_STATE. -/
def Obligations.QuarantineReleased : Prop :=
  ∀ (tag : Byte) (ops : Operands) (s p : State), s.power = .running →
    p = { s with link := { s.link with state := .idle, score := 0#8, hold := 0#8, sampling := false } } →
      (AcceptsRecord s →
        (s.link.state = .quarantine →
          RecordAnswers 0x41#8 tag ops (.releaseLink tag) s (executed 0x41#8 tag .done [] p.reOffer.takeOffered)) ∧
        (s.link.state ≠ .quarantine →
          RecordAnswers 0x41#8 tag ops (.releaseLink tag) s (executed 0x41#8 tag .badState [] s))) ∧
      (s.link.state = .quarantine → s.link.sampling = true → ∀ a b c,
        (a = true ∧ b = true ∨ a = true ∧ c = true ∨ b = true ∧ c = true →
          exec (.quarantineSample a b c) s = .next p.reOffer.takeOffered) ∧
        (a = false ∧ b = false ∨ a = false ∧ c = false ∨ b = false ∧ c = false →
          exec (.quarantineSample a b c) s =
            .next { s with link := { s.link with hold := s.link.line.qhold, sampling := false } }))

/-- SET_LINE with operands in range: BUSY while a transaction is on the branch; otherwise all six settings, with the
hold countdown and the sampling following a change of policy in QUARANTINE. With an operand out of range BAD_OPERAND,
and all six keep their values. The rate at which the branch runs stays as it is (IdleLinkTakesDueItem and
HeaderSentLeavesHeader state from when on a new one governs). In WAKE_OUT, which no SET_LINE reaches with the slot
empty, it is carried out as in the other states outside a transaction (the model's choice, log 17). -/
def Obligations.SetLineWritesSixSettings : Prop :=
  (∀ (tag : Byte) (ops : Operands) (l : LineSettings) (s : State), AcceptsRecord s →
     ops[0].toNat = l.rate.toNat → ops[1] = (match l.breakLength with | .bits13 => 0#8 | .bits17 => 1#8) →
     ops[2] = (match l.policy with | .auto => 0#8 | .hold => 1#8) → ops[3] = l.qhold → ops[4] = l.wakeLen →
     ops[5] = l.settleLen → l.qhold ≠ 0#8 → 1 ≤ l.wakeLen.toNat → l.wakeLen.toNat ≤ 20 → l.settleLen ≠ 0#8 →
       (s.link.state.inTransaction = true →
          RecordAnswers 0x40#8 tag ops (.setLine tag) s (executed 0x40#8 tag .busy [] s)) ∧
       (s.link.state.inTransaction = false →
         (s.link.state ≠ .quarantine ∨ s.link.line.policy = l.policy →
           RecordAnswers 0x40#8 tag ops (.setLine tag) s
             (executed 0x40#8 tag .done [] { s with link := { s.link with line := l } })) ∧
         (s.link.state = .quarantine → s.link.line.policy ≠ l.policy →
           RecordAnswers 0x40#8 tag ops (.setLine tag) s
             (executed 0x40#8 tag .done []
               { s with
                 link :=
                   { s.link with
                     line := l
                     hold := match l.policy with | .auto => l.qhold | .hold => 0#8
                     sampling := false } })))) ∧
  ∀ (tag : Byte) (ops : Operands) (s : State), AcceptsRecord s →
    (3 < ops[0].toNat ∨ 1 < ops[1].toNat ∨ 1 < ops[2].toNat ∨ ops[3].toNat = 0 ∨ ops[4].toNat = 0 ∨
      20 < ops[4].toNat ∨ ops[5].toNat = 0) →
      RecordAnswers 0x40#8 tag ops (.setLine tag) s (executed 0x40#8 tag .badOperand [] s)

/-- RESET_BRANCH, with the slot empty or held by COMMIT, SLEEP_BRANCH or WAKE_BRANCH: the whole next state. The link in
IDLE and NORMAL with score, countdowns and failure history cleared, the branch queue and the deferred set emptied
without a refill, the branch side of a relay in flight ended without an outcome and its held characters discarded, the
branch receiver behind what it was fed before and while the transaction or pulse that is cut short was on the line (log
24; of a pulse log 27), at the rate of what is cut short (R3; log 29), and a low that began outside a frame still under
way (log 19); then the re-offer from the empty queue (as ReOfferInIndexOrder states it), a pending commit applied (as
CommitApplied states it), and the item offered taken, its RETRY PUBLISH in HEADER (as IdleLinkTakesDueItem states it).
R123 says that the first item may be taken at once; that it is taken in this same event is the model's reading (log 7).
RESULT with what it ended, the slot empty. What this leaves, clause by clause: records and countdowns with and without a
commit, the staging buffer and the read pointers, the trunk port with its rate and receiver, unit, counters, store,
timebase and line settings, and every flag but QUEUE_FULL, which more than 16 publications set. That a relay context is
kept whose branch side has already ended is the model's reading (log 15). -/
def Obligations.ResetBranchReturnsLink : Prop :=
  ∀ (tag : Byte) (ops : Operands) (branch : Transmission) (r : Receiver) (rate : RateCode) (low : Option Nat)
    (s p t : State),
    s.power = .running → s.trunk.port.capturesCommand = true →
    SlotInv s → (∀ sl ∈ s.agent.slot, sl.code = 0x15#8 ∨ sl.code = 0x50#8 ∨ sl.code = 0x51#8) →
    ((∃ asleep steps, s.link.state = .wakeOut asleep steps rate) ∧
        HearsPulse s rate (Wave.levels branch.before) (Wave.levels branch.during) r low ∨
      (∃ x, s.link.state.transaction = some x ∧ x.rate = rate) ∧
        HearsFrame s rate (Wave.levels branch.before) (Wave.levels branch.during) r ∧ low = none ∨
      s.link.state.inTransaction = false ∧ (∀ asleep steps pulse, s.link.state ≠ .wakeOut asleep steps pulse) ∧
        r = s.link.receiver ∧ rate = s.link.receiverRate ∧ low = s.link.outsideLow) →
      p =
        { s with
          store :=
            { s.store with
              records := Vector.ofFn fun i => { s.record i with fails := 0#4, silent := false } }
          sched := { s.sched with queue := [], deferred := [] }
          link :=
            { s.link with
              state := .idle, mode := .normal, score := 0#8, hold := 0#8, settle := 0#8, sampling := false
              sleepFramePending := false, responder := none
              relay :=
                if s.link.state.transaction.any (fun x => match x.op with | .relay _ => true | _ => false) then
                  s.link.relay.bind fun y =>
                    match y.trunkSide with
                    | .ended => none
                    | .stillOpen check _ => some { y with trunkSide := .stillOpen check [], branchSide := .ended none }
                else s.link.relay
              receiver := r, receiverRate := rate, outsideLow := low }
          agent := { s.agent with slot := none } } →
        t =
          executed 0x42#8 tag .done
            (match s.agent.slot with
            | none => []
            | some sl => [sl.code, sl.tag, if sl.code = 0x15#8 then 1#8 else 13#8])
            (if s.route.commitPending = true then p.reOffer.applyCommit else p.reOffer).takeOffered →
          RecordAnswers 0x42#8 tag ops (fun heard => .resetBranch tag heard branch) s t ∧
          (t.link.state = .idle ∧ t.sched.queue = [] ∨
            ∃ x i v d, t.link.state = .header x ∧ x.op = .publish i .retry v d) ∧
          (∀ i, (t.record i).pending = true → (t.activeEntry i).takesPublish = true →
            t.sched.queued i = true ∨ t.sched.isDeferred i = true ∨
              ∃ x ∈ t.link.state.transaction, x.publishes i = true) ∧
          (s.route.commitPending = false → t.route = s.route ∧ t.store = p.store ∧
            t.sched.countdowns = s.sched.countdowns) ∧
          (∀ (old new : EntryIndex → Entry), s.route.commitPending = true →
            (old = fun i => s.route.activeContents.entry i) → (new = fun i => s.route.editContents.entry i) →
              t.route = s.route.swapped ∧ ∀ i,
                t.record i =
                    (if SameIdentity (old i) (new i) then { s.record i with fails := 0#4, silent := false }
                    else emptyRecordOf (s.record i)) ∧
                  t.countdown i =
                    if (new i).valid = true ∧ ((old i).valid = false ∨ (old i).refresh ≠ (new i).refresh) then
                      (new i).refresh
                    else s.countdown i) ∧
          { t.store with records := s.store.records } = s.store ∧
          t.trunk = { s.trunk with port := .passive } ∧ t.agent.unit = s.agent.unit ∧
          t.agent.counters = s.agent.counters ∧ t.agent.slot = none ∧ t.config = s.config ∧
          t.link = { p.link with state := t.link.state } ∧
          t.sched.order = s.sched.order ∧ t.sched.tickCount = s.sched.tickCount ∧
          t.sched.tickPeriod = s.sched.tickPeriod ∧ t.sched.runningPeriod = s.sched.runningPeriod ∧
          t.agent.flags =
            if 16 < ((List.finRange 64).filter fun i =>
                (s.activeEntry i).takesPublish && (s.record i).pending).length then
              s.agent.flags ||| 0x0020#16
            else s.agent.flags

/-! ## Sleep, wake and loopback test (chapter 8) -/

/-- SLEEP_BRANCH by mode and link state: begun at once from IDLE, pending behind a transaction or a gap, DONE in ASLEEP,
BAD_STATE in QUARANTINE, WAKE_SETTLE and LOOPBACK. -/
def Obligations.SleepBranchByState : Prop :=
  ∀ (tag : Byte) (ops : Operands) (s : State), AcceptsRecord s →
    (s.link.mode = .normal → s.link.state = .idle →
      RecordAnswers 0x50#8 tag ops (.sleepBranch tag) s
        { executedPending 0x50#8 tag s with
          link :=
            { s.link with
              sleepFramePending := false
              state :=
                .header
                  { op := .sleep, branchChannel := 1023#10, length := 0#2, rate := s.link.line.rate,
                    breakLength := s.link.line.breakLength } } }) ∧
    (s.link.mode = .normal → ((∃ rate, s.link.state = .gap rate) ∨ s.link.state.inTransaction = true) →
      RecordAnswers 0x50#8 tag ops (.sleepBranch tag) s
        { executedPending 0x50#8 tag s with link := { s.link with sleepFramePending := true } }) ∧
    (s.link.mode = .normal → s.link.state = .asleep →
      RecordAnswers 0x50#8 tag ops (.sleepBranch tag) s (executed 0x50#8 tag .done [] s)) ∧
    (s.link.mode = .loopback ∨ s.link.state = .quarantine ∨ s.link.state = .wakeSettle →
      RecordAnswers 0x50#8 tag ops (.sleepBranch tag) s (executed 0x50#8 tag .badState [] s))

/-- WAKE_BRANCH by mode and link state: a pulse of WAKE_LEN steps from ASLEEP and IDLE, at the branch rate in force
then, PENDING without a pulse in WAKE_SETTLE, BAD_STATE in the other states and in LOOPBACK. WAKE_PULSE_END, when every
step of the pulse reads low, by the majority of its three samples (how the row brings that line is log 27): WAKE_SETTLE
with the countdown loaded from ASLEEP, GAP from IDLE, at the branch rate in force, which is that of the pulse (log 29).
WAKE_PULSE_FAULT, when a step reads high, below the quarantine limit: 16 points, LINK_WARNING from 64 on, WAKE_BRANCH
LINK_FAILED, back to ASLEEP or on to GAP; at the limit: QUARANTINE with its queue emptied. Either way the branch
receiver has gone on receiving, over the line before the pulse at the rate it ran at and over the pulse at the pulse's
rate (log 29), each sixteenth of a bit time at the level that stands where it begins (log 27), and what it hands over
changes nothing; a low that a node began before the pulse, and that goes on through it, is still under way behind it
(R145). In LOOPBACK, where no pulse begins, it would be fed from the transmitter. -/
def Obligations.WakeBranchAndItsPulse : Prop :=
  (∀ (tag : Byte) (ops : Operands) (s : State), AcceptsRecord s →
     (s.link.mode = .normal → s.link.state = .asleep ∨ s.link.state = .idle →
       RecordAnswers 0x51#8 tag ops (.wakeBranch tag) s
         { executedPending 0x51#8 tag s with
           link :=
             { s.link with
               state := .wakeOut (decide (s.link.state = .asleep)) s.link.line.wakeLen s.link.line.rate } }) ∧
     (s.link.mode = .normal → s.link.state = .wakeSettle →
       RecordAnswers 0x51#8 tag ops (.wakeBranch tag) s (executedPending 0x51#8 tag s)) ∧
     (s.link.mode = .loopback ∨ s.link.state.inTransaction = true ∨ (∃ rate, s.link.state = .gap rate) ∨
         s.link.state = .quarantine →
       RecordAnswers 0x51#8 tag ops (.wakeBranch tag) s (executed 0x51#8 tag .badState [] s))) ∧
  (∀ (fromAsleep : Bool) (steps : Byte) (rate : RateCode) (sent : Transmission) (r : Receiver) (low : Option Nat)
     (s : State),
     s.power = .running → s.link.state = .wakeOut fromAsleep steps rate → NoWakeBefore s sent →
       (s.link.mode = .normal ∧ ReadsBack (List.replicate steps.toNat false) sent ∧
             HearsPulse s rate (Wave.levels sent.before)
               (Transmission.filled sent (List.replicate steps.toNat false)) r low ∨
           s.link.mode = .loopback ∧
             HearsPulse s rate (Wave.levels (sent.before.map fun y => (true, y.2)))
               (sixteenths (List.replicate steps.toNat false)) r low →
         exec (.wakePulseEnd sent) s =
           .next
             { s with
               link :=
                 if fromAsleep then
                   { s.link with
                     state := .wakeSettle, settle := s.link.line.settleLen, receiver := r, receiverRate := rate
                     outsideLow := low }
                 else { s.link with state := .gap rate, receiver := r, receiverRate := rate, outsideLow := low } }) ∧
       (∀ k tag, s.link.mode = .normal → DiffersFirst (List.replicate steps.toNat false) sent k →
         HearsPulse s rate (Wave.levels sent.before) ((Wave.levels sent.during).take (16 * k + 10)) r low →
         s.agent.slot = some { code := 0x51#8, tag := tag } →
         (s.link.score.toNat + 16 < 128 →
           exec (.wakePulseFault sent) s =
             .next
               (completed .linkFailed []
                 { s with
                   link :=
                     { s.link with
                       score := s.link.score + 16#8
                       state := if fromAsleep then .asleep else .gap rate
                       receiver := r, receiverRate := rate, outsideLow := low }
                   agent :=
                     { s.agent with
                       flags :=
                         if 64 ≤ s.link.score.toNat + 16 then s.agent.flags ||| 0x0080#16 else s.agent.flags } })) ∧
         (128 ≤ s.link.score.toNat + 16 → s.link.score.toNat < 128 →
           exec (.wakePulseFault sent) s =
             .next
               (completed .linkFailed []
                 { s with
                   sched := { s.sched with queue := [], deferred := [] }
                   link :=
                     { s.link with
                       score := s.link.score + 16#8
                       state := .quarantine
                       hold := match s.link.line.policy with | .auto => s.link.line.qhold | .hold => 0#8
                       sampling := false
                       sleepFramePending := false
                       receiver := r, receiverRate := rate, outsideLow := low }
                   agent := { s.agent with flags := s.agent.flags ||| 0x0180#16 } }))))

/-- BRANCH_WAKE_DETECTED, on a branch line on which no wake came yet and on which a low of 150 microseconds to 10 ms,
begun outside a frame, now ends, be it one that began before the relay's own pulse (R145; the rows bring it so, log 19;
at the rate at which the branch has run since the last transaction or pulse, R3): BRANCH_WAKE in ASLEEP, WAKE_SETTLE,
IDLE, GAP and QUARANTINE, and the settle from ASLEEP; nothing in the other states, in LOOPBACK, or on any other line.
The branch receiver goes on from there. -/
def Obligations.NodeWakeByState : Prop :=
  ∀ (before : Wave) (low length : Nat) (s p : State), s.power = .running →
    p =
      { s with
        link :=
          { s.link with
            receiver := (s.link.receiver.hear .branch (before ++ [(false, low), (true, 1)])).1, outsideLow := none }
        agent := { s.agent with flags := s.agent.flags ||| 0x0400#16 } } →
      (s.link.mode = .normal → LowOutside s (Wave.levels before ++ List.replicate low false) length →
        WakeLong length → ¬ WakeOn s (Wave.levels before) →
          (s.link.state = .asleep →
            exec (.branchWakeDetected before low) s =
              .next { p with link := { p.link with state := .wakeSettle, settle := s.link.line.settleLen } }) ∧
          (s.link.state = .wakeSettle ∨ s.link.state = .idle ∨ (∃ rate, s.link.state = .gap rate) ∨
              s.link.state = .quarantine →
            exec (.branchWakeDetected before low) s = .next p)) ∧
      (s.link.state.inTransaction = true ∨ (∃ asleep steps rate, s.link.state = .wakeOut asleep steps rate) ∨
          s.link.mode = .loopback ∨ ¬ WakeOn s (Wave.levels (before ++ [(false, low), (true, 1)])) ∨
          WakeOn s (Wave.levels before) →
        exec (.branchWakeDetected before low) s = .next s)

/-- TEST_KEY: the sequence by its state and key, with the state after as result data; a third key enters LOOPBACK from
an IDLE link with an empty queue, where a low under way on the branch is heard no more (log 19), and is BAD_STATE
otherwise. TEST_EXIT: NORMAL and IDLE from LOOPBACK in IDLE or GAP, with the offer resumed and its item taken in the same
event (log 7); BUSY during a transaction; BAD_STATE in NORMAL. -/
def Obligations.LoopbackEntryAndExit : Prop :=
  (∀ (tag : Byte) (ops : Operands) (s : State), AcceptsRecord s →
     (ops[0] = 0x3C#8 →
       RecordAnswers 0x52#8 tag ops (.testKey tag) s
         { executed 0x52#8 tag .keyAccepted [1#8] s with
           agent := { (executed 0x52#8 tag .keyAccepted [1#8] s).agent with keyState := .key1 } }) ∧
     (s.agent.keyState = .key1 → ops[0] = 0xC3#8 →
       RecordAnswers 0x52#8 tag ops (.testKey tag) s
         { executed 0x52#8 tag .keyAccepted [2#8] s with
           agent := { (executed 0x52#8 tag .keyAccepted [2#8] s).agent with keyState := .key2 } }) ∧
     (ops[0] ≠ 0x3C#8 → ¬ (s.agent.keyState = .key1 ∧ ops[0] = 0xC3#8) →
       ¬ (s.agent.keyState = .key2 ∧ ops[0] = 0x5A#8) →
       RecordAnswers 0x52#8 tag ops (.testKey tag) s (executed 0x52#8 tag .keyRestart [0#8] s)) ∧
     (s.agent.keyState = .key2 → ops[0] = 0x5A#8 →
       (s.link.state = .idle → s.sched.queue = [] →
         RecordAnswers 0x52#8 tag ops (.testKey tag) s
           (executed 0x52#8 tag .done [0#8]
             { s with link := { s.link with mode := .loopback, outsideLow := none } })) ∧
       (s.link.state ≠ .idle ∨ s.sched.queue ≠ [] →
         RecordAnswers 0x52#8 tag ops (.testKey tag) s (executed 0x52#8 tag .badState [0#8] s)))) ∧
  (∀ (tag : Byte) (ops : Operands) (s : State), AcceptsRecord s →
     (s.link.mode = .normal →
        RecordAnswers 0x53#8 tag ops (.testExit tag) s (executed 0x53#8 tag .badState [] s)) ∧
     (s.link.mode = .loopback →
       (s.link.state = .idle ∨ (∃ rate, s.link.state = .gap rate) →
         RecordAnswers 0x53#8 tag ops (.testExit tag) s
           (executed 0x53#8 tag .done []
             ({ s with link := { s.link with mode := .normal, state := .idle } } : State).takeOffered)) ∧
       (s.link.state.inTransaction = true →
         RecordAnswers 0x53#8 tag ops (.testExit tag) s (executed 0x53#8 tag .busy [] s))))

/-! ## Configuration store (chapter 10) -/

/-- SAVE_CONFIG: BUSY while the edit bank is held; otherwise the snapshot of the active bank and the settings, SAVING,
PENDING, and an image that no longer matches its word. SAVE_COMPLETE, the verify's result its operand (log 26): a verify
that matches leaves the image holding the snapshot with its integrity word, VALID and DONE; one that does not leaves
INVALID, STORE_FAILED as flag and as outcome; either way the slot is freed. An image that a save has written is VALID to
every start that follows. -/
def Obligations.SaveConfigAndItsCompletion : Prop :=
  (∀ (tag : Byte) (ops : Operands) (s : State), AcceptsRecord s →
     (EditHeld s → RecordAnswers 0x60#8 tag ops (.saveConfig tag) s (executed 0x60#8 tag .busy [] s)) ∧
     (¬ EditHeld s →
       RecordAnswers 0x60#8 tag ops (.saveConfig tag) s
         { executedPending 0x60#8 tag s with
           config :=
             { s.config with
               image := .unmatched
               store :=
                 .saving
                   { bank := s.route.activeContents, line := s.link.line, tickPeriod := s.sched.tickPeriod,
                     order := s.sched.order }
                   s.route.commitCount } })) ∧
  (∀ (c : ImageContents) (count : Word16) (tag : Byte) (s : State), s.power = .running →
     s.config.store = .saving c count → s.agent.slot = some { code := 0x60#8, tag := tag } →
       exec (.saveComplete true) s =
           .next
             (completed .done
               [(crc16 c.bytes).extractLsb' 0 8, (crc16 c.bytes).extractLsb' 8 8, count.extractLsb' 0 8,
                 count.extractLsb' 8 8]
               { s with config := { s.config with image := .written c (crc16 c.bytes), store := .valid } }) ∧
         exec (.saveComplete false) s =
           .next
             (completed .storeFailed []
               { s with
                 config := { s.config with image := .unmatched, store := .invalid }
                 agent := { s.agent with flags := s.agent.flags ||| 0x0800#16 } })) ∧
  (∀ c : ImageContents, (Image.written c (crc16 c.bytes)).validContents = some c ∧ Image.unmatched.validContents = none)

/-- LOAD_CONFIG: BUSY while the edit bank is held, BAD_STATE with an INVALID store, otherwise LOADING and PENDING.
LOAD_COMPLETE: the image's table replaces the edit bank, its settings are written with the effects of SET_LINE, SET_TICK
and SET_ORDER, VALID, DONE with the image's integrity word, and nothing else: a transaction on the branch, and the rate
at which the branch runs, stay as they are. -/
def Obligations.LoadReplacesEditBank : Prop :=
  (∀ (tag : Byte) (ops : Operands) (s : State), AcceptsRecord s →
    (EditHeld s → RecordAnswers 0x61#8 tag ops (.loadConfig tag) s (executed 0x61#8 tag .busy [] s)) ∧
    (¬ EditHeld s → s.config.store = .invalid →
      RecordAnswers 0x61#8 tag ops (.loadConfig tag) s (executed 0x61#8 tag .badState [] s)) ∧
    (¬ EditHeld s → s.config.store = .valid →
      RecordAnswers 0x61#8 tag ops (.loadConfig tag) s
        { executedPending 0x61#8 tag s with config := { s.config with store := .loading } })) ∧
  ∀ (c : ImageContents) (word : Word16) (tag : Byte) (s : State), s.power = .running → s.config.store = .loading →
    s.config.image = .written c word → s.agent.slot = some { code := 0x61#8, tag := tag } →
      exec .loadComplete s =
        .next
          (completed .done [word.extractLsb' 0 8, word.extractLsb' 8 8]
            { s with
              route := s.route.setEdit c.bank
              sched := { s.sched with tickPeriod := c.tickPeriod, order := c.order }
              link :=
                if s.link.state = .quarantine ∧ s.link.line.policy ≠ c.line.policy then
                  { s.link with
                    line := c.line
                    hold := match c.line.policy with | .auto => c.line.qhold | .hold => 0#8
                    sampling := false }
                else { s.link with line := c.line }
              config := { s.config with store := .valid } })

/-! ## Relayed transactions on the trunk (chapters 3 and 7) -/

/-- RELAY_CHARACTER_RECEIVED, a good reply character (which they are: log 28) that the branch receiver hears on the line
of the row (log 24), at the rate of the transaction, before the reply window ends, with the time since the end of H1
counted on: it enters the branch check register and the received count; with the trunk side OPEN also the trunk check
register and the held characters; in LOOPBACK it is the responder's character. FORWARD_CHARACTER_HANDOFF: the first held
character leaves the held characters and is sent, or waits, in order, behind the one being sent; when it was the last
and the branch side has failed, nothing more will be handed. The end of forwarding, each character read back bit by bit
(how a row brings that line is log 27): the check byte read back counts RELAYED_OK and ends the trunk side; a collision
sets TRUNK_COLLISION and ends it, with what waits discarded; a data character finished begins the next one that waits,
and with none waiting ends it when nothing more will be handed, and otherwise leaves the transmitter idle; the context
goes when both sides have ended. The model's readings: what waits and what ends it (logs 10 and 11); in LOOPBACK the
responder's character comes in place of any the row brings (log 16). -/
def Obligations.RelayedCharactersReachTrunk : Prop :=
  (∀ (line : Wave) (b : Byte) (r : Receiver) (since : Nat) (t : Transaction) (i : EntryIndex) (x : RelayContext)
     (s : State),
     s.power = .running → s.link.state = .replyWait t → t.op = .relay i → s.link.relay = some x →
       x.received.length < x.entry.bytes →
       (s.link.mode = .normal ∧ s.hearReply x.entry.bytes line = (r, [.character (.good b)]) ∧
             since = s.link.sinceH1 +
               min (16 * (48 + 14 * (x.entry.bytes + 1)) - s.link.sinceH1) (Wave.levels line).length ∨
         ∃ reply, since = s.link.sinceH1 ∧ s.link.mode = .loopback ∧ s.link.responder = some reply ∧
           b = reply.getD x.received.length 0#8 ∧
           r = (s.link.receiver.hearLevels .branch (sixteenths (characterLevels b))).1) →
         exec (.relayCharacterReceived line) s =
           .next
             { s with
               link :=
                 { s.link with
                   receiver := r
                   receiverRate := t.rate
                   sinceH1 := since
                   outsideLow := none
                   relay :=
                     some
                       { x with
                         branchCheck := crc8Byte x.branchCheck b
                         received := x.received ++ [b]
                         trunkSide :=
                           match x.trunkSide with
                           | .stillOpen check held => .stillOpen (crc8Byte check b) (held ++ [.data b])
                           | .ended => .ended } } }) ∧
  (∀ (sending : Option ForwardChar) (waiting : List ForwardChar) (more : Bool) (check : Byte) (c : ForwardChar)
     (rest : List ForwardChar) (x : RelayContext) (s : State), s.power = .running →
     s.trunk.port = .forward sending waiting more → s.link.relay = some x → x.trunkSide = .stillOpen check (c :: rest) →
       exec .forwardCharacterHandoff s =
         .next
           { s with
             link := { s.link with relay := some { x with trunkSide := .stillOpen check rest } }
             trunk :=
               { s.trunk with
                 port :=
                   .forward (some (sending.getD c)) (if sending = none then waiting else waiting ++ [c])
                     (more ||
                       decide (rest = [] ∧ x.branchSide ≠ .stillOpen ∧ x.branchSide ≠ .ended (some .success))) } }) ∧
  (∀ (c : ForwardChar) (waiting : List ForwardChar) (more : Bool) (x : RelayContext) (sent : Transmission)
     (r : Receiver) (s p : State), s.power = .running →
     s.trunk.port = .forward (some c) waiting more → s.link.relay = some x →
     p =
       { s with
         trunk := { s.trunk with port := .passive, receiver := r }
         link :=
           { s.link with
             relay := if x.branchSide = .stillOpen then some { x with trunkSide := .ended } else none } } →
       (∀ k, Collides s [c.value] sent k r →
         exec (.trunkForwardBitError sent) s =
           .next { p with agent := { s.agent with flags := s.agent.flags ||| 0x0002#16 } }) ∧
       (∀ events, ReadsBack (characterLevels c.value) sent →
         s.trunk.receiver.hearSent .trunk (characterLevels c.value) sent = (r, events) → RxEvent.lineBreak ∉ events →
           (∀ b, c = .check b →
             exec (.relayTrunkComplete sent) s =
               .next
                 { p with
                   agent :=
                     { s.agent with
                       counters := { s.agent.counters with relayedOk := satSucc s.agent.counters.relayedOk } } }) ∧
           (∀ b d rest, c = .data b → waiting = d :: rest →
             exec (.forwardedCharacterFinished sent) s =
               .next { s with trunk := { s.trunk with port := .forward (some d) rest more, receiver := r } }) ∧
           (∀ b, c = .data b → waiting = [] → more = true → exec (.forwardedCharacterFinished sent) s = .next p) ∧
           (∀ b, c = .data b → waiting = [] → more = false →
             exec (.forwardedCharacterFinished sent) s =
               .next { s with trunk := { s.trunk with port := .forward none [] false, receiver := r } })))

/-! ## Invariants -/

/-- The state after reset satisfies every invariant. -/
def Obligations.ResetSatisfiesInvariants : Prop :=
  Inv State.reset

/-- Every step keeps the queue well formed: at most 16 items, no entry twice, no entry both queued and deferred, and
deferred elements only behind a full queue. -/
def Obligations.StepKeepsQueueWellFormed : Prop :=
  ∀ s s' : State, s.sched.Wf → step s = .next s' → s'.sched.Wf

/-- Every step keeps RESULT, the slot, the pending commit and the store state in agreement. -/
def Obligations.StepKeepsSlotAndResult : Prop :=
  ∀ s s' : State, SlotInv s → step s = .next s' → SlotInv s'

/-- Every step keeps every entry of the banks, the image and a save's snapshot within its encoding. -/
def Obligations.StepKeepsEntriesEncodable : Prop :=
  ∀ s s' : State, EncodableInv s → step s = .next s' → EncodableInv s'

/-- Every step keeps all invariants together: among them that every record with PENDING set has its entry in the branch
queue, in the deferred set or in the in-flight transaction, except in QUARANTINE, and that a record that is not EMPTY
fits its active entry, and that the branch receiver runs at the rate of what is on the branch (R3). -/
def Obligations.StepKeepsPendingPublicationsOwed : Prop :=
  ∀ s s' : State, Inv s → step s = .next s' → Inv s'
end

