-- ==== Sys2Proof/Laws/State.lean ====
section
/-! SUPPORT. Laws/State.lean: what each update of the state does to each of its fields, and what the accessors read
after it. All of them true by unfolding once, so that no later proof unfolds a record update. -/

namespace Sys2Proof.Machine

/-! ## mapRoute -/

@[simp] theorem State.mapRoute_power (f : RouteTable → RouteTable) (s : State) : (s.mapRoute f).power = s.power :=
  rfl
@[simp] theorem State.mapRoute_route (f : RouteTable → RouteTable) (s : State) : (s.mapRoute f).route = f s.route :=
  rfl
@[simp] theorem State.mapRoute_store (f : RouteTable → RouteTable) (s : State) : (s.mapRoute f).store = s.store :=
  rfl
@[simp] theorem State.mapRoute_sched (f : RouteTable → RouteTable) (s : State) : (s.mapRoute f).sched = s.sched :=
  rfl
@[simp] theorem State.mapRoute_link (f : RouteTable → RouteTable) (s : State) : (s.mapRoute f).link = s.link :=
  rfl
@[simp] theorem State.mapRoute_trunk (f : RouteTable → RouteTable) (s : State) : (s.mapRoute f).trunk = s.trunk :=
  rfl
@[simp] theorem State.mapRoute_agent (f : RouteTable → RouteTable) (s : State) : (s.mapRoute f).agent = s.agent :=
  rfl
@[simp] theorem State.mapRoute_config (f : RouteTable → RouteTable) (s : State) : (s.mapRoute f).config = s.config :=
  rfl
@[simp] theorem State.mapRoute_pending (f : RouteTable → RouteTable) (s : State) : (s.mapRoute f).pending = s.pending :=
  rfl

/-! ## mapStore -/

@[simp] theorem State.mapStore_power (f : RecordStore → RecordStore) (s : State) : (s.mapStore f).power = s.power :=
  rfl
@[simp] theorem State.mapStore_route (f : RecordStore → RecordStore) (s : State) : (s.mapStore f).route = s.route :=
  rfl
@[simp] theorem State.mapStore_store (f : RecordStore → RecordStore) (s : State) : (s.mapStore f).store = f s.store :=
  rfl
@[simp] theorem State.mapStore_sched (f : RecordStore → RecordStore) (s : State) : (s.mapStore f).sched = s.sched :=
  rfl
@[simp] theorem State.mapStore_link (f : RecordStore → RecordStore) (s : State) : (s.mapStore f).link = s.link :=
  rfl
@[simp] theorem State.mapStore_trunk (f : RecordStore → RecordStore) (s : State) : (s.mapStore f).trunk = s.trunk :=
  rfl
@[simp] theorem State.mapStore_agent (f : RecordStore → RecordStore) (s : State) : (s.mapStore f).agent = s.agent :=
  rfl
@[simp] theorem State.mapStore_config (f : RecordStore → RecordStore) (s : State) : (s.mapStore f).config = s.config :=
  rfl
@[simp] theorem State.mapStore_pending (f : RecordStore → RecordStore) (s : State) : (s.mapStore f).pending = s.pending :=
  rfl

/-! ## mapSched -/

@[simp] theorem State.mapSched_power (f : Scheduler → Scheduler) (s : State) : (s.mapSched f).power = s.power :=
  rfl
@[simp] theorem State.mapSched_route (f : Scheduler → Scheduler) (s : State) : (s.mapSched f).route = s.route :=
  rfl
@[simp] theorem State.mapSched_store (f : Scheduler → Scheduler) (s : State) : (s.mapSched f).store = s.store :=
  rfl
@[simp] theorem State.mapSched_sched (f : Scheduler → Scheduler) (s : State) : (s.mapSched f).sched = f s.sched :=
  rfl
@[simp] theorem State.mapSched_link (f : Scheduler → Scheduler) (s : State) : (s.mapSched f).link = s.link :=
  rfl
@[simp] theorem State.mapSched_trunk (f : Scheduler → Scheduler) (s : State) : (s.mapSched f).trunk = s.trunk :=
  rfl
@[simp] theorem State.mapSched_agent (f : Scheduler → Scheduler) (s : State) : (s.mapSched f).agent = s.agent :=
  rfl
@[simp] theorem State.mapSched_config (f : Scheduler → Scheduler) (s : State) : (s.mapSched f).config = s.config :=
  rfl
@[simp] theorem State.mapSched_pending (f : Scheduler → Scheduler) (s : State) : (s.mapSched f).pending = s.pending :=
  rfl

/-! ## mapLink -/

@[simp] theorem State.mapLink_power (f : LinkController → LinkController) (s : State) : (s.mapLink f).power = s.power :=
  rfl
@[simp] theorem State.mapLink_route (f : LinkController → LinkController) (s : State) : (s.mapLink f).route = s.route :=
  rfl
@[simp] theorem State.mapLink_store (f : LinkController → LinkController) (s : State) : (s.mapLink f).store = s.store :=
  rfl
@[simp] theorem State.mapLink_sched (f : LinkController → LinkController) (s : State) : (s.mapLink f).sched = s.sched :=
  rfl
@[simp] theorem State.mapLink_link (f : LinkController → LinkController) (s : State) : (s.mapLink f).link = f s.link :=
  rfl
@[simp] theorem State.mapLink_trunk (f : LinkController → LinkController) (s : State) : (s.mapLink f).trunk = s.trunk :=
  rfl
@[simp] theorem State.mapLink_agent (f : LinkController → LinkController) (s : State) : (s.mapLink f).agent = s.agent :=
  rfl
@[simp] theorem State.mapLink_config (f : LinkController → LinkController) (s : State) : (s.mapLink f).config = s.config :=
  rfl
@[simp] theorem State.mapLink_pending (f : LinkController → LinkController) (s : State) : (s.mapLink f).pending = s.pending :=
  rfl

/-! ## mapTrunk -/

@[simp] theorem State.mapTrunk_power (f : TrunkPort → TrunkPort) (s : State) : (s.mapTrunk f).power = s.power :=
  rfl
@[simp] theorem State.mapTrunk_route (f : TrunkPort → TrunkPort) (s : State) : (s.mapTrunk f).route = s.route :=
  rfl
@[simp] theorem State.mapTrunk_store (f : TrunkPort → TrunkPort) (s : State) : (s.mapTrunk f).store = s.store :=
  rfl
@[simp] theorem State.mapTrunk_sched (f : TrunkPort → TrunkPort) (s : State) : (s.mapTrunk f).sched = s.sched :=
  rfl
@[simp] theorem State.mapTrunk_link (f : TrunkPort → TrunkPort) (s : State) : (s.mapTrunk f).link = s.link :=
  rfl
@[simp] theorem State.mapTrunk_trunk (f : TrunkPort → TrunkPort) (s : State) : (s.mapTrunk f).trunk = f s.trunk :=
  rfl
@[simp] theorem State.mapTrunk_agent (f : TrunkPort → TrunkPort) (s : State) : (s.mapTrunk f).agent = s.agent :=
  rfl
@[simp] theorem State.mapTrunk_config (f : TrunkPort → TrunkPort) (s : State) : (s.mapTrunk f).config = s.config :=
  rfl
@[simp] theorem State.mapTrunk_pending (f : TrunkPort → TrunkPort) (s : State) : (s.mapTrunk f).pending = s.pending :=
  rfl

/-! ## mapAgent -/

@[simp] theorem State.mapAgent_power (f : Agent → Agent) (s : State) : (s.mapAgent f).power = s.power :=
  rfl
@[simp] theorem State.mapAgent_route (f : Agent → Agent) (s : State) : (s.mapAgent f).route = s.route :=
  rfl
@[simp] theorem State.mapAgent_store (f : Agent → Agent) (s : State) : (s.mapAgent f).store = s.store :=
  rfl
@[simp] theorem State.mapAgent_sched (f : Agent → Agent) (s : State) : (s.mapAgent f).sched = s.sched :=
  rfl
@[simp] theorem State.mapAgent_link (f : Agent → Agent) (s : State) : (s.mapAgent f).link = s.link :=
  rfl
@[simp] theorem State.mapAgent_trunk (f : Agent → Agent) (s : State) : (s.mapAgent f).trunk = s.trunk :=
  rfl
@[simp] theorem State.mapAgent_agent (f : Agent → Agent) (s : State) : (s.mapAgent f).agent = f s.agent :=
  rfl
@[simp] theorem State.mapAgent_config (f : Agent → Agent) (s : State) : (s.mapAgent f).config = s.config :=
  rfl
@[simp] theorem State.mapAgent_pending (f : Agent → Agent) (s : State) : (s.mapAgent f).pending = s.pending :=
  rfl

/-! ## mapConfig -/

@[simp] theorem State.mapConfig_power (f : ConfigStore → ConfigStore) (s : State) : (s.mapConfig f).power = s.power :=
  rfl
@[simp] theorem State.mapConfig_route (f : ConfigStore → ConfigStore) (s : State) : (s.mapConfig f).route = s.route :=
  rfl
@[simp] theorem State.mapConfig_store (f : ConfigStore → ConfigStore) (s : State) : (s.mapConfig f).store = s.store :=
  rfl
@[simp] theorem State.mapConfig_sched (f : ConfigStore → ConfigStore) (s : State) : (s.mapConfig f).sched = s.sched :=
  rfl
@[simp] theorem State.mapConfig_link (f : ConfigStore → ConfigStore) (s : State) : (s.mapConfig f).link = s.link :=
  rfl
@[simp] theorem State.mapConfig_trunk (f : ConfigStore → ConfigStore) (s : State) : (s.mapConfig f).trunk = s.trunk :=
  rfl
@[simp] theorem State.mapConfig_agent (f : ConfigStore → ConfigStore) (s : State) : (s.mapConfig f).agent = s.agent :=
  rfl
@[simp] theorem State.mapConfig_config (f : ConfigStore → ConfigStore) (s : State) : (s.mapConfig f).config = f s.config :=
  rfl
@[simp] theorem State.mapConfig_pending (f : ConfigStore → ConfigStore) (s : State) : (s.mapConfig f).pending = s.pending :=
  rfl

/-! ## setPower -/

@[simp] theorem State.setPower_power (p : Power) (s : State) : (s.setPower p).power = p :=
  rfl
@[simp] theorem State.setPower_route (p : Power) (s : State) : (s.setPower p).route = s.route :=
  rfl
@[simp] theorem State.setPower_store (p : Power) (s : State) : (s.setPower p).store = s.store :=
  rfl
@[simp] theorem State.setPower_sched (p : Power) (s : State) : (s.setPower p).sched = s.sched :=
  rfl
@[simp] theorem State.setPower_link (p : Power) (s : State) : (s.setPower p).link = s.link :=
  rfl
@[simp] theorem State.setPower_trunk (p : Power) (s : State) : (s.setPower p).trunk = s.trunk :=
  rfl
@[simp] theorem State.setPower_agent (p : Power) (s : State) : (s.setPower p).agent = s.agent :=
  rfl
@[simp] theorem State.setPower_config (p : Power) (s : State) : (s.setPower p).config = s.config :=
  rfl
@[simp] theorem State.setPower_pending (p : Power) (s : State) : (s.setPower p).pending = s.pending :=
  rfl

/-! ## setPending -/

@[simp] theorem State.setPending_power (q : List Instr) (s : State) : (s.setPending q).power = s.power :=
  rfl
@[simp] theorem State.setPending_route (q : List Instr) (s : State) : (s.setPending q).route = s.route :=
  rfl
@[simp] theorem State.setPending_store (q : List Instr) (s : State) : (s.setPending q).store = s.store :=
  rfl
@[simp] theorem State.setPending_sched (q : List Instr) (s : State) : (s.setPending q).sched = s.sched :=
  rfl
@[simp] theorem State.setPending_link (q : List Instr) (s : State) : (s.setPending q).link = s.link :=
  rfl
@[simp] theorem State.setPending_trunk (q : List Instr) (s : State) : (s.setPending q).trunk = s.trunk :=
  rfl
@[simp] theorem State.setPending_agent (q : List Instr) (s : State) : (s.setPending q).agent = s.agent :=
  rfl
@[simp] theorem State.setPending_config (q : List Instr) (s : State) : (s.setPending q).config = s.config :=
  rfl
@[simp] theorem State.setPending_pending (q : List Instr) (s : State) : (s.setPending q).pending = q :=
  rfl

/-! ## setPort -/

@[simp] theorem State.setPort_power (p : PortState) (s : State) : (s.setPort p).power = s.power := rfl
@[simp] theorem State.setPort_route (p : PortState) (s : State) : (s.setPort p).route = s.route := rfl
@[simp] theorem State.setPort_store (p : PortState) (s : State) : (s.setPort p).store = s.store := rfl
@[simp] theorem State.setPort_sched (p : PortState) (s : State) : (s.setPort p).sched = s.sched := rfl
@[simp] theorem State.setPort_link (p : PortState) (s : State) : (s.setPort p).link = s.link := rfl
@[simp] theorem State.setPort_trunk (p : PortState) (s : State) :
    (s.setPort p).trunk = { s.trunk with port := p } := rfl
@[simp] theorem State.setPort_agent (p : PortState) (s : State) : (s.setPort p).agent = s.agent := rfl
@[simp] theorem State.setPort_config (p : PortState) (s : State) : (s.setPort p).config = s.config := rfl
@[simp] theorem State.setPort_pending (p : PortState) (s : State) : (s.setPort p).pending = s.pending := rfl

/-! ## setLinkState -/

@[simp] theorem State.setLinkState_power (l : LinkState) (s : State) : (s.setLinkState l).power = s.power := rfl
@[simp] theorem State.setLinkState_route (l : LinkState) (s : State) : (s.setLinkState l).route = s.route := rfl
@[simp] theorem State.setLinkState_store (l : LinkState) (s : State) : (s.setLinkState l).store = s.store := rfl
@[simp] theorem State.setLinkState_sched (l : LinkState) (s : State) : (s.setLinkState l).sched = s.sched := rfl
@[simp] theorem State.setLinkState_link (l : LinkState) (s : State) :
    (s.setLinkState l).link = { s.link with state := l } := rfl
@[simp] theorem State.setLinkState_trunk (l : LinkState) (s : State) : (s.setLinkState l).trunk = s.trunk := rfl
@[simp] theorem State.setLinkState_agent (l : LinkState) (s : State) : (s.setLinkState l).agent = s.agent := rfl
@[simp] theorem State.setLinkState_config (l : LinkState) (s : State) : (s.setLinkState l).config = s.config := rfl
@[simp] theorem State.setLinkState_pending (l : LinkState) (s : State) : (s.setLinkState l).pending = s.pending := rfl

/-! ## setRelay -/

@[simp] theorem State.setRelay_power (r : Option RelayContext) (s : State) : (s.setRelay r).power = s.power := rfl
@[simp] theorem State.setRelay_route (r : Option RelayContext) (s : State) : (s.setRelay r).route = s.route := rfl
@[simp] theorem State.setRelay_store (r : Option RelayContext) (s : State) : (s.setRelay r).store = s.store := rfl
@[simp] theorem State.setRelay_sched (r : Option RelayContext) (s : State) : (s.setRelay r).sched = s.sched := rfl
@[simp] theorem State.setRelay_link (r : Option RelayContext) (s : State) :
    (s.setRelay r).link = { s.link with relay := r } := rfl
@[simp] theorem State.setRelay_trunk (r : Option RelayContext) (s : State) : (s.setRelay r).trunk = s.trunk := rfl
@[simp] theorem State.setRelay_agent (r : Option RelayContext) (s : State) : (s.setRelay r).agent = s.agent := rfl
@[simp] theorem State.setRelay_config (r : Option RelayContext) (s : State) : (s.setRelay r).config = s.config := rfl
@[simp] theorem State.setRelay_pending (r : Option RelayContext) (s : State) : (s.setRelay r).pending = s.pending := rfl

/-! ## setFlag -/

@[simp] theorem State.setFlag_power (f : Flag) (s : State) : (s.setFlag f).power = s.power := rfl
@[simp] theorem State.setFlag_route (f : Flag) (s : State) : (s.setFlag f).route = s.route := rfl
@[simp] theorem State.setFlag_store (f : Flag) (s : State) : (s.setFlag f).store = s.store := rfl
@[simp] theorem State.setFlag_sched (f : Flag) (s : State) : (s.setFlag f).sched = s.sched := rfl
@[simp] theorem State.setFlag_link (f : Flag) (s : State) : (s.setFlag f).link = s.link := rfl
@[simp] theorem State.setFlag_trunk (f : Flag) (s : State) : (s.setFlag f).trunk = s.trunk := rfl
@[simp] theorem State.setFlag_agent (f : Flag) (s : State) :
    (s.setFlag f).agent = { s.agent with flags := s.agent.flags ||| f.mask } := rfl
@[simp] theorem State.setFlag_config (f : Flag) (s : State) : (s.setFlag f).config = s.config := rfl
@[simp] theorem State.setFlag_pending (f : Flag) (s : State) : (s.setFlag f).pending = s.pending := rfl

/-! ## count -/

@[simp] theorem State.count_power (c : Counter) (s : State) : (s.count c).power = s.power := rfl
@[simp] theorem State.count_route (c : Counter) (s : State) : (s.count c).route = s.route := rfl
@[simp] theorem State.count_store (c : Counter) (s : State) : (s.count c).store = s.store := rfl
@[simp] theorem State.count_sched (c : Counter) (s : State) : (s.count c).sched = s.sched := rfl
@[simp] theorem State.count_link (c : Counter) (s : State) : (s.count c).link = s.link := rfl
@[simp] theorem State.count_trunk (c : Counter) (s : State) : (s.count c).trunk = s.trunk := rfl
@[simp] theorem State.count_agent (c : Counter) (s : State) :
    (s.count c).agent = { s.agent with counters := s.agent.counters.raise c } := rfl
@[simp] theorem State.count_config (c : Counter) (s : State) : (s.count c).config = s.config := rfl
@[simp] theorem State.count_pending (c : Counter) (s : State) : (s.count c).pending = s.pending := rfl

/-! ## setRecord -/

@[simp] theorem State.setRecord_power (i : EntryIndex) (r : Record) (s : State) :
    (s.setRecord i r).power = s.power := rfl
@[simp] theorem State.setRecord_route (i : EntryIndex) (r : Record) (s : State) :
    (s.setRecord i r).route = s.route := rfl
@[simp] theorem State.setRecord_store (i : EntryIndex) (r : Record) (s : State) :
    (s.setRecord i r).store = { s.store with records := s.store.records.set i.val r i.isLt } := rfl
@[simp] theorem State.setRecord_sched (i : EntryIndex) (r : Record) (s : State) :
    (s.setRecord i r).sched = s.sched := rfl
@[simp] theorem State.setRecord_link (i : EntryIndex) (r : Record) (s : State) :
    (s.setRecord i r).link = s.link := rfl
@[simp] theorem State.setRecord_trunk (i : EntryIndex) (r : Record) (s : State) :
    (s.setRecord i r).trunk = s.trunk := rfl
@[simp] theorem State.setRecord_agent (i : EntryIndex) (r : Record) (s : State) :
    (s.setRecord i r).agent = s.agent := rfl
@[simp] theorem State.setRecord_config (i : EntryIndex) (r : Record) (s : State) :
    (s.setRecord i r).config = s.config := rfl
@[simp] theorem State.setRecord_pending (i : EntryIndex) (r : Record) (s : State) :
    (s.setRecord i r).pending = s.pending := rfl

/-! ## setCountdown -/

@[simp] theorem State.setCountdown_power (i : EntryIndex) (v : Byte) (s : State) :
    (s.setCountdown i v).power = s.power := rfl
@[simp] theorem State.setCountdown_route (i : EntryIndex) (v : Byte) (s : State) :
    (s.setCountdown i v).route = s.route := rfl
@[simp] theorem State.setCountdown_store (i : EntryIndex) (v : Byte) (s : State) :
    (s.setCountdown i v).store = s.store := rfl
@[simp] theorem State.setCountdown_sched (i : EntryIndex) (v : Byte) (s : State) :
    (s.setCountdown i v).sched = { s.sched with countdowns := s.sched.countdowns.set i.val v i.isLt } := rfl
@[simp] theorem State.setCountdown_link (i : EntryIndex) (v : Byte) (s : State) :
    (s.setCountdown i v).link = s.link := rfl
@[simp] theorem State.setCountdown_trunk (i : EntryIndex) (v : Byte) (s : State) :
    (s.setCountdown i v).trunk = s.trunk := rfl
@[simp] theorem State.setCountdown_agent (i : EntryIndex) (v : Byte) (s : State) :
    (s.setCountdown i v).agent = s.agent := rfl
@[simp] theorem State.setCountdown_config (i : EntryIndex) (v : Byte) (s : State) :
    (s.setCountdown i v).config = s.config := rfl
@[simp] theorem State.setCountdown_pending (i : EntryIndex) (v : Byte) (s : State) :
    (s.setCountdown i v).pending = s.pending := rfl

/-! ## mapRecords -/

@[simp] theorem State.mapRecords_power (f : EntryIndex → Record → Record) (s : State) :
    (s.mapRecords f).power = s.power := by
  rw [State.mapRecords, State.mapStore_power]
@[simp] theorem State.mapRecords_route (f : EntryIndex → Record → Record) (s : State) :
    (s.mapRecords f).route = s.route := by
  rw [State.mapRecords, State.mapStore_route]
@[simp] theorem State.mapRecords_store (f : EntryIndex → Record → Record) (s : State) :
    (s.mapRecords f).store = { s.store with records := Vector.ofFn fun i => f i (s.store.records.get i) } := by
  rw [State.mapRecords, State.mapStore_store]
@[simp] theorem State.mapRecords_sched (f : EntryIndex → Record → Record) (s : State) :
    (s.mapRecords f).sched = s.sched := by
  rw [State.mapRecords, State.mapStore_sched]
@[simp] theorem State.mapRecords_link (f : EntryIndex → Record → Record) (s : State) :
    (s.mapRecords f).link = s.link := by
  rw [State.mapRecords, State.mapStore_link]
@[simp] theorem State.mapRecords_trunk (f : EntryIndex → Record → Record) (s : State) :
    (s.mapRecords f).trunk = s.trunk := by
  rw [State.mapRecords, State.mapStore_trunk]
@[simp] theorem State.mapRecords_agent (f : EntryIndex → Record → Record) (s : State) :
    (s.mapRecords f).agent = s.agent := by
  rw [State.mapRecords, State.mapStore_agent]
@[simp] theorem State.mapRecords_config (f : EntryIndex → Record → Record) (s : State) :
    (s.mapRecords f).config = s.config := by
  rw [State.mapRecords, State.mapStore_config]
@[simp] theorem State.mapRecords_pending (f : EntryIndex → Record → Record) (s : State) :
    (s.mapRecords f).pending = s.pending := by
  rw [State.mapRecords, State.mapStore_pending]

/-! ## Running -/

theorem State.isRunning_iff (s : State) : s.isRunning = true ↔ s.power = .running := by
  unfold State.isRunning
  cases s.power <;> simp

theorem State.isRunning_congr {s t : State} (h : t.power = s.power) : t.isRunning = s.isRunning := by
  simp [State.isRunning, h]

/-! ## Records and countdowns read back -/

theorem State.record_congr {s t : State} (h : t.store = s.store) (i : EntryIndex) : t.record i = s.record i := by
  simp [State.record, h]

theorem State.countdown_congr {s t : State} (h : t.sched = s.sched) (i : EntryIndex) : t.countdown i = s.countdown i := by
  simp [State.countdown, h]

theorem State.activeEntry_congr {s t : State} (h : t.route = s.route) (i : EntryIndex) :
    t.activeEntry i = s.activeEntry i := by
  simp [State.activeEntry, h]

@[simp] theorem State.record_setRecord_self (i : EntryIndex) (r : Record) (s : State) : (s.setRecord i r).record i = r := by
  simp [State.record, Vector.get_eq_getElem]

@[simp] theorem State.record_setRecord_of_ne {i j : EntryIndex} (h : i ≠ j) (r : Record) (s : State) :
    (s.setRecord i r).record j = s.record j := by
  have h' : i.val ≠ j.val := fun e => h (Fin.ext e)
  simp [State.record, Vector.get_eq_getElem, Vector.getElem_set_ne, h']

@[simp] theorem State.record_mapRecords (f : EntryIndex → Record → Record) (s : State) (i : EntryIndex) :
    (s.mapRecords f).record i = f i (s.record i) := by
  simp [State.record, Vector.get_eq_getElem]

@[simp] theorem State.countdown_setCountdown_self (i : EntryIndex) (v : Byte) (s : State) :
    (s.setCountdown i v).countdown i = v := by
  simp [State.countdown, Vector.get_eq_getElem]

@[simp] theorem State.countdown_setCountdown_of_ne {i j : EntryIndex} (h : i ≠ j) (v : Byte) (s : State) :
    (s.setCountdown i v).countdown j = s.countdown j := by
  have h' : i.val ≠ j.val := fun e => h (Fin.ext e)
  simp [State.countdown, Vector.get_eq_getElem, Vector.getElem_set_ne, h']

/-! ## Flags read back -/

theorem Flag.bit_lt (f : Flag) : f.bit < 16 := by
  cases f <;> decide

theorem Flag.bit_injective {f g : Flag} (h : f.bit = g.bit) : f = g := by
  cases f <;> cases g <;> first | rfl | (exact absurd h (by decide))

@[simp] theorem State.flag_setFlag_self (f : Flag) (s : State) : (s.setFlag f).flag f = true := by
  have h := f.bit_lt
  simp [State.flag, Flag.mask, h]

theorem State.flag_setFlag_of_ne {f g : Flag} (h : f ≠ g) (s : State) : (s.setFlag f).flag g = s.flag g := by
  cases f <;> cases g <;> first | (exact absurd rfl h) | simp [State.flag, Flag.mask, Flag.bit]

/-! ## setReceiver -/

@[simp] theorem State.setReceiver_power (r : Receiver) (s : State) : (s.setReceiver r).power = s.power := rfl
@[simp] theorem State.setReceiver_route (r : Receiver) (s : State) : (s.setReceiver r).route = s.route := rfl
@[simp] theorem State.setReceiver_store (r : Receiver) (s : State) : (s.setReceiver r).store = s.store := rfl
@[simp] theorem State.setReceiver_sched (r : Receiver) (s : State) : (s.setReceiver r).sched = s.sched := rfl
@[simp] theorem State.setReceiver_link (r : Receiver) (s : State) : (s.setReceiver r).link = s.link := rfl
@[simp] theorem State.setReceiver_trunk (r : Receiver) (s : State) :
    (s.setReceiver r).trunk = { s.trunk with receiver := r } := rfl
@[simp] theorem State.setReceiver_agent (r : Receiver) (s : State) : (s.setReceiver r).agent = s.agent := rfl
@[simp] theorem State.setReceiver_config (r : Receiver) (s : State) : (s.setReceiver r).config = s.config := rfl
@[simp] theorem State.setReceiver_pending (r : Receiver) (s : State) : (s.setReceiver r).pending = s.pending := rfl

/-! ## setBranchReceiver -/

@[simp] theorem State.setBranchReceiver_power (r : Receiver) (s : State) :
    (s.setBranchReceiver r).power = s.power :=
  rfl
@[simp] theorem State.setBranchReceiver_route (r : Receiver) (s : State) :
    (s.setBranchReceiver r).route = s.route :=
  rfl
@[simp] theorem State.setBranchReceiver_store (r : Receiver) (s : State) :
    (s.setBranchReceiver r).store = s.store :=
  rfl
@[simp] theorem State.setBranchReceiver_sched (r : Receiver) (s : State) :
    (s.setBranchReceiver r).sched = s.sched :=
  rfl
@[simp] theorem State.setBranchReceiver_link (r : Receiver) (s : State) :
    (s.setBranchReceiver r).link =
      { s.link with receiver := r, receiverRate := s.link.branchRate, outsideLow := none } :=
  rfl
@[simp] theorem State.setBranchReceiver_trunk (r : Receiver) (s : State) :
    (s.setBranchReceiver r).trunk = s.trunk :=
  rfl
@[simp] theorem State.setBranchReceiver_agent (r : Receiver) (s : State) :
    (s.setBranchReceiver r).agent = s.agent :=
  rfl
@[simp] theorem State.setBranchReceiver_config (r : Receiver) (s : State) :
    (s.setBranchReceiver r).config = s.config :=
  rfl
@[simp] theorem State.setBranchReceiver_pending (r : Receiver) (s : State) :
    (s.setBranchReceiver r).pending = s.pending :=
  rfl

/-! ## hearFrame -/

@[simp] theorem State.hearFrame_power (before during : List Bool) (s : State) :
    (s.hearFrame before during).power = s.power :=
  rfl
@[simp] theorem State.hearFrame_route (before during : List Bool) (s : State) :
    (s.hearFrame before during).route = s.route :=
  rfl
@[simp] theorem State.hearFrame_store (before during : List Bool) (s : State) :
    (s.hearFrame before during).store = s.store :=
  rfl
@[simp] theorem State.hearFrame_sched (before during : List Bool) (s : State) :
    (s.hearFrame before during).sched = s.sched :=
  rfl
@[simp] theorem State.hearFrame_trunk (before during : List Bool) (s : State) :
    (s.hearFrame before during).trunk = s.trunk :=
  rfl
@[simp] theorem State.hearFrame_agent (before during : List Bool) (s : State) :
    (s.hearFrame before during).agent = s.agent :=
  rfl
@[simp] theorem State.hearFrame_config (before during : List Bool) (s : State) :
    (s.hearFrame before during).config = s.config :=
  rfl
@[simp] theorem State.hearFrame_pending (before during : List Bool) (s : State) :
    (s.hearFrame before during).pending = s.pending :=
  rfl
@[simp] theorem State.hearFrame_link (before during : List Bool) (s : State) :
    (s.hearFrame before during).link =
      { s.link with
        receiver :=
          (((s.link.receiver.hearLevels .branch before).1.atRate s.link.receiverRate s.link.branchRate).hearLevels .branch
            during).1
        receiverRate := s.link.branchRate
        outsideLow := none } :=
  rfl

/-! ## The rate at which the branch runs -/

@[simp] theorem Receiver.atRate_same (rate : RateCode) (r : Receiver) : r.atRate rate rate = r := by
  simp [Receiver.atRate]

theorem LinkController.branchRate_of_governing {c : LinkController} {rate : RateCode}
    (h : c.state.governingRate = some rate) : c.branchRate = rate := by
  simp [LinkController.branchRate, h]

theorem LinkController.branchRate_of_none {c : LinkController} (h : c.state.governingRate = none) :
    c.branchRate = c.receiverRate := by
  simp [LinkController.branchRate, h]

end Sys2Proof.Machine
end

