-- ==== Sys2Proof/Laws/Commuting.lean ====
section
/-! SUPPORT. Laws/Commuting.lean: operations that touch different parts of the state come in either order: taking a COMMAND
record (the port, the test key state) with requests, taking an item, the re-offer and the removal of work; and a second
write of one record replaces the first. -/

namespace Sys2Proof.Machine

/-- A second write of a record replaces the first. -/
@[simp] theorem State.setRecord_setRecord_self (i : EntryIndex) (a b : Record) (s : State) :
    (s.setRecord i a).setRecord i b = s.setRecord i b := by
  simp [State.setRecord, State.mapStore]

/-- Changing one record among all is a write of that record. -/
theorem State.mapRecords_one (i : EntryIndex) (f : Record → Record) (s : State) :
    (s.mapRecords fun j r => if j == i then f r else r) = s.setRecord i (f (s.record i)) := by
  have h : (Vector.ofFn fun j => if (j == i) = true then f (s.store.records.get j) else s.store.records.get j) =
      s.store.records.set i.val (f (s.record i)) i.isLt := by
    apply Vector.ext
    intro k hk
    by_cases hki : i.val = k
    · simp [State.record, Vector.get_eq_getElem, ← hki]
    · simp [Vector.get_eq_getElem, Fin.ext_iff, hki, Ne.symm hki]
  rw [State.mapRecords, State.setRecord, State.mapStore, State.mapStore, h]

theorem State.mapRecords_receiveRecord (f : EntryIndex → Record → Record) (s : State) :
    s.receiveRecord.mapRecords f = (s.mapRecords f).receiveRecord := by
  rw [State.mapRecords, State.mapRecords]
  generalize hv : (fun st : RecordStore => { st with records := Vector.ofFn fun i => f i (st.records.get i) }) = g
  rfl

theorem State.request_receiveRecord (e : EntryIndex) (op : QueueOp) (origin : Origin) (s : State) :
    s.receiveRecord.request e op origin = (s.request e op origin).receiveRecord := by
  have h : s.receiveRecord.disposition e origin = s.disposition e origin := rfl
  unfold State.request
  rw [h]
  cases s.disposition e origin <;> rfl

theorem State.takeOffered_receiveRecord (s : State) : s.receiveRecord.takeOffered = s.takeOffered.receiveRecord := by
  have hi : s.receiveRecord.link = s.link := rfl
  have hq : s.receiveRecord.sched = s.sched := rfl
  unfold State.takeOffered
  rw [hi, hq]
  cases s.link.state.isIdle
  · rfl
  · cases s.sched.offer <;> rfl

theorem State.removeWork_receiveRecord (gone : EntryIndex → Bool) (s : State) :
    s.receiveRecord.removeWork gone = (s.removeWork gone).receiveRecord := rfl

theorem State.reOffer_receiveRecord (s : State) : s.receiveRecord.reOffer = s.reOffer.receiveRecord := by
  unfold State.reOffer
  generalize entryIndices = l
  induction l generalizing s with
  | nil => rfl
  | cons i l ih =>
    have ha : (s.receiveRecord.activeEntry i).takesPublish = (s.activeEntry i).takesPublish := rfl
    have hr : (s.receiveRecord.record i).pending = (s.record i).pending := rfl
    rw [List.foldl_cons, List.foldl_cons, ha, hr]
    cases (s.activeEntry i).takesPublish && (s.record i).pending
    · exact ih s
    · rw [if_pos rfl, if_pos rfl, State.request_receiveRecord]
      exact ih _

end Sys2Proof.Machine
end

