-- ==== Sys2Proof/Laws/Records.lean ====
section
/-! SUPPORT. Laws/Records.lean: the frame of each shared operation of the record store: what it leaves unchanged, field by
field of the state. -/

namespace Sys2Proof.Machine

/-! ## emptyRecord -/

@[simp] theorem State.emptyRecord_power (i : EntryIndex) (s : State) :
    (s.emptyRecord i).power = s.power := by
  unfold State.emptyRecord
  simp

@[simp] theorem State.emptyRecord_route (i : EntryIndex) (s : State) :
    (s.emptyRecord i).route = s.route := by
  unfold State.emptyRecord
  simp

@[simp] theorem State.emptyRecord_store_readIndex (i : EntryIndex) (s : State) :
    (s.emptyRecord i).store.readIndex = s.store.readIndex := by
  unfold State.emptyRecord
  simp

@[simp] theorem State.emptyRecord_store_readHalf (i : EntryIndex) (s : State) :
    (s.emptyRecord i).store.readHalf = s.store.readHalf := by
  unfold State.emptyRecord
  simp

@[simp] theorem State.emptyRecord_store_staging (i : EntryIndex) (s : State) :
    (s.emptyRecord i).store.staging = s.store.staging := by
  unfold State.emptyRecord
  simp

@[simp] theorem State.emptyRecord_sched (i : EntryIndex) (s : State) :
    (s.emptyRecord i).sched = s.sched := by
  unfold State.emptyRecord
  simp

@[simp] theorem State.emptyRecord_link (i : EntryIndex) (s : State) :
    (s.emptyRecord i).link = s.link := by
  unfold State.emptyRecord
  simp

@[simp] theorem State.emptyRecord_trunk (i : EntryIndex) (s : State) :
    (s.emptyRecord i).trunk = s.trunk := by
  unfold State.emptyRecord
  simp

@[simp] theorem State.emptyRecord_agent (i : EntryIndex) (s : State) :
    (s.emptyRecord i).agent = s.agent := by
  unfold State.emptyRecord
  simp

@[simp] theorem State.emptyRecord_config (i : EntryIndex) (s : State) :
    (s.emptyRecord i).config = s.config := by
  unfold State.emptyRecord
  simp

@[simp] theorem State.emptyRecord_pending (i : EntryIndex) (s : State) :
    (s.emptyRecord i).pending = s.pending := by
  unfold State.emptyRecord
  simp

/-! ## captureInto -/

@[simp] theorem State.captureInto_power (i : EntryIndex) (data : List Byte) (source : Source) (s : State) :
    (s.captureInto i data source).power = s.power := by
  unfold State.captureInto
  simp

@[simp] theorem State.captureInto_route (i : EntryIndex) (data : List Byte) (source : Source) (s : State) :
    (s.captureInto i data source).route = s.route := by
  unfold State.captureInto
  simp

@[simp] theorem State.captureInto_store_readIndex (i : EntryIndex) (data : List Byte) (source : Source) (s : State) :
    (s.captureInto i data source).store.readIndex = s.store.readIndex := by
  unfold State.captureInto
  simp

@[simp] theorem State.captureInto_store_readHalf (i : EntryIndex) (data : List Byte) (source : Source) (s : State) :
    (s.captureInto i data source).store.readHalf = s.store.readHalf := by
  unfold State.captureInto
  simp

@[simp] theorem State.captureInto_store_staging (i : EntryIndex) (data : List Byte) (source : Source) (s : State) :
    (s.captureInto i data source).store.staging = s.store.staging := by
  unfold State.captureInto
  simp

@[simp] theorem State.captureInto_sched (i : EntryIndex) (data : List Byte) (source : Source) (s : State) :
    (s.captureInto i data source).sched = s.sched := by
  unfold State.captureInto
  simp

@[simp] theorem State.captureInto_link (i : EntryIndex) (data : List Byte) (source : Source) (s : State) :
    (s.captureInto i data source).link = s.link := by
  unfold State.captureInto
  simp

@[simp] theorem State.captureInto_trunk (i : EntryIndex) (data : List Byte) (source : Source) (s : State) :
    (s.captureInto i data source).trunk = s.trunk := by
  unfold State.captureInto
  simp

@[simp] theorem State.captureInto_agent (i : EntryIndex) (data : List Byte) (source : Source) (s : State) :
    (s.captureInto i data source).agent = s.agent := by
  unfold State.captureInto
  simp

@[simp] theorem State.captureInto_config (i : EntryIndex) (data : List Byte) (source : Source) (s : State) :
    (s.captureInto i data source).config = s.config := by
  unfold State.captureInto
  simp

@[simp] theorem State.captureInto_pending (i : EntryIndex) (data : List Byte) (source : Source) (s : State) :
    (s.captureInto i data source).pending = s.pending := by
  unfold State.captureInto
  simp

/-! ## setPendingMark -/

@[simp] theorem State.setPendingMark_power (i : EntryIndex) (b : Bool) (s : State) :
    (s.setPendingMark i b).power = s.power := by
  unfold State.setPendingMark
  (try dsimp only)
  simp

@[simp] theorem State.setPendingMark_route (i : EntryIndex) (b : Bool) (s : State) :
    (s.setPendingMark i b).route = s.route := by
  unfold State.setPendingMark
  (try dsimp only)
  simp

@[simp] theorem State.setPendingMark_store_readIndex (i : EntryIndex) (b : Bool) (s : State) :
    (s.setPendingMark i b).store.readIndex = s.store.readIndex := by
  unfold State.setPendingMark
  (try dsimp only)
  simp

@[simp] theorem State.setPendingMark_store_readHalf (i : EntryIndex) (b : Bool) (s : State) :
    (s.setPendingMark i b).store.readHalf = s.store.readHalf := by
  unfold State.setPendingMark
  (try dsimp only)
  simp

@[simp] theorem State.setPendingMark_store_staging (i : EntryIndex) (b : Bool) (s : State) :
    (s.setPendingMark i b).store.staging = s.store.staging := by
  unfold State.setPendingMark
  (try dsimp only)
  simp

@[simp] theorem State.setPendingMark_sched (i : EntryIndex) (b : Bool) (s : State) :
    (s.setPendingMark i b).sched = s.sched := by
  unfold State.setPendingMark
  (try dsimp only)
  simp

@[simp] theorem State.setPendingMark_link (i : EntryIndex) (b : Bool) (s : State) :
    (s.setPendingMark i b).link = s.link := by
  unfold State.setPendingMark
  (try dsimp only)
  simp

@[simp] theorem State.setPendingMark_trunk (i : EntryIndex) (b : Bool) (s : State) :
    (s.setPendingMark i b).trunk = s.trunk := by
  unfold State.setPendingMark
  (try dsimp only)
  simp

@[simp] theorem State.setPendingMark_agent (i : EntryIndex) (b : Bool) (s : State) :
    (s.setPendingMark i b).agent = s.agent := by
  unfold State.setPendingMark
  (try dsimp only)
  simp

@[simp] theorem State.setPendingMark_config (i : EntryIndex) (b : Bool) (s : State) :
    (s.setPendingMark i b).config = s.config := by
  unfold State.setPendingMark
  (try dsimp only)
  simp

@[simp] theorem State.setPendingMark_pending (i : EntryIndex) (b : Bool) (s : State) :
    (s.setPendingMark i b).pending = s.pending := by
  unfold State.setPendingMark
  (try dsimp only)
  simp

/-! ## branchCapture -/

@[simp] theorem State.branchCapture_power (i : EntryIndex) (data : List Byte) (s : State) :
    (s.branchCapture i data).power = s.power := by
  unfold State.branchCapture
  (try dsimp only)
  (repeat' split) <;> simp

@[simp] theorem State.branchCapture_route (i : EntryIndex) (data : List Byte) (s : State) :
    (s.branchCapture i data).route = s.route := by
  unfold State.branchCapture
  (try dsimp only)
  (repeat' split) <;> simp

@[simp] theorem State.branchCapture_store_readIndex (i : EntryIndex) (data : List Byte) (s : State) :
    (s.branchCapture i data).store.readIndex = s.store.readIndex := by
  unfold State.branchCapture
  (try dsimp only)
  (repeat' split) <;> simp

@[simp] theorem State.branchCapture_store_readHalf (i : EntryIndex) (data : List Byte) (s : State) :
    (s.branchCapture i data).store.readHalf = s.store.readHalf := by
  unfold State.branchCapture
  (try dsimp only)
  (repeat' split) <;> simp

@[simp] theorem State.branchCapture_store_staging (i : EntryIndex) (data : List Byte) (s : State) :
    (s.branchCapture i data).store.staging = s.store.staging := by
  unfold State.branchCapture
  (try dsimp only)
  (repeat' split) <;> simp

@[simp] theorem State.branchCapture_sched (i : EntryIndex) (data : List Byte) (s : State) :
    (s.branchCapture i data).sched = s.sched := by
  unfold State.branchCapture
  (try dsimp only)
  (repeat' split) <;> simp

@[simp] theorem State.branchCapture_link (i : EntryIndex) (data : List Byte) (s : State) :
    (s.branchCapture i data).link = s.link := by
  unfold State.branchCapture
  (try dsimp only)
  (repeat' split) <;> simp

@[simp] theorem State.branchCapture_trunk (i : EntryIndex) (data : List Byte) (s : State) :
    (s.branchCapture i data).trunk = s.trunk := by
  unfold State.branchCapture
  (try dsimp only)
  (repeat' split) <;> simp

@[simp] theorem State.branchCapture_agent_unit (i : EntryIndex) (data : List Byte) (s : State) :
    (s.branchCapture i data).agent.unit = s.agent.unit := by
  unfold State.branchCapture
  (try dsimp only)
  (repeat' split) <;> simp

@[simp] theorem State.branchCapture_agent_slot (i : EntryIndex) (data : List Byte) (s : State) :
    (s.branchCapture i data).agent.slot = s.agent.slot := by
  unfold State.branchCapture
  (try dsimp only)
  (repeat' split) <;> simp

@[simp] theorem State.branchCapture_agent_result (i : EntryIndex) (data : List Byte) (s : State) :
    (s.branchCapture i data).agent.result = s.agent.result := by
  unfold State.branchCapture
  (try dsimp only)
  (repeat' split) <;> simp

@[simp] theorem State.branchCapture_agent_counters (i : EntryIndex) (data : List Byte) (s : State) :
    (s.branchCapture i data).agent.counters = s.agent.counters := by
  unfold State.branchCapture
  (try dsimp only)
  (repeat' split) <;> simp

@[simp] theorem State.branchCapture_agent_keyState (i : EntryIndex) (data : List Byte) (s : State) :
    (s.branchCapture i data).agent.keyState = s.agent.keyState := by
  unfold State.branchCapture
  (try dsimp only)
  (repeat' split) <;> simp

@[simp] theorem State.branchCapture_config (i : EntryIndex) (data : List Byte) (s : State) :
    (s.branchCapture i data).config = s.config := by
  unfold State.branchCapture
  (try dsimp only)
  (repeat' split) <;> simp

@[simp] theorem State.branchCapture_pending (i : EntryIndex) (data : List Byte) (s : State) :
    (s.branchCapture i data).pending = s.pending := by
  unfold State.branchCapture
  (try dsimp only)
  (repeat' split) <;> simp

/-! ## trunkCapture -/

@[simp] theorem State.trunkCapture_power (i : EntryIndex) (copy : Entry) (data : List Byte) (s : State) :
    (s.trunkCapture i copy data).power = s.power := by
  unfold State.trunkCapture
  (repeat' split) <;> simp

@[simp] theorem State.trunkCapture_route (i : EntryIndex) (copy : Entry) (data : List Byte) (s : State) :
    (s.trunkCapture i copy data).route = s.route := by
  unfold State.trunkCapture
  (repeat' split) <;> simp

@[simp] theorem State.trunkCapture_store_readIndex (i : EntryIndex) (copy : Entry) (data : List Byte) (s : State) :
    (s.trunkCapture i copy data).store.readIndex = s.store.readIndex := by
  unfold State.trunkCapture
  (repeat' split) <;> simp

@[simp] theorem State.trunkCapture_store_readHalf (i : EntryIndex) (copy : Entry) (data : List Byte) (s : State) :
    (s.trunkCapture i copy data).store.readHalf = s.store.readHalf := by
  unfold State.trunkCapture
  (repeat' split) <;> simp

@[simp] theorem State.trunkCapture_store_staging (i : EntryIndex) (copy : Entry) (data : List Byte) (s : State) :
    (s.trunkCapture i copy data).store.staging = s.store.staging := by
  unfold State.trunkCapture
  (repeat' split) <;> simp

@[simp] theorem State.trunkCapture_sched (i : EntryIndex) (copy : Entry) (data : List Byte) (s : State) :
    (s.trunkCapture i copy data).sched = s.sched := by
  unfold State.trunkCapture
  (repeat' split) <;> simp

@[simp] theorem State.trunkCapture_link (i : EntryIndex) (copy : Entry) (data : List Byte) (s : State) :
    (s.trunkCapture i copy data).link = s.link := by
  unfold State.trunkCapture
  (repeat' split) <;> simp

@[simp] theorem State.trunkCapture_trunk (i : EntryIndex) (copy : Entry) (data : List Byte) (s : State) :
    (s.trunkCapture i copy data).trunk = s.trunk := by
  unfold State.trunkCapture
  (repeat' split) <;> simp

@[simp] theorem State.trunkCapture_agent_unit (i : EntryIndex) (copy : Entry) (data : List Byte) (s : State) :
    (s.trunkCapture i copy data).agent.unit = s.agent.unit := by
  unfold State.trunkCapture
  (repeat' split) <;> simp

@[simp] theorem State.trunkCapture_agent_slot (i : EntryIndex) (copy : Entry) (data : List Byte) (s : State) :
    (s.trunkCapture i copy data).agent.slot = s.agent.slot := by
  unfold State.trunkCapture
  (repeat' split) <;> simp

@[simp] theorem State.trunkCapture_agent_result (i : EntryIndex) (copy : Entry) (data : List Byte) (s : State) :
    (s.trunkCapture i copy data).agent.result = s.agent.result := by
  unfold State.trunkCapture
  (repeat' split) <;> simp

@[simp] theorem State.trunkCapture_agent_counters (i : EntryIndex) (copy : Entry) (data : List Byte) (s : State) :
    (s.trunkCapture i copy data).agent.counters = s.agent.counters := by
  unfold State.trunkCapture
  (repeat' split) <;> simp

@[simp] theorem State.trunkCapture_agent_keyState (i : EntryIndex) (copy : Entry) (data : List Byte) (s : State) :
    (s.trunkCapture i copy data).agent.keyState = s.agent.keyState := by
  unfold State.trunkCapture
  (repeat' split) <;> simp

@[simp] theorem State.trunkCapture_config (i : EntryIndex) (copy : Entry) (data : List Byte) (s : State) :
    (s.trunkCapture i copy data).config = s.config := by
  unfold State.trunkCapture
  (repeat' split) <;> simp

@[simp] theorem State.trunkCapture_pending (i : EntryIndex) (copy : Entry) (data : List Byte) (s : State) :
    (s.trunkCapture i copy data).pending = s.pending := by
  unfold State.trunkCapture
  (repeat' split) <;> simp

/-! ## branchFailure -/

@[simp] theorem State.branchFailure_power (i : EntryIndex) (s : State) :
    (s.branchFailure i).power = s.power := by
  unfold State.branchFailure
  (try dsimp only)
  (repeat' split) <;> simp

@[simp] theorem State.branchFailure_route (i : EntryIndex) (s : State) :
    (s.branchFailure i).route = s.route := by
  unfold State.branchFailure
  (try dsimp only)
  (repeat' split) <;> simp

@[simp] theorem State.branchFailure_store_readIndex (i : EntryIndex) (s : State) :
    (s.branchFailure i).store.readIndex = s.store.readIndex := by
  unfold State.branchFailure
  (try dsimp only)
  (repeat' split) <;> simp

@[simp] theorem State.branchFailure_store_readHalf (i : EntryIndex) (s : State) :
    (s.branchFailure i).store.readHalf = s.store.readHalf := by
  unfold State.branchFailure
  (try dsimp only)
  (repeat' split) <;> simp

@[simp] theorem State.branchFailure_store_staging (i : EntryIndex) (s : State) :
    (s.branchFailure i).store.staging = s.store.staging := by
  unfold State.branchFailure
  (try dsimp only)
  (repeat' split) <;> simp

@[simp] theorem State.branchFailure_sched (i : EntryIndex) (s : State) :
    (s.branchFailure i).sched = s.sched := by
  unfold State.branchFailure
  (try dsimp only)
  (repeat' split) <;> simp

@[simp] theorem State.branchFailure_link (i : EntryIndex) (s : State) :
    (s.branchFailure i).link = s.link := by
  unfold State.branchFailure
  (try dsimp only)
  (repeat' split) <;> simp

@[simp] theorem State.branchFailure_trunk (i : EntryIndex) (s : State) :
    (s.branchFailure i).trunk = s.trunk := by
  unfold State.branchFailure
  (try dsimp only)
  (repeat' split) <;> simp

@[simp] theorem State.branchFailure_agent_unit (i : EntryIndex) (s : State) :
    (s.branchFailure i).agent.unit = s.agent.unit := by
  unfold State.branchFailure
  (try dsimp only)
  (repeat' split) <;> simp

@[simp] theorem State.branchFailure_agent_slot (i : EntryIndex) (s : State) :
    (s.branchFailure i).agent.slot = s.agent.slot := by
  unfold State.branchFailure
  (try dsimp only)
  (repeat' split) <;> simp

@[simp] theorem State.branchFailure_agent_result (i : EntryIndex) (s : State) :
    (s.branchFailure i).agent.result = s.agent.result := by
  unfold State.branchFailure
  (try dsimp only)
  (repeat' split) <;> simp

@[simp] theorem State.branchFailure_agent_counters (i : EntryIndex) (s : State) :
    (s.branchFailure i).agent.counters = s.agent.counters := by
  unfold State.branchFailure
  (try dsimp only)
  (repeat' split) <;> simp

@[simp] theorem State.branchFailure_agent_keyState (i : EntryIndex) (s : State) :
    (s.branchFailure i).agent.keyState = s.agent.keyState := by
  unfold State.branchFailure
  (try dsimp only)
  (repeat' split) <;> simp

@[simp] theorem State.branchFailure_config (i : EntryIndex) (s : State) :
    (s.branchFailure i).config = s.config := by
  unfold State.branchFailure
  (try dsimp only)
  (repeat' split) <;> simp

@[simp] theorem State.branchFailure_pending (i : EntryIndex) (s : State) :
    (s.branchFailure i).pending = s.pending := by
  unfold State.branchFailure
  (try dsimp only)
  (repeat' split) <;> simp

/-! ## publishReport -/

@[simp] theorem State.publishReport_power (i : EntryIndex) (version : Byte) (o : BranchOutcome) (s : State) :
    (s.publishReport i version o).power = s.power := by
  unfold State.publishReport
  (try dsimp only)
  (repeat' split) <;> simp

@[simp] theorem State.publishReport_route (i : EntryIndex) (version : Byte) (o : BranchOutcome) (s : State) :
    (s.publishReport i version o).route = s.route := by
  unfold State.publishReport
  (try dsimp only)
  (repeat' split) <;> simp

@[simp] theorem State.publishReport_store_readIndex (i : EntryIndex) (version : Byte) (o : BranchOutcome) (s : State) :
    (s.publishReport i version o).store.readIndex = s.store.readIndex := by
  unfold State.publishReport
  (try dsimp only)
  (repeat' split) <;> simp

@[simp] theorem State.publishReport_store_readHalf (i : EntryIndex) (version : Byte) (o : BranchOutcome) (s : State) :
    (s.publishReport i version o).store.readHalf = s.store.readHalf := by
  unfold State.publishReport
  (try dsimp only)
  (repeat' split) <;> simp

@[simp] theorem State.publishReport_store_staging (i : EntryIndex) (version : Byte) (o : BranchOutcome) (s : State) :
    (s.publishReport i version o).store.staging = s.store.staging := by
  unfold State.publishReport
  (try dsimp only)
  (repeat' split) <;> simp

@[simp] theorem State.publishReport_sched (i : EntryIndex) (version : Byte) (o : BranchOutcome) (s : State) :
    (s.publishReport i version o).sched = s.sched := by
  unfold State.publishReport
  (try dsimp only)
  (repeat' split) <;> simp

@[simp] theorem State.publishReport_link (i : EntryIndex) (version : Byte) (o : BranchOutcome) (s : State) :
    (s.publishReport i version o).link = s.link := by
  unfold State.publishReport
  (try dsimp only)
  (repeat' split) <;> simp

@[simp] theorem State.publishReport_trunk (i : EntryIndex) (version : Byte) (o : BranchOutcome) (s : State) :
    (s.publishReport i version o).trunk = s.trunk := by
  unfold State.publishReport
  (try dsimp only)
  (repeat' split) <;> simp

@[simp] theorem State.publishReport_agent_unit (i : EntryIndex) (version : Byte) (o : BranchOutcome) (s : State) :
    (s.publishReport i version o).agent.unit = s.agent.unit := by
  unfold State.publishReport
  (try dsimp only)
  (repeat' split) <;> simp

@[simp] theorem State.publishReport_agent_slot (i : EntryIndex) (version : Byte) (o : BranchOutcome) (s : State) :
    (s.publishReport i version o).agent.slot = s.agent.slot := by
  unfold State.publishReport
  (try dsimp only)
  (repeat' split) <;> simp

@[simp] theorem State.publishReport_agent_result (i : EntryIndex) (version : Byte) (o : BranchOutcome) (s : State) :
    (s.publishReport i version o).agent.result = s.agent.result := by
  unfold State.publishReport
  (try dsimp only)
  (repeat' split) <;> simp

@[simp] theorem State.publishReport_agent_counters (i : EntryIndex) (version : Byte) (o : BranchOutcome) (s : State) :
    (s.publishReport i version o).agent.counters = s.agent.counters := by
  unfold State.publishReport
  (try dsimp only)
  (repeat' split) <;> simp

@[simp] theorem State.publishReport_agent_keyState (i : EntryIndex) (version : Byte) (o : BranchOutcome) (s : State) :
    (s.publishReport i version o).agent.keyState = s.agent.keyState := by
  unfold State.publishReport
  (try dsimp only)
  (repeat' split) <;> simp

@[simp] theorem State.publishReport_config (i : EntryIndex) (version : Byte) (o : BranchOutcome) (s : State) :
    (s.publishReport i version o).config = s.config := by
  unfold State.publishReport
  (try dsimp only)
  (repeat' split) <;> simp

@[simp] theorem State.publishReport_pending (i : EntryIndex) (version : Byte) (o : BranchOutcome) (s : State) :
    (s.publishReport i version o).pending = s.pending := by
  unfold State.publishReport
  (try dsimp only)
  (repeat' split) <;> simp

/-! ## recordServed -/

@[simp] theorem State.recordServed_power (i : EntryIndex) (version : Byte) (s : State) :
    (s.recordServed i version).power = s.power := by
  unfold State.recordServed
  (try dsimp only)
  (repeat' split) <;> simp

@[simp] theorem State.recordServed_route (i : EntryIndex) (version : Byte) (s : State) :
    (s.recordServed i version).route = s.route := by
  unfold State.recordServed
  (try dsimp only)
  (repeat' split) <;> simp

@[simp] theorem State.recordServed_store_readIndex (i : EntryIndex) (version : Byte) (s : State) :
    (s.recordServed i version).store.readIndex = s.store.readIndex := by
  unfold State.recordServed
  (try dsimp only)
  (repeat' split) <;> simp

@[simp] theorem State.recordServed_store_readHalf (i : EntryIndex) (version : Byte) (s : State) :
    (s.recordServed i version).store.readHalf = s.store.readHalf := by
  unfold State.recordServed
  (try dsimp only)
  (repeat' split) <;> simp

@[simp] theorem State.recordServed_store_staging (i : EntryIndex) (version : Byte) (s : State) :
    (s.recordServed i version).store.staging = s.store.staging := by
  unfold State.recordServed
  (try dsimp only)
  (repeat' split) <;> simp

@[simp] theorem State.recordServed_sched (i : EntryIndex) (version : Byte) (s : State) :
    (s.recordServed i version).sched = s.sched := by
  unfold State.recordServed
  (try dsimp only)
  (repeat' split) <;> simp

@[simp] theorem State.recordServed_link (i : EntryIndex) (version : Byte) (s : State) :
    (s.recordServed i version).link = s.link := by
  unfold State.recordServed
  (try dsimp only)
  (repeat' split) <;> simp

@[simp] theorem State.recordServed_trunk (i : EntryIndex) (version : Byte) (s : State) :
    (s.recordServed i version).trunk = s.trunk := by
  unfold State.recordServed
  (try dsimp only)
  (repeat' split) <;> simp

@[simp] theorem State.recordServed_agent (i : EntryIndex) (version : Byte) (s : State) :
    (s.recordServed i version).agent = s.agent := by
  unfold State.recordServed
  (try dsimp only)
  (repeat' split) <;> simp

@[simp] theorem State.recordServed_config (i : EntryIndex) (version : Byte) (s : State) :
    (s.recordServed i version).config = s.config := by
  unfold State.recordServed
  (try dsimp only)
  (repeat' split) <;> simp

@[simp] theorem State.recordServed_pending (i : EntryIndex) (version : Byte) (s : State) :
    (s.recordServed i version).pending = s.pending := by
  unfold State.recordServed
  (try dsimp only)
  (repeat' split) <;> simp

/-! ## ageRecords -/

@[simp] theorem State.ageRecords_power (s : State) :
    (s.ageRecords).power = s.power := by
  unfold State.ageRecords
  simp

@[simp] theorem State.ageRecords_route (s : State) :
    (s.ageRecords).route = s.route := by
  unfold State.ageRecords
  simp

@[simp] theorem State.ageRecords_store_readIndex (s : State) :
    (s.ageRecords).store.readIndex = s.store.readIndex := by
  unfold State.ageRecords
  simp

@[simp] theorem State.ageRecords_store_readHalf (s : State) :
    (s.ageRecords).store.readHalf = s.store.readHalf := by
  unfold State.ageRecords
  simp

@[simp] theorem State.ageRecords_store_staging (s : State) :
    (s.ageRecords).store.staging = s.store.staging := by
  unfold State.ageRecords
  simp

@[simp] theorem State.ageRecords_sched (s : State) :
    (s.ageRecords).sched = s.sched := by
  unfold State.ageRecords
  simp

@[simp] theorem State.ageRecords_link (s : State) :
    (s.ageRecords).link = s.link := by
  unfold State.ageRecords
  simp

@[simp] theorem State.ageRecords_trunk (s : State) :
    (s.ageRecords).trunk = s.trunk := by
  unfold State.ageRecords
  simp

@[simp] theorem State.ageRecords_agent (s : State) :
    (s.ageRecords).agent = s.agent := by
  unfold State.ageRecords
  simp

@[simp] theorem State.ageRecords_config (s : State) :
    (s.ageRecords).config = s.config := by
  unfold State.ageRecords
  simp

@[simp] theorem State.ageRecords_pending (s : State) :
    (s.ageRecords).pending = s.pending := by
  unfold State.ageRecords
  simp

/-! ## clearFailures -/

@[simp] theorem State.clearFailures_power (s : State) :
    (s.clearFailures).power = s.power := by
  unfold State.clearFailures
  simp

@[simp] theorem State.clearFailures_route (s : State) :
    (s.clearFailures).route = s.route := by
  unfold State.clearFailures
  simp

@[simp] theorem State.clearFailures_store_readIndex (s : State) :
    (s.clearFailures).store.readIndex = s.store.readIndex := by
  unfold State.clearFailures
  simp

@[simp] theorem State.clearFailures_store_readHalf (s : State) :
    (s.clearFailures).store.readHalf = s.store.readHalf := by
  unfold State.clearFailures
  simp

@[simp] theorem State.clearFailures_store_staging (s : State) :
    (s.clearFailures).store.staging = s.store.staging := by
  unfold State.clearFailures
  simp

@[simp] theorem State.clearFailures_sched (s : State) :
    (s.clearFailures).sched = s.sched := by
  unfold State.clearFailures
  simp

@[simp] theorem State.clearFailures_link (s : State) :
    (s.clearFailures).link = s.link := by
  unfold State.clearFailures
  simp

@[simp] theorem State.clearFailures_trunk (s : State) :
    (s.clearFailures).trunk = s.trunk := by
  unfold State.clearFailures
  simp

@[simp] theorem State.clearFailures_agent (s : State) :
    (s.clearFailures).agent = s.agent := by
  unfold State.clearFailures
  simp

@[simp] theorem State.clearFailures_config (s : State) :
    (s.clearFailures).config = s.config := by
  unfold State.clearFailures
  simp

@[simp] theorem State.clearFailures_pending (s : State) :
    (s.clearFailures).pending = s.pending := by
  unfold State.clearFailures
  simp

/-! ## scoreOutcome -/

@[simp] theorem State.scoreOutcome_power (o : BranchOutcome) (s : State) :
    (s.scoreOutcome o).power = s.power := by
  unfold State.scoreOutcome
  (try dsimp only)
  (repeat' split) <;> simp

@[simp] theorem State.scoreOutcome_route (o : BranchOutcome) (s : State) :
    (s.scoreOutcome o).route = s.route := by
  unfold State.scoreOutcome
  (try dsimp only)
  (repeat' split) <;> simp

@[simp] theorem State.scoreOutcome_store (o : BranchOutcome) (s : State) :
    (s.scoreOutcome o).store = s.store := by
  unfold State.scoreOutcome
  (try dsimp only)
  (repeat' split) <;> simp

@[simp] theorem State.scoreOutcome_sched (o : BranchOutcome) (s : State) :
    (s.scoreOutcome o).sched = s.sched := by
  unfold State.scoreOutcome
  (try dsimp only)
  (repeat' split) <;> simp

@[simp] theorem State.scoreOutcome_link_state (o : BranchOutcome) (s : State) :
    (s.scoreOutcome o).link.state = s.link.state := by
  unfold State.scoreOutcome
  (try dsimp only)
  (repeat' split) <;> simp

@[simp] theorem State.scoreOutcome_link_mode (o : BranchOutcome) (s : State) :
    (s.scoreOutcome o).link.mode = s.link.mode := by
  unfold State.scoreOutcome
  (try dsimp only)
  (repeat' split) <;> simp

@[simp] theorem State.scoreOutcome_link_hold (o : BranchOutcome) (s : State) :
    (s.scoreOutcome o).link.hold = s.link.hold := by
  unfold State.scoreOutcome
  (try dsimp only)
  (repeat' split) <;> simp

@[simp] theorem State.scoreOutcome_link_sampling (o : BranchOutcome) (s : State) :
    (s.scoreOutcome o).link.sampling = s.link.sampling := by
  unfold State.scoreOutcome
  (try dsimp only)
  (repeat' split) <;> simp

@[simp] theorem State.scoreOutcome_link_settle (o : BranchOutcome) (s : State) :
    (s.scoreOutcome o).link.settle = s.link.settle := by
  unfold State.scoreOutcome
  (try dsimp only)
  (repeat' split) <;> simp

@[simp] theorem State.scoreOutcome_link_relay (o : BranchOutcome) (s : State) :
    (s.scoreOutcome o).link.relay = s.link.relay := by
  unfold State.scoreOutcome
  (try dsimp only)
  (repeat' split) <;> simp

@[simp] theorem State.scoreOutcome_link_sleepFramePending (o : BranchOutcome) (s : State) :
    (s.scoreOutcome o).link.sleepFramePending = s.link.sleepFramePending := by
  unfold State.scoreOutcome
  (try dsimp only)
  (repeat' split) <;> simp

@[simp] theorem State.scoreOutcome_link_responder (o : BranchOutcome) (s : State) :
    (s.scoreOutcome o).link.responder = s.link.responder := by
  unfold State.scoreOutcome
  (try dsimp only)
  (repeat' split) <;> simp

@[simp] theorem State.scoreOutcome_link_line (o : BranchOutcome) (s : State) :
    (s.scoreOutcome o).link.line = s.link.line := by
  unfold State.scoreOutcome
  (try dsimp only)
  (repeat' split) <;> simp

@[simp] theorem State.scoreOutcome_link_receiver (o : BranchOutcome) (s : State) :
    (s.scoreOutcome o).link.receiver = s.link.receiver := by
  unfold State.scoreOutcome
  (try dsimp only)
  (repeat' split) <;> simp

@[simp] theorem State.scoreOutcome_link_sinceH1 (o : BranchOutcome) (s : State) :
    (s.scoreOutcome o).link.sinceH1 = s.link.sinceH1 := by
  unfold State.scoreOutcome
  (try dsimp only)
  (repeat' split) <;> simp

@[simp] theorem State.scoreOutcome_link_outsideLow (o : BranchOutcome) (s : State) :
    (s.scoreOutcome o).link.outsideLow = s.link.outsideLow := by
  unfold State.scoreOutcome
  (try dsimp only)
  (repeat' split) <;> simp

@[simp] theorem State.scoreOutcome_link_receiverRate (o : BranchOutcome) (s : State) :
    (s.scoreOutcome o).link.receiverRate = s.link.receiverRate := by
  unfold State.scoreOutcome
  (try dsimp only)
  (repeat' split) <;> simp

@[simp] theorem State.scoreOutcome_trunk (o : BranchOutcome) (s : State) :
    (s.scoreOutcome o).trunk = s.trunk := by
  unfold State.scoreOutcome
  (try dsimp only)
  (repeat' split) <;> simp

@[simp] theorem State.scoreOutcome_agent_unit (o : BranchOutcome) (s : State) :
    (s.scoreOutcome o).agent.unit = s.agent.unit := by
  unfold State.scoreOutcome
  (try dsimp only)
  (repeat' split) <;> simp

@[simp] theorem State.scoreOutcome_agent_slot (o : BranchOutcome) (s : State) :
    (s.scoreOutcome o).agent.slot = s.agent.slot := by
  unfold State.scoreOutcome
  (try dsimp only)
  (repeat' split) <;> simp

@[simp] theorem State.scoreOutcome_agent_result (o : BranchOutcome) (s : State) :
    (s.scoreOutcome o).agent.result = s.agent.result := by
  unfold State.scoreOutcome
  (try dsimp only)
  (repeat' split) <;> simp

@[simp] theorem State.scoreOutcome_agent_counters (o : BranchOutcome) (s : State) :
    (s.scoreOutcome o).agent.counters = s.agent.counters := by
  unfold State.scoreOutcome
  (try dsimp only)
  (repeat' split) <;> simp

@[simp] theorem State.scoreOutcome_agent_keyState (o : BranchOutcome) (s : State) :
    (s.scoreOutcome o).agent.keyState = s.agent.keyState := by
  unfold State.scoreOutcome
  (try dsimp only)
  (repeat' split) <;> simp

@[simp] theorem State.scoreOutcome_config (o : BranchOutcome) (s : State) :
    (s.scoreOutcome o).config = s.config := by
  unfold State.scoreOutcome
  (try dsimp only)
  (repeat' split) <;> simp

@[simp] theorem State.scoreOutcome_pending (o : BranchOutcome) (s : State) :
    (s.scoreOutcome o).pending = s.pending := by
  unfold State.scoreOutcome
  (try dsimp only)
  (repeat' split) <;> simp

/-! ## countOutcome -/

@[simp] theorem State.countOutcome_power (op : TransactionOp) (o : BranchOutcome) (s : State) :
    (s.countOutcome op o).power = s.power := by
  unfold State.countOutcome
  (repeat' split) <;> simp

@[simp] theorem State.countOutcome_route (op : TransactionOp) (o : BranchOutcome) (s : State) :
    (s.countOutcome op o).route = s.route := by
  unfold State.countOutcome
  (repeat' split) <;> simp

@[simp] theorem State.countOutcome_store (op : TransactionOp) (o : BranchOutcome) (s : State) :
    (s.countOutcome op o).store = s.store := by
  unfold State.countOutcome
  (repeat' split) <;> simp

@[simp] theorem State.countOutcome_sched (op : TransactionOp) (o : BranchOutcome) (s : State) :
    (s.countOutcome op o).sched = s.sched := by
  unfold State.countOutcome
  (repeat' split) <;> simp

@[simp] theorem State.countOutcome_link (op : TransactionOp) (o : BranchOutcome) (s : State) :
    (s.countOutcome op o).link = s.link := by
  unfold State.countOutcome
  (repeat' split) <;> simp

@[simp] theorem State.countOutcome_trunk (op : TransactionOp) (o : BranchOutcome) (s : State) :
    (s.countOutcome op o).trunk = s.trunk := by
  unfold State.countOutcome
  (repeat' split) <;> simp

@[simp] theorem State.countOutcome_agent_unit (op : TransactionOp) (o : BranchOutcome) (s : State) :
    (s.countOutcome op o).agent.unit = s.agent.unit := by
  unfold State.countOutcome
  (repeat' split) <;> simp

@[simp] theorem State.countOutcome_agent_slot (op : TransactionOp) (o : BranchOutcome) (s : State) :
    (s.countOutcome op o).agent.slot = s.agent.slot := by
  unfold State.countOutcome
  (repeat' split) <;> simp

@[simp] theorem State.countOutcome_agent_result (op : TransactionOp) (o : BranchOutcome) (s : State) :
    (s.countOutcome op o).agent.result = s.agent.result := by
  unfold State.countOutcome
  (repeat' split) <;> simp

@[simp] theorem State.countOutcome_agent_flags (op : TransactionOp) (o : BranchOutcome) (s : State) :
    (s.countOutcome op o).agent.flags = s.agent.flags := by
  unfold State.countOutcome
  (repeat' split) <;> simp

@[simp] theorem State.countOutcome_agent_keyState (op : TransactionOp) (o : BranchOutcome) (s : State) :
    (s.countOutcome op o).agent.keyState = s.agent.keyState := by
  unfold State.countOutcome
  (repeat' split) <;> simp

@[simp] theorem State.countOutcome_config (op : TransactionOp) (o : BranchOutcome) (s : State) :
    (s.countOutcome op o).config = s.config := by
  unfold State.countOutcome
  (repeat' split) <;> simp

@[simp] theorem State.countOutcome_pending (op : TransactionOp) (o : BranchOutcome) (s : State) :
    (s.countOutcome op o).pending = s.pending := by
  unfold State.countOutcome
  (repeat' split) <;> simp

end Sys2Proof.Machine
end

