-- ==== Sys2Proof/Laws/Scheduling.lean ====
section
/-! SUPPORT. Laws/Scheduling.lean: the frame of each shared operation of the poll scheduler: what it leaves unchanged, field by
field of the state. At the end, what the refill and the countdowns of a tick come to. -/

namespace Sys2Proof.Machine

/-- A fold whose every step keeps a value keeps it. -/
theorem foldl_frame {α β : Type} (get : State → β) (f : State → α → State) (l : List α) (s : State)
    (h : ∀ t i, get (f t i) = get t) : get (l.foldl f s) = get s := by
  induction l generalizing s with
  | nil => rfl
  | cons a l ih => rw [List.foldl_cons, ih, h]

/-! ## The queue's own operations: the timebase, the countdowns and the order mode keep their values (R90 to R93) -/

@[simp] theorem Scheduler.append_tickPeriod (e : EntryIndex) (op : QueueOp) (origin : Origin) (cls : BitVec 2) (q : Scheduler) :
    (q.append e op origin cls).tickPeriod = q.tickPeriod := rfl

@[simp] theorem Scheduler.append_runningPeriod (e : EntryIndex) (op : QueueOp) (origin : Origin) (cls : BitVec 2) (q : Scheduler) :
    (q.append e op origin cls).runningPeriod = q.runningPeriod := rfl

@[simp] theorem Scheduler.append_tickCount (e : EntryIndex) (op : QueueOp) (origin : Origin) (cls : BitVec 2) (q : Scheduler) :
    (q.append e op origin cls).tickCount = q.tickCount := rfl

@[simp] theorem Scheduler.append_countdowns (e : EntryIndex) (op : QueueOp) (origin : Origin) (cls : BitVec 2) (q : Scheduler) :
    (q.append e op origin cls).countdowns = q.countdowns := rfl

@[simp] theorem Scheduler.append_order (e : EntryIndex) (op : QueueOp) (origin : Origin) (cls : BitVec 2) (q : Scheduler) :
    (q.append e op origin cls).order = q.order := rfl

@[simp] theorem Scheduler.merge_tickPeriod (e : EntryIndex) (c : BitVec 2) (q : Scheduler) :
    (q.merge e c).tickPeriod = q.tickPeriod := rfl

@[simp] theorem Scheduler.merge_runningPeriod (e : EntryIndex) (c : BitVec 2) (q : Scheduler) :
    (q.merge e c).runningPeriod = q.runningPeriod := rfl

@[simp] theorem Scheduler.merge_tickCount (e : EntryIndex) (c : BitVec 2) (q : Scheduler) :
    (q.merge e c).tickCount = q.tickCount := rfl

@[simp] theorem Scheduler.merge_countdowns (e : EntryIndex) (c : BitVec 2) (q : Scheduler) :
    (q.merge e c).countdowns = q.countdowns := rfl

@[simp] theorem Scheduler.merge_order (e : EntryIndex) (c : BitVec 2) (q : Scheduler) :
    (q.merge e c).order = q.order := rfl

@[simp] theorem Scheduler.merge_seqCounter (e : EntryIndex) (c : BitVec 2) (q : Scheduler) :
    (q.merge e c).seqCounter = q.seqCounter := rfl

@[simp] theorem Scheduler.defer_tickPeriod (e : EntryIndex) (op : QueueOp) (origin : Origin) (q : Scheduler) :
    (q.defer e op origin).tickPeriod = q.tickPeriod := rfl

@[simp] theorem Scheduler.defer_runningPeriod (e : EntryIndex) (op : QueueOp) (origin : Origin) (q : Scheduler) :
    (q.defer e op origin).runningPeriod = q.runningPeriod := rfl

@[simp] theorem Scheduler.defer_tickCount (e : EntryIndex) (op : QueueOp) (origin : Origin) (q : Scheduler) :
    (q.defer e op origin).tickCount = q.tickCount := rfl

@[simp] theorem Scheduler.defer_countdowns (e : EntryIndex) (op : QueueOp) (origin : Origin) (q : Scheduler) :
    (q.defer e op origin).countdowns = q.countdowns := rfl

@[simp] theorem Scheduler.defer_order (e : EntryIndex) (op : QueueOp) (origin : Origin) (q : Scheduler) :
    (q.defer e op origin).order = q.order := rfl

@[simp] theorem Scheduler.defer_seqCounter (e : EntryIndex) (op : QueueOp) (origin : Origin) (q : Scheduler) :
    (q.defer e op origin).seqCounter = q.seqCounter := rfl

@[simp] theorem Scheduler.emptied_tickPeriod (q : Scheduler) :
    (q.emptied).tickPeriod = q.tickPeriod := rfl

@[simp] theorem Scheduler.emptied_runningPeriod (q : Scheduler) :
    (q.emptied).runningPeriod = q.runningPeriod := rfl

@[simp] theorem Scheduler.emptied_tickCount (q : Scheduler) :
    (q.emptied).tickCount = q.tickCount := rfl

@[simp] theorem Scheduler.emptied_countdowns (q : Scheduler) :
    (q.emptied).countdowns = q.countdowns := rfl

@[simp] theorem Scheduler.emptied_order (q : Scheduler) :
    (q.emptied).order = q.order := rfl

@[simp] theorem Scheduler.emptied_seqCounter (q : Scheduler) :
    (q.emptied).seqCounter = q.seqCounter := rfl

theorem Scheduler.refillFrom_tickPeriod (priority : EntryIndex → BitVec 2) (l : List DeferredElement) (q : Scheduler) :
    (Scheduler.refillFrom priority l q).tickPeriod = q.tickPeriod := by
  induction l generalizing q with
  | nil => rfl
  | cons d rest ih =>
    unfold Scheduler.refillFrom
    split
    · rw [ih]; rfl
    · rfl

@[simp] theorem Scheduler.refill_tickPeriod (priority : EntryIndex → BitVec 2) (q : Scheduler) :
    (Scheduler.refill priority q).tickPeriod = q.tickPeriod :=
  Scheduler.refillFrom_tickPeriod priority q.deferred q

theorem Scheduler.refillFrom_runningPeriod (priority : EntryIndex → BitVec 2) (l : List DeferredElement) (q : Scheduler) :
    (Scheduler.refillFrom priority l q).runningPeriod = q.runningPeriod := by
  induction l generalizing q with
  | nil => rfl
  | cons d rest ih =>
    unfold Scheduler.refillFrom
    split
    · rw [ih]; rfl
    · rfl

@[simp] theorem Scheduler.refill_runningPeriod (priority : EntryIndex → BitVec 2) (q : Scheduler) :
    (Scheduler.refill priority q).runningPeriod = q.runningPeriod :=
  Scheduler.refillFrom_runningPeriod priority q.deferred q

theorem Scheduler.refillFrom_tickCount (priority : EntryIndex → BitVec 2) (l : List DeferredElement) (q : Scheduler) :
    (Scheduler.refillFrom priority l q).tickCount = q.tickCount := by
  induction l generalizing q with
  | nil => rfl
  | cons d rest ih =>
    unfold Scheduler.refillFrom
    split
    · rw [ih]; rfl
    · rfl

@[simp] theorem Scheduler.refill_tickCount (priority : EntryIndex → BitVec 2) (q : Scheduler) :
    (Scheduler.refill priority q).tickCount = q.tickCount :=
  Scheduler.refillFrom_tickCount priority q.deferred q

theorem Scheduler.refillFrom_countdowns (priority : EntryIndex → BitVec 2) (l : List DeferredElement) (q : Scheduler) :
    (Scheduler.refillFrom priority l q).countdowns = q.countdowns := by
  induction l generalizing q with
  | nil => rfl
  | cons d rest ih =>
    unfold Scheduler.refillFrom
    split
    · rw [ih]; rfl
    · rfl

@[simp] theorem Scheduler.refill_countdowns (priority : EntryIndex → BitVec 2) (q : Scheduler) :
    (Scheduler.refill priority q).countdowns = q.countdowns :=
  Scheduler.refillFrom_countdowns priority q.deferred q

theorem Scheduler.refillFrom_order (priority : EntryIndex → BitVec 2) (l : List DeferredElement) (q : Scheduler) :
    (Scheduler.refillFrom priority l q).order = q.order := by
  induction l generalizing q with
  | nil => rfl
  | cons d rest ih =>
    unfold Scheduler.refillFrom
    split
    · rw [ih]; rfl
    · rfl

@[simp] theorem Scheduler.refill_order (priority : EntryIndex → BitVec 2) (q : Scheduler) :
    (Scheduler.refill priority q).order = q.order :=
  Scheduler.refillFrom_order priority q.deferred q

/-! ## removeWork -/

@[simp] theorem State.removeWork_power (gone : EntryIndex → Bool) (s : State) :
    (s.removeWork gone).power = s.power := by
  unfold State.removeWork
  simp

@[simp] theorem State.removeWork_route (gone : EntryIndex → Bool) (s : State) :
    (s.removeWork gone).route = s.route := by
  unfold State.removeWork
  simp

@[simp] theorem State.removeWork_store (gone : EntryIndex → Bool) (s : State) :
    (s.removeWork gone).store = s.store := by
  unfold State.removeWork
  simp

@[simp] theorem State.removeWork_sched_tickPeriod (gone : EntryIndex → Bool) (s : State) :
    (s.removeWork gone).sched.tickPeriod = s.sched.tickPeriod := by
  unfold State.removeWork
  simp

@[simp] theorem State.removeWork_sched_runningPeriod (gone : EntryIndex → Bool) (s : State) :
    (s.removeWork gone).sched.runningPeriod = s.sched.runningPeriod := by
  unfold State.removeWork
  simp

@[simp] theorem State.removeWork_sched_tickCount (gone : EntryIndex → Bool) (s : State) :
    (s.removeWork gone).sched.tickCount = s.sched.tickCount := by
  unfold State.removeWork
  simp

@[simp] theorem State.removeWork_sched_countdowns (gone : EntryIndex → Bool) (s : State) :
    (s.removeWork gone).sched.countdowns = s.sched.countdowns := by
  unfold State.removeWork
  simp

@[simp] theorem State.removeWork_sched_order (gone : EntryIndex → Bool) (s : State) :
    (s.removeWork gone).sched.order = s.sched.order := by
  unfold State.removeWork
  simp

@[simp] theorem State.removeWork_link (gone : EntryIndex → Bool) (s : State) :
    (s.removeWork gone).link = s.link := by
  unfold State.removeWork
  simp

@[simp] theorem State.removeWork_trunk (gone : EntryIndex → Bool) (s : State) :
    (s.removeWork gone).trunk = s.trunk := by
  unfold State.removeWork
  simp

@[simp] theorem State.removeWork_agent (gone : EntryIndex → Bool) (s : State) :
    (s.removeWork gone).agent = s.agent := by
  unfold State.removeWork
  simp

@[simp] theorem State.removeWork_config (gone : EntryIndex → Bool) (s : State) :
    (s.removeWork gone).config = s.config := by
  unfold State.removeWork
  simp

@[simp] theorem State.removeWork_pending (gone : EntryIndex → Bool) (s : State) :
    (s.removeWork gone).pending = s.pending := by
  unfold State.removeWork
  simp

/-! ## request -/

@[simp] theorem State.request_power (e : EntryIndex) (op : QueueOp) (origin : Origin) (s : State) :
    (s.request e op origin).power = s.power := by
  unfold State.request
  (repeat' split) <;> simp

@[simp] theorem State.request_route (e : EntryIndex) (op : QueueOp) (origin : Origin) (s : State) :
    (s.request e op origin).route = s.route := by
  unfold State.request
  (repeat' split) <;> simp

@[simp] theorem State.request_store (e : EntryIndex) (op : QueueOp) (origin : Origin) (s : State) :
    (s.request e op origin).store = s.store := by
  unfold State.request
  (repeat' split) <;> simp

@[simp] theorem State.request_sched_tickPeriod (e : EntryIndex) (op : QueueOp) (origin : Origin) (s : State) :
    (s.request e op origin).sched.tickPeriod = s.sched.tickPeriod := by
  unfold State.request
  (repeat' split) <;> simp

@[simp] theorem State.request_sched_runningPeriod (e : EntryIndex) (op : QueueOp) (origin : Origin) (s : State) :
    (s.request e op origin).sched.runningPeriod = s.sched.runningPeriod := by
  unfold State.request
  (repeat' split) <;> simp

@[simp] theorem State.request_sched_tickCount (e : EntryIndex) (op : QueueOp) (origin : Origin) (s : State) :
    (s.request e op origin).sched.tickCount = s.sched.tickCount := by
  unfold State.request
  (repeat' split) <;> simp

@[simp] theorem State.request_sched_countdowns (e : EntryIndex) (op : QueueOp) (origin : Origin) (s : State) :
    (s.request e op origin).sched.countdowns = s.sched.countdowns := by
  unfold State.request
  (repeat' split) <;> simp

@[simp] theorem State.request_sched_order (e : EntryIndex) (op : QueueOp) (origin : Origin) (s : State) :
    (s.request e op origin).sched.order = s.sched.order := by
  unfold State.request
  (repeat' split) <;> simp

@[simp] theorem State.request_link (e : EntryIndex) (op : QueueOp) (origin : Origin) (s : State) :
    (s.request e op origin).link = s.link := by
  unfold State.request
  (repeat' split) <;> simp

@[simp] theorem State.request_trunk (e : EntryIndex) (op : QueueOp) (origin : Origin) (s : State) :
    (s.request e op origin).trunk = s.trunk := by
  unfold State.request
  (repeat' split) <;> simp

@[simp] theorem State.request_agent_unit (e : EntryIndex) (op : QueueOp) (origin : Origin) (s : State) :
    (s.request e op origin).agent.unit = s.agent.unit := by
  unfold State.request
  (repeat' split) <;> simp

@[simp] theorem State.request_agent_slot (e : EntryIndex) (op : QueueOp) (origin : Origin) (s : State) :
    (s.request e op origin).agent.slot = s.agent.slot := by
  unfold State.request
  (repeat' split) <;> simp

@[simp] theorem State.request_agent_result (e : EntryIndex) (op : QueueOp) (origin : Origin) (s : State) :
    (s.request e op origin).agent.result = s.agent.result := by
  unfold State.request
  (repeat' split) <;> simp

@[simp] theorem State.request_agent_counters (e : EntryIndex) (op : QueueOp) (origin : Origin) (s : State) :
    (s.request e op origin).agent.counters = s.agent.counters := by
  unfold State.request
  (repeat' split) <;> simp

@[simp] theorem State.request_agent_keyState (e : EntryIndex) (op : QueueOp) (origin : Origin) (s : State) :
    (s.request e op origin).agent.keyState = s.agent.keyState := by
  unfold State.request
  (repeat' split) <;> simp

@[simp] theorem State.request_config (e : EntryIndex) (op : QueueOp) (origin : Origin) (s : State) :
    (s.request e op origin).config = s.config := by
  unfold State.request
  (repeat' split) <;> simp

@[simp] theorem State.request_pending (e : EntryIndex) (op : QueueOp) (origin : Origin) (s : State) :
    (s.request e op origin).pending = s.pending := by
  unfold State.request
  (repeat' split) <;> simp

/-! ## demandCheck -/

@[simp] theorem State.demandCheck_power (i : EntryIndex) (e : Entry) (s : State) :
    (s.demandCheck i e).power = s.power := by
  unfold State.demandCheck
  (repeat' split) <;> simp

@[simp] theorem State.demandCheck_route (i : EntryIndex) (e : Entry) (s : State) :
    (s.demandCheck i e).route = s.route := by
  unfold State.demandCheck
  (repeat' split) <;> simp

@[simp] theorem State.demandCheck_store (i : EntryIndex) (e : Entry) (s : State) :
    (s.demandCheck i e).store = s.store := by
  unfold State.demandCheck
  (repeat' split) <;> simp

@[simp] theorem State.demandCheck_sched_tickPeriod (i : EntryIndex) (e : Entry) (s : State) :
    (s.demandCheck i e).sched.tickPeriod = s.sched.tickPeriod := by
  unfold State.demandCheck
  (repeat' split) <;> simp

@[simp] theorem State.demandCheck_sched_runningPeriod (i : EntryIndex) (e : Entry) (s : State) :
    (s.demandCheck i e).sched.runningPeriod = s.sched.runningPeriod := by
  unfold State.demandCheck
  (repeat' split) <;> simp

@[simp] theorem State.demandCheck_sched_tickCount (i : EntryIndex) (e : Entry) (s : State) :
    (s.demandCheck i e).sched.tickCount = s.sched.tickCount := by
  unfold State.demandCheck
  (repeat' split) <;> simp

@[simp] theorem State.demandCheck_sched_countdowns (i : EntryIndex) (e : Entry) (s : State) :
    (s.demandCheck i e).sched.countdowns = s.sched.countdowns := by
  unfold State.demandCheck
  (repeat' split) <;> simp

@[simp] theorem State.demandCheck_sched_order (i : EntryIndex) (e : Entry) (s : State) :
    (s.demandCheck i e).sched.order = s.sched.order := by
  unfold State.demandCheck
  (repeat' split) <;> simp

@[simp] theorem State.demandCheck_link (i : EntryIndex) (e : Entry) (s : State) :
    (s.demandCheck i e).link = s.link := by
  unfold State.demandCheck
  (repeat' split) <;> simp

@[simp] theorem State.demandCheck_trunk (i : EntryIndex) (e : Entry) (s : State) :
    (s.demandCheck i e).trunk = s.trunk := by
  unfold State.demandCheck
  (repeat' split) <;> simp

@[simp] theorem State.demandCheck_agent_unit (i : EntryIndex) (e : Entry) (s : State) :
    (s.demandCheck i e).agent.unit = s.agent.unit := by
  unfold State.demandCheck
  (repeat' split) <;> simp

@[simp] theorem State.demandCheck_agent_slot (i : EntryIndex) (e : Entry) (s : State) :
    (s.demandCheck i e).agent.slot = s.agent.slot := by
  unfold State.demandCheck
  (repeat' split) <;> simp

@[simp] theorem State.demandCheck_agent_result (i : EntryIndex) (e : Entry) (s : State) :
    (s.demandCheck i e).agent.result = s.agent.result := by
  unfold State.demandCheck
  (repeat' split) <;> simp

@[simp] theorem State.demandCheck_agent_counters (i : EntryIndex) (e : Entry) (s : State) :
    (s.demandCheck i e).agent.counters = s.agent.counters := by
  unfold State.demandCheck
  (repeat' split) <;> simp

@[simp] theorem State.demandCheck_agent_keyState (i : EntryIndex) (e : Entry) (s : State) :
    (s.demandCheck i e).agent.keyState = s.agent.keyState := by
  unfold State.demandCheck
  (repeat' split) <;> simp

@[simp] theorem State.demandCheck_config (i : EntryIndex) (e : Entry) (s : State) :
    (s.demandCheck i e).config = s.config := by
  unfold State.demandCheck
  (repeat' split) <;> simp

@[simp] theorem State.demandCheck_pending (i : EntryIndex) (e : Entry) (s : State) :
    (s.demandCheck i e).pending = s.pending := by
  unfold State.demandCheck
  (repeat' split) <;> simp

/-! ## reOffer -/

@[simp] theorem State.reOffer_power (s : State) :
    (s.reOffer).power = s.power := by
  refine foldl_frame (fun t => t.power) _ _ s fun t i => ?_
  by_cases h : ((t.activeEntry i).takesPublish && (t.record i).pending) = true
  · simp only [h, if_true, State.request_power]
  · simp only [h, if_false, Bool.false_eq_true]

@[simp] theorem State.reOffer_route (s : State) :
    (s.reOffer).route = s.route := by
  refine foldl_frame (fun t => t.route) _ _ s fun t i => ?_
  by_cases h : ((t.activeEntry i).takesPublish && (t.record i).pending) = true
  · simp only [h, if_true, State.request_route]
  · simp only [h, if_false, Bool.false_eq_true]

@[simp] theorem State.reOffer_store (s : State) :
    (s.reOffer).store = s.store := by
  refine foldl_frame (fun t => t.store) _ _ s fun t i => ?_
  by_cases h : ((t.activeEntry i).takesPublish && (t.record i).pending) = true
  · simp only [h, if_true, State.request_store]
  · simp only [h, if_false, Bool.false_eq_true]

@[simp] theorem State.reOffer_link (s : State) :
    (s.reOffer).link = s.link := by
  refine foldl_frame (fun t => t.link) _ _ s fun t i => ?_
  by_cases h : ((t.activeEntry i).takesPublish && (t.record i).pending) = true
  · simp only [h, if_true, State.request_link]
  · simp only [h, if_false, Bool.false_eq_true]

@[simp] theorem State.reOffer_trunk (s : State) :
    (s.reOffer).trunk = s.trunk := by
  refine foldl_frame (fun t => t.trunk) _ _ s fun t i => ?_
  by_cases h : ((t.activeEntry i).takesPublish && (t.record i).pending) = true
  · simp only [h, if_true, State.request_trunk]
  · simp only [h, if_false, Bool.false_eq_true]

@[simp] theorem State.reOffer_config (s : State) :
    (s.reOffer).config = s.config := by
  refine foldl_frame (fun t => t.config) _ _ s fun t i => ?_
  by_cases h : ((t.activeEntry i).takesPublish && (t.record i).pending) = true
  · simp only [h, if_true, State.request_config]
  · simp only [h, if_false, Bool.false_eq_true]

@[simp] theorem State.reOffer_pending (s : State) :
    (s.reOffer).pending = s.pending := by
  refine foldl_frame (fun t => t.pending) _ _ s fun t i => ?_
  by_cases h : ((t.activeEntry i).takesPublish && (t.record i).pending) = true
  · simp only [h, if_true, State.request_pending]
  · simp only [h, if_false, Bool.false_eq_true]

/-! ## countdownExpires -/

@[simp] theorem State.countdownExpires_power (i : EntryIndex) (s : State) :
    (s.countdownExpires i).power = s.power := by
  unfold State.countdownExpires
  (try dsimp only)
  (repeat' split) <;> simp

@[simp] theorem State.countdownExpires_route (i : EntryIndex) (s : State) :
    (s.countdownExpires i).route = s.route := by
  unfold State.countdownExpires
  (try dsimp only)
  (repeat' split) <;> simp

@[simp] theorem State.countdownExpires_store (i : EntryIndex) (s : State) :
    (s.countdownExpires i).store = s.store := by
  unfold State.countdownExpires
  (try dsimp only)
  (repeat' split) <;> simp

@[simp] theorem State.countdownExpires_sched_tickPeriod (i : EntryIndex) (s : State) :
    (s.countdownExpires i).sched.tickPeriod = s.sched.tickPeriod := by
  unfold State.countdownExpires
  (try dsimp only)
  (repeat' split) <;> simp

@[simp] theorem State.countdownExpires_sched_runningPeriod (i : EntryIndex) (s : State) :
    (s.countdownExpires i).sched.runningPeriod = s.sched.runningPeriod := by
  unfold State.countdownExpires
  (try dsimp only)
  (repeat' split) <;> simp

@[simp] theorem State.countdownExpires_sched_tickCount (i : EntryIndex) (s : State) :
    (s.countdownExpires i).sched.tickCount = s.sched.tickCount := by
  unfold State.countdownExpires
  (try dsimp only)
  (repeat' split) <;> simp

@[simp] theorem State.countdownExpires_sched_order (i : EntryIndex) (s : State) :
    (s.countdownExpires i).sched.order = s.sched.order := by
  unfold State.countdownExpires
  (try dsimp only)
  (repeat' split) <;> simp

@[simp] theorem State.countdownExpires_link (i : EntryIndex) (s : State) :
    (s.countdownExpires i).link = s.link := by
  unfold State.countdownExpires
  (try dsimp only)
  (repeat' split) <;> simp

@[simp] theorem State.countdownExpires_trunk (i : EntryIndex) (s : State) :
    (s.countdownExpires i).trunk = s.trunk := by
  unfold State.countdownExpires
  (try dsimp only)
  (repeat' split) <;> simp

@[simp] theorem State.countdownExpires_agent_unit (i : EntryIndex) (s : State) :
    (s.countdownExpires i).agent.unit = s.agent.unit := by
  unfold State.countdownExpires
  (try dsimp only)
  (repeat' split) <;> simp

@[simp] theorem State.countdownExpires_agent_slot (i : EntryIndex) (s : State) :
    (s.countdownExpires i).agent.slot = s.agent.slot := by
  unfold State.countdownExpires
  (try dsimp only)
  (repeat' split) <;> simp

@[simp] theorem State.countdownExpires_agent_result (i : EntryIndex) (s : State) :
    (s.countdownExpires i).agent.result = s.agent.result := by
  unfold State.countdownExpires
  (try dsimp only)
  (repeat' split) <;> simp

@[simp] theorem State.countdownExpires_agent_counters (i : EntryIndex) (s : State) :
    (s.countdownExpires i).agent.counters = s.agent.counters := by
  unfold State.countdownExpires
  (try dsimp only)
  (repeat' split) <;> simp

@[simp] theorem State.countdownExpires_agent_keyState (i : EntryIndex) (s : State) :
    (s.countdownExpires i).agent.keyState = s.agent.keyState := by
  unfold State.countdownExpires
  (try dsimp only)
  (repeat' split) <;> simp

@[simp] theorem State.countdownExpires_config (i : EntryIndex) (s : State) :
    (s.countdownExpires i).config = s.config := by
  unfold State.countdownExpires
  (try dsimp only)
  (repeat' split) <;> simp

@[simp] theorem State.countdownExpires_pending (i : EntryIndex) (s : State) :
    (s.countdownExpires i).pending = s.pending := by
  unfold State.countdownExpires
  (try dsimp only)
  (repeat' split) <;> simp

/-! ## tickCountdown -/

@[simp] theorem State.tickCountdown_power (i : EntryIndex) (s : State) :
    (s.tickCountdown i).power = s.power := by
  unfold State.tickCountdown
  (repeat' split) <;> simp

@[simp] theorem State.tickCountdown_route (i : EntryIndex) (s : State) :
    (s.tickCountdown i).route = s.route := by
  unfold State.tickCountdown
  (repeat' split) <;> simp

@[simp] theorem State.tickCountdown_store (i : EntryIndex) (s : State) :
    (s.tickCountdown i).store = s.store := by
  unfold State.tickCountdown
  (repeat' split) <;> simp

@[simp] theorem State.tickCountdown_sched_tickPeriod (i : EntryIndex) (s : State) :
    (s.tickCountdown i).sched.tickPeriod = s.sched.tickPeriod := by
  unfold State.tickCountdown
  (repeat' split) <;> simp

@[simp] theorem State.tickCountdown_sched_runningPeriod (i : EntryIndex) (s : State) :
    (s.tickCountdown i).sched.runningPeriod = s.sched.runningPeriod := by
  unfold State.tickCountdown
  (repeat' split) <;> simp

@[simp] theorem State.tickCountdown_sched_tickCount (i : EntryIndex) (s : State) :
    (s.tickCountdown i).sched.tickCount = s.sched.tickCount := by
  unfold State.tickCountdown
  (repeat' split) <;> simp

@[simp] theorem State.tickCountdown_sched_order (i : EntryIndex) (s : State) :
    (s.tickCountdown i).sched.order = s.sched.order := by
  unfold State.tickCountdown
  (repeat' split) <;> simp

@[simp] theorem State.tickCountdown_link (i : EntryIndex) (s : State) :
    (s.tickCountdown i).link = s.link := by
  unfold State.tickCountdown
  (repeat' split) <;> simp

@[simp] theorem State.tickCountdown_trunk (i : EntryIndex) (s : State) :
    (s.tickCountdown i).trunk = s.trunk := by
  unfold State.tickCountdown
  (repeat' split) <;> simp

@[simp] theorem State.tickCountdown_agent_unit (i : EntryIndex) (s : State) :
    (s.tickCountdown i).agent.unit = s.agent.unit := by
  unfold State.tickCountdown
  (repeat' split) <;> simp

@[simp] theorem State.tickCountdown_agent_slot (i : EntryIndex) (s : State) :
    (s.tickCountdown i).agent.slot = s.agent.slot := by
  unfold State.tickCountdown
  (repeat' split) <;> simp

@[simp] theorem State.tickCountdown_agent_result (i : EntryIndex) (s : State) :
    (s.tickCountdown i).agent.result = s.agent.result := by
  unfold State.tickCountdown
  (repeat' split) <;> simp

@[simp] theorem State.tickCountdown_agent_counters (i : EntryIndex) (s : State) :
    (s.tickCountdown i).agent.counters = s.agent.counters := by
  unfold State.tickCountdown
  (repeat' split) <;> simp

@[simp] theorem State.tickCountdown_agent_keyState (i : EntryIndex) (s : State) :
    (s.tickCountdown i).agent.keyState = s.agent.keyState := by
  unfold State.tickCountdown
  (repeat' split) <;> simp

@[simp] theorem State.tickCountdown_config (i : EntryIndex) (s : State) :
    (s.tickCountdown i).config = s.config := by
  unfold State.tickCountdown
  (repeat' split) <;> simp

@[simp] theorem State.tickCountdown_pending (i : EntryIndex) (s : State) :
    (s.tickCountdown i).pending = s.pending := by
  unfold State.tickCountdown
  (repeat' split) <;> simp

/-! ## tickCountdowns -/

@[simp] theorem State.tickCountdowns_power (s : State) :
    (s.tickCountdowns).power = s.power := by
  unfold State.tickCountdowns
  exact foldl_frame (fun t => t.power) _ _ s fun t i => by simp

@[simp] theorem State.tickCountdowns_route (s : State) :
    (s.tickCountdowns).route = s.route := by
  unfold State.tickCountdowns
  exact foldl_frame (fun t => t.route) _ _ s fun t i => by simp

@[simp] theorem State.tickCountdowns_store (s : State) :
    (s.tickCountdowns).store = s.store := by
  unfold State.tickCountdowns
  exact foldl_frame (fun t => t.store) _ _ s fun t i => by simp

@[simp] theorem State.tickCountdowns_sched_tickPeriod (s : State) :
    (s.tickCountdowns).sched.tickPeriod = s.sched.tickPeriod := by
  unfold State.tickCountdowns
  exact foldl_frame (fun t => t.sched.tickPeriod) _ _ s fun t i => by simp

@[simp] theorem State.tickCountdowns_sched_runningPeriod (s : State) :
    (s.tickCountdowns).sched.runningPeriod = s.sched.runningPeriod := by
  unfold State.tickCountdowns
  exact foldl_frame (fun t => t.sched.runningPeriod) _ _ s fun t i => by simp

@[simp] theorem State.tickCountdowns_sched_tickCount (s : State) :
    (s.tickCountdowns).sched.tickCount = s.sched.tickCount := by
  unfold State.tickCountdowns
  exact foldl_frame (fun t => t.sched.tickCount) _ _ s fun t i => by simp

@[simp] theorem State.tickCountdowns_sched_order (s : State) :
    (s.tickCountdowns).sched.order = s.sched.order := by
  unfold State.tickCountdowns
  exact foldl_frame (fun t => t.sched.order) _ _ s fun t i => by simp

@[simp] theorem State.tickCountdowns_link (s : State) :
    (s.tickCountdowns).link = s.link := by
  unfold State.tickCountdowns
  exact foldl_frame (fun t => t.link) _ _ s fun t i => by simp

@[simp] theorem State.tickCountdowns_trunk (s : State) :
    (s.tickCountdowns).trunk = s.trunk := by
  unfold State.tickCountdowns
  exact foldl_frame (fun t => t.trunk) _ _ s fun t i => by simp

@[simp] theorem State.tickCountdowns_agent_unit (s : State) :
    (s.tickCountdowns).agent.unit = s.agent.unit := by
  unfold State.tickCountdowns
  exact foldl_frame (fun t => t.agent.unit) _ _ s fun t i => by simp

@[simp] theorem State.tickCountdowns_agent_slot (s : State) :
    (s.tickCountdowns).agent.slot = s.agent.slot := by
  unfold State.tickCountdowns
  exact foldl_frame (fun t => t.agent.slot) _ _ s fun t i => by simp

@[simp] theorem State.tickCountdowns_agent_result (s : State) :
    (s.tickCountdowns).agent.result = s.agent.result := by
  unfold State.tickCountdowns
  exact foldl_frame (fun t => t.agent.result) _ _ s fun t i => by simp

@[simp] theorem State.tickCountdowns_agent_counters (s : State) :
    (s.tickCountdowns).agent.counters = s.agent.counters := by
  unfold State.tickCountdowns
  exact foldl_frame (fun t => t.agent.counters) _ _ s fun t i => by simp

@[simp] theorem State.tickCountdowns_agent_keyState (s : State) :
    (s.tickCountdowns).agent.keyState = s.agent.keyState := by
  unfold State.tickCountdowns
  exact foldl_frame (fun t => t.agent.keyState) _ _ s fun t i => by simp

@[simp] theorem State.tickCountdowns_config (s : State) :
    (s.tickCountdowns).config = s.config := by
  unfold State.tickCountdowns
  exact foldl_frame (fun t => t.config) _ _ s fun t i => by simp

@[simp] theorem State.tickCountdowns_pending (s : State) :
    (s.tickCountdowns).pending = s.pending := by
  unfold State.tickCountdowns
  exact foldl_frame (fun t => t.pending) _ _ s fun t i => by simp

/-! ## reloadCountdown -/

@[simp] theorem State.reloadCountdown_power (i : EntryIndex) (s : State) :
    (s.reloadCountdown i).power = s.power := by
  unfold State.reloadCountdown
  (repeat' split) <;> simp

@[simp] theorem State.reloadCountdown_route (i : EntryIndex) (s : State) :
    (s.reloadCountdown i).route = s.route := by
  unfold State.reloadCountdown
  (repeat' split) <;> simp

@[simp] theorem State.reloadCountdown_store (i : EntryIndex) (s : State) :
    (s.reloadCountdown i).store = s.store := by
  unfold State.reloadCountdown
  (repeat' split) <;> simp

@[simp] theorem State.reloadCountdown_sched_tickPeriod (i : EntryIndex) (s : State) :
    (s.reloadCountdown i).sched.tickPeriod = s.sched.tickPeriod := by
  unfold State.reloadCountdown
  (repeat' split) <;> simp

@[simp] theorem State.reloadCountdown_sched_runningPeriod (i : EntryIndex) (s : State) :
    (s.reloadCountdown i).sched.runningPeriod = s.sched.runningPeriod := by
  unfold State.reloadCountdown
  (repeat' split) <;> simp

@[simp] theorem State.reloadCountdown_sched_tickCount (i : EntryIndex) (s : State) :
    (s.reloadCountdown i).sched.tickCount = s.sched.tickCount := by
  unfold State.reloadCountdown
  (repeat' split) <;> simp

@[simp] theorem State.reloadCountdown_sched_queue (i : EntryIndex) (s : State) :
    (s.reloadCountdown i).sched.queue = s.sched.queue := by
  unfold State.reloadCountdown
  (repeat' split) <;> simp

@[simp] theorem State.reloadCountdown_sched_deferred (i : EntryIndex) (s : State) :
    (s.reloadCountdown i).sched.deferred = s.sched.deferred := by
  unfold State.reloadCountdown
  (repeat' split) <;> simp

@[simp] theorem State.reloadCountdown_sched_seqCounter (i : EntryIndex) (s : State) :
    (s.reloadCountdown i).sched.seqCounter = s.sched.seqCounter := by
  unfold State.reloadCountdown
  (repeat' split) <;> simp

@[simp] theorem State.reloadCountdown_sched_order (i : EntryIndex) (s : State) :
    (s.reloadCountdown i).sched.order = s.sched.order := by
  unfold State.reloadCountdown
  (repeat' split) <;> simp

@[simp] theorem State.reloadCountdown_link (i : EntryIndex) (s : State) :
    (s.reloadCountdown i).link = s.link := by
  unfold State.reloadCountdown
  (repeat' split) <;> simp

@[simp] theorem State.reloadCountdown_trunk (i : EntryIndex) (s : State) :
    (s.reloadCountdown i).trunk = s.trunk := by
  unfold State.reloadCountdown
  (repeat' split) <;> simp

@[simp] theorem State.reloadCountdown_agent (i : EntryIndex) (s : State) :
    (s.reloadCountdown i).agent = s.agent := by
  unfold State.reloadCountdown
  (repeat' split) <;> simp

@[simp] theorem State.reloadCountdown_config (i : EntryIndex) (s : State) :
    (s.reloadCountdown i).config = s.config := by
  unfold State.reloadCountdown
  (repeat' split) <;> simp

@[simp] theorem State.reloadCountdown_pending (i : EntryIndex) (s : State) :
    (s.reloadCountdown i).pending = s.pending := by
  unfold State.reloadCountdown
  (repeat' split) <;> simp

/-! ## What the refill and the countdowns of a tick come to -/

/-- The refill from a list of elements (R93): as many of them, in order, as the queue has room for. -/
theorem Scheduler.refillFrom_eq (priority : EntryIndex → BitVec 2) (l : List DeferredElement) (q : Scheduler) :
    Scheduler.refillFrom priority l q =
      { q with
        queue :=
          q.queue ++
            (l.take (16 - q.queue.length)).mapIdx fun k d =>
              { entry := d.entry, op := d.op, origin := d.origin, cls := priority d.entry,
                seq := q.seqCounter + BitVec.ofNat 16 k }
        deferred := l.drop (16 - q.queue.length)
        seqCounter := q.seqCounter + BitVec.ofNat 16 (l.take (16 - q.queue.length)).length } := by
  induction l generalizing q with
  | nil => simp [Scheduler.refillFrom]
  | cons d rest ih =>
    unfold Scheduler.refillFrom
    by_cases h : q.queue.length < queueCapacity
    · obtain ⟨m, hm⟩ : ∃ m, 16 - q.queue.length = m + 1 :=
        ⟨15 - q.queue.length, by simp [queueCapacity] at h; omega⟩
      have hm' : 16 - (q.queue.length + 1) = m := by omega
      have hs : ∀ k : Nat, q.seqCounter + 1#16 + BitVec.ofNat 16 k = q.seqCounter + BitVec.ofNat 16 (k + 1) := by
        intro k
        rw [BitVec.add_assoc, Nat.add_comm k 1, BitVec.ofNat_add]
      rw [if_pos h, ih]
      simp [Scheduler.append, hm, hm', hs, List.mapIdx_cons]
    · have h0 : 16 - q.queue.length = 0 := by simp [queueCapacity] at h; omega
      rw [if_neg h]
      simp [h0]

/-- The refill (R93): the queue keeps its items and takes deferred elements behind them, lowest first, while it has
room. -/
theorem Scheduler.refill_eq (priority : EntryIndex → BitVec 2) (q : Scheduler) :
    Scheduler.refill priority q =
      { q with
        queue :=
          q.queue ++
            (q.deferred.take (16 - q.queue.length)).mapIdx fun k d =>
              { entry := d.entry, op := d.op, origin := d.origin, cls := priority d.entry,
                seq := q.seqCounter + BitVec.ofNat 16 k }
        deferred := q.deferred.drop (16 - q.queue.length)
        seqCounter := q.seqCounter + BitVec.ofNat 16 (q.deferred.take (16 - q.queue.length)).length } :=
  Scheduler.refillFrom_eq priority q.deferred q

/-- A request neither reads nor writes a countdown. -/
theorem State.request_setCountdown (e j : EntryIndex) (op : QueueOp) (origin : Origin) (v : Byte) (s : State) :
    (s.setCountdown j v).request e op origin = (s.request e op origin).setCountdown j v := by
  have h : (s.setCountdown j v).disposition e origin = s.disposition e origin := rfl
  unfold State.request
  rw [h]
  cases s.disposition e origin <;> rfl

/-- A request neither reads nor writes the countdowns. -/
theorem State.request_withCountdowns (e : EntryIndex) (op : QueueOp) (origin : Origin) (v : Vector Byte 64) (s : State) :
    (s.mapSched fun q => { q with countdowns := v }).request e op origin =
      (s.request e op origin).mapSched fun q => { q with countdowns := v } := by
  have h : (s.mapSched fun q => { q with countdowns := v }).disposition e origin = s.disposition e origin := rfl
  unfold State.request
  rw [h]
  cases s.disposition e origin <;> rfl

/-- What a tick leaves in the countdown of index i (R86). -/
def State.countdownTicked (s : State) (i : EntryIndex) : Byte :=
  if (s.activeEntry i).countdownRuns then
    if reachesZero (s.countdown i) then (s.activeEntry i).refresh else s.countdown i - 1#8
  else s.countdown i

/-- The tick's part for a list of countdowns (R86): every countdown of the list has ticked, and then a PERIODIC REFRESH
is requested for those that were due, in the list's order, unless the link state suppresses it. -/
theorem State.foldl_tickCountdown_eq (l : List EntryIndex) (hn : l.Nodup) (s : State) :
    l.foldl State.tickCountdown s =
      (l.filter s.countdownDue).foldl
        (fun t i => if s.link.state.suppressesPeriodic then t else t.request i .refresh .periodic)
        (s.mapSched fun q =>
          { q with
            countdowns := Vector.ofFn fun j => if j ∈ l then s.countdownTicked j else s.countdown j }) := by
  induction l generalizing s with
  | nil =>
    have h : (Vector.ofFn fun j => s.countdown j) = s.sched.countdowns := by
      apply Vector.ext; intro k hk; simp [State.countdown, Vector.get_eq_getElem]
    simp [State.mapSched, h]
  | cons i l ih =>
    have hil : i ∉ l := (List.nodup_cons.1 hn).1
    rw [List.foldl_cons, ih (List.nodup_cons.1 hn).2]
    have hA : ∀ j, (s.tickCountdown i).activeEntry j = s.activeEntry j := by
      intro j; simp [State.activeEntry]
    have hC : ∀ j, (s.tickCountdown i).countdown j = if j = i then s.countdownTicked i else s.countdown j := by
      intro j
      have : ∀ v : Byte, (s.setCountdown i v).countdown j = if j = i then v else s.countdown j := by
        intro v
        by_cases h : j = i
        · subst h; simp
        · simp [h, Ne.symm h]
      by_cases h1 : s.countdownDue i = true
      · have h2 := h1
        simp [State.countdownDue] at h2
        simp only [State.tickCountdown, h1, if_true, State.countdownExpires, State.countdownTicked, h2.1, h2.2]
        split
        · exact this _
        · have := this (s.activeEntry i).refresh
          simp [State.countdown] at this ⊢
          exact this
      · simp only [State.tickCountdown, h1]
        by_cases h3 : (s.activeEntry i).countdownRuns = true
        · have h4 : reachesZero (s.countdown i) = false := by
            simpa [State.countdownDue, h3] using h1
          simp [h3, this, State.countdownTicked, h4]
        · simp [h3, State.countdownTicked]
          intro h; subst h; rfl
    have hD : ∀ j ∈ l, (s.tickCountdown i).countdownDue j = s.countdownDue j := by
      intro j hj
      have : j ≠ i := fun e => hil (e ▸ hj)
      simp [State.countdownDue, hA, hC, this]
    have hv : (Vector.ofFn fun j => if j ∈ l then (s.tickCountdown i).countdownTicked j else (s.tickCountdown i).countdown j)
       = Vector.ofFn fun j => if j ∈ i :: l then s.countdownTicked j else s.countdown j := by
      congr 1; funext j
      by_cases hj : j ∈ l
      · have : j ≠ i := fun e => hil (e ▸ hj)
        simp [hj, State.countdownTicked, hA, hC, this]
      · by_cases h : j = i
        · subst h; simp [hj, hC]
        · simp [hj, h, hC]
    rw [List.filter_congr hD, hv, State.tickCountdown_link]
    generalize (Vector.ofFn fun j => if j ∈ i :: l then s.countdownTicked j else s.countdown j) = v
    by_cases h1 : s.countdownDue i = true
    · simp only [List.filter_cons, h1, if_true, List.foldl_cons]
      congr 1
      simp only [State.tickCountdown, h1, if_true, State.countdownExpires]
      have e1 : (s.setCountdown i (s.activeEntry i).refresh).link = s.link := rfl
      rw [e1]
      by_cases hx : s.link.state.suppressesPeriodic = true
      · simp only [hx, if_true]; rfl
      · simp only [hx]
        rw [State.request_withCountdowns]
        simp only [State.request_setCountdown]
        rfl
    · simp only [List.filter_cons, h1]
      congr 1
      simp only [State.tickCountdown, h1]
      by_cases h3 : (s.activeEntry i).countdownRuns = true
      · simp [h3]; rfl
      · simp [h3]

end Sys2Proof.Machine
end

