-- ==== Sys2Proof/Laws/Table.lean ====
section
/-! SUPPORT. Laws/Table.lean: the frame of each shared operation of the route table and of taking commands: what it leaves unchanged, field by
field of the state. -/

namespace Sys2Proof.Machine

/-! ## Banks by role (R19) -/

@[simp] theorem RouteTable.setEdit_activeBank (b : Bank) (r : RouteTable) : (r.setEdit b).activeBank = r.activeBank := by
  unfold RouteTable.setEdit
  cases r.activeBank <;> rfl

@[simp] theorem RouteTable.setEdit_readBank (b : Bank) (r : RouteTable) : (r.setEdit b).readBank = r.readBank := by
  unfold RouteTable.setEdit
  cases r.activeBank <;> rfl

@[simp] theorem RouteTable.setEdit_readIndex (b : Bank) (r : RouteTable) : (r.setEdit b).readIndex = r.readIndex := by
  unfold RouteTable.setEdit
  cases r.activeBank <;> rfl

@[simp] theorem RouteTable.setEdit_writeIndex (b : Bank) (r : RouteTable) : (r.setEdit b).writeIndex = r.writeIndex := by
  unfold RouteTable.setEdit
  cases r.activeBank <;> rfl

@[simp] theorem RouteTable.setEdit_commitCount (b : Bank) (r : RouteTable) : (r.setEdit b).commitCount = r.commitCount := by
  unfold RouteTable.setEdit
  cases r.activeBank <;> rfl

@[simp] theorem RouteTable.setEdit_commitPending (b : Bank) (r : RouteTable) : (r.setEdit b).commitPending = r.commitPending := by
  unfold RouteTable.setEdit
  cases r.activeBank <;> rfl

@[simp] theorem RouteTable.setEdit_activeContents (b : Bank) (r : RouteTable) :
    (r.setEdit b).activeContents = r.activeContents := by
  unfold RouteTable.activeContents RouteTable.setEdit RouteTable.bankOf
  cases h : r.activeBank <;> simp

@[simp] theorem RouteTable.setEdit_editContents (b : Bank) (r : RouteTable) : (r.setEdit b).editContents = b := by
  unfold RouteTable.editContents RouteTable.setEdit RouteTable.bankOf
  cases h : r.activeBank <;> simp [BankId.other]

@[simp] theorem RouteTable.swapped_activeContents (r : RouteTable) : r.swapped.activeContents = r.editContents := by
  unfold RouteTable.activeContents RouteTable.editContents RouteTable.swapped RouteTable.bankOf
  cases r.activeBank <;> rfl

@[simp] theorem RouteTable.swapped_editContents (r : RouteTable) : r.swapped.editContents = r.activeContents := by
  unfold RouteTable.activeContents RouteTable.editContents RouteTable.swapped RouteTable.bankOf
  cases r.activeBank <;> rfl

theorem State.applyCommit_route_eq (s : State) : s.applyCommit.route = s.route.swapped :=
  rfl

/-! ## recordAnswer -/

@[simp] theorem State.recordAnswer_power (code tag : Byte) (a : Answer) (s : State) :
    (s.recordAnswer code tag a).power = s.power := by
  unfold State.recordAnswer
  (repeat' split) <;> simp

@[simp] theorem State.recordAnswer_route (code tag : Byte) (a : Answer) (s : State) :
    (s.recordAnswer code tag a).route = s.route := by
  unfold State.recordAnswer
  (repeat' split) <;> simp

@[simp] theorem State.recordAnswer_store (code tag : Byte) (a : Answer) (s : State) :
    (s.recordAnswer code tag a).store = s.store := by
  unfold State.recordAnswer
  (repeat' split) <;> simp

@[simp] theorem State.recordAnswer_sched (code tag : Byte) (a : Answer) (s : State) :
    (s.recordAnswer code tag a).sched = s.sched := by
  unfold State.recordAnswer
  (repeat' split) <;> simp

@[simp] theorem State.recordAnswer_link (code tag : Byte) (a : Answer) (s : State) :
    (s.recordAnswer code tag a).link = s.link := by
  unfold State.recordAnswer
  (repeat' split) <;> simp

@[simp] theorem State.recordAnswer_trunk (code tag : Byte) (a : Answer) (s : State) :
    (s.recordAnswer code tag a).trunk = s.trunk := by
  unfold State.recordAnswer
  (repeat' split) <;> simp

@[simp] theorem State.recordAnswer_agent_unit (code tag : Byte) (a : Answer) (s : State) :
    (s.recordAnswer code tag a).agent.unit = s.agent.unit := by
  unfold State.recordAnswer
  (repeat' split) <;> simp

@[simp] theorem State.recordAnswer_agent_flags (code tag : Byte) (a : Answer) (s : State) :
    (s.recordAnswer code tag a).agent.flags = s.agent.flags := by
  unfold State.recordAnswer
  (repeat' split) <;> simp

@[simp] theorem State.recordAnswer_agent_counters (code tag : Byte) (a : Answer) (s : State) :
    (s.recordAnswer code tag a).agent.counters = s.agent.counters := by
  unfold State.recordAnswer
  (repeat' split) <;> simp

@[simp] theorem State.recordAnswer_agent_keyState (code tag : Byte) (a : Answer) (s : State) :
    (s.recordAnswer code tag a).agent.keyState = s.agent.keyState := by
  unfold State.recordAnswer
  (repeat' split) <;> simp

@[simp] theorem State.recordAnswer_config (code tag : Byte) (a : Answer) (s : State) :
    (s.recordAnswer code tag a).config = s.config := by
  unfold State.recordAnswer
  (repeat' split) <;> simp

@[simp] theorem State.recordAnswer_pending (code tag : Byte) (a : Answer) (s : State) :
    (s.recordAnswer code tag a).pending = s.pending := by
  unfold State.recordAnswer
  (repeat' split) <;> simp

/-! ## finishPending -/

@[simp] theorem State.finishPending_power (code : Byte) (a : Answer) (s : State) :
    (s.finishPending code a).power = s.power := by
  unfold State.finishPending
  (try dsimp only)
  (repeat' split) <;> simp

@[simp] theorem State.finishPending_route (code : Byte) (a : Answer) (s : State) :
    (s.finishPending code a).route = s.route := by
  unfold State.finishPending
  (try dsimp only)
  (repeat' split) <;> simp

@[simp] theorem State.finishPending_store (code : Byte) (a : Answer) (s : State) :
    (s.finishPending code a).store = s.store := by
  unfold State.finishPending
  (try dsimp only)
  (repeat' split) <;> simp

@[simp] theorem State.finishPending_sched (code : Byte) (a : Answer) (s : State) :
    (s.finishPending code a).sched = s.sched := by
  unfold State.finishPending
  (try dsimp only)
  (repeat' split) <;> simp

@[simp] theorem State.finishPending_link (code : Byte) (a : Answer) (s : State) :
    (s.finishPending code a).link = s.link := by
  unfold State.finishPending
  (try dsimp only)
  (repeat' split) <;> simp

@[simp] theorem State.finishPending_trunk (code : Byte) (a : Answer) (s : State) :
    (s.finishPending code a).trunk = s.trunk := by
  unfold State.finishPending
  (try dsimp only)
  (repeat' split) <;> simp

@[simp] theorem State.finishPending_agent_unit (code : Byte) (a : Answer) (s : State) :
    (s.finishPending code a).agent.unit = s.agent.unit := by
  unfold State.finishPending
  (try dsimp only)
  (repeat' split) <;> simp

@[simp] theorem State.finishPending_agent_flags (code : Byte) (a : Answer) (s : State) :
    (s.finishPending code a).agent.flags = s.agent.flags := by
  unfold State.finishPending
  (try dsimp only)
  (repeat' split) <;> simp

@[simp] theorem State.finishPending_agent_counters (code : Byte) (a : Answer) (s : State) :
    (s.finishPending code a).agent.counters = s.agent.counters := by
  unfold State.finishPending
  (try dsimp only)
  (repeat' split) <;> simp

@[simp] theorem State.finishPending_agent_keyState (code : Byte) (a : Answer) (s : State) :
    (s.finishPending code a).agent.keyState = s.agent.keyState := by
  unfold State.finishPending
  (try dsimp only)
  (repeat' split) <;> simp

@[simp] theorem State.finishPending_config (code : Byte) (a : Answer) (s : State) :
    (s.finishPending code a).config = s.config := by
  unfold State.finishPending
  (try dsimp only)
  (repeat' split) <;> simp

@[simp] theorem State.finishPending_pending (code : Byte) (a : Answer) (s : State) :
    (s.finishPending code a).pending = s.pending := by
  unfold State.finishPending
  (try dsimp only)
  (repeat' split) <;> simp

/-! ## refuseRecord -/

@[simp] theorem State.refuseRecord_power (tag : Byte) (s : State) :
    (s.refuseRecord tag).power = s.power := by
  unfold State.refuseRecord
  (try dsimp only)
  simp

@[simp] theorem State.refuseRecord_route (tag : Byte) (s : State) :
    (s.refuseRecord tag).route = s.route := by
  unfold State.refuseRecord
  (try dsimp only)
  simp

@[simp] theorem State.refuseRecord_store (tag : Byte) (s : State) :
    (s.refuseRecord tag).store = s.store := by
  unfold State.refuseRecord
  (try dsimp only)
  simp

@[simp] theorem State.refuseRecord_sched (tag : Byte) (s : State) :
    (s.refuseRecord tag).sched = s.sched := by
  unfold State.refuseRecord
  (try dsimp only)
  simp

@[simp] theorem State.refuseRecord_link (tag : Byte) (s : State) :
    (s.refuseRecord tag).link = s.link := by
  unfold State.refuseRecord
  (try dsimp only)
  simp

@[simp] theorem State.refuseRecord_trunk (tag : Byte) (s : State) :
    (s.refuseRecord tag).trunk = s.trunk := by
  unfold State.refuseRecord
  (try dsimp only)
  simp

@[simp] theorem State.refuseRecord_agent_unit (tag : Byte) (s : State) :
    (s.refuseRecord tag).agent.unit = s.agent.unit := by
  unfold State.refuseRecord
  (try dsimp only)
  simp

@[simp] theorem State.refuseRecord_agent_slot (tag : Byte) (s : State) :
    (s.refuseRecord tag).agent.slot = s.agent.slot := by
  unfold State.refuseRecord
  (try dsimp only)
  simp

@[simp] theorem State.refuseRecord_agent_flags (tag : Byte) (s : State) :
    (s.refuseRecord tag).agent.flags = s.agent.flags := by
  unfold State.refuseRecord
  (try dsimp only)
  simp

@[simp] theorem State.refuseRecord_agent_counters (tag : Byte) (s : State) :
    (s.refuseRecord tag).agent.counters = s.agent.counters := by
  unfold State.refuseRecord
  (try dsimp only)
  simp

@[simp] theorem State.refuseRecord_agent_keyState (tag : Byte) (s : State) :
    (s.refuseRecord tag).agent.keyState = s.agent.keyState := by
  unfold State.refuseRecord
  (try dsimp only)
  simp

@[simp] theorem State.refuseRecord_config (tag : Byte) (s : State) :
    (s.refuseRecord tag).config = s.config := by
  unfold State.refuseRecord
  (try dsimp only)
  simp

@[simp] theorem State.refuseRecord_pending (tag : Byte) (s : State) :
    (s.refuseRecord tag).pending = s.pending := by
  unfold State.refuseRecord
  (try dsimp only)
  simp

/-! ## receiveRecord -/

@[simp] theorem State.receiveRecord_power (s : State) :
    (s.receiveRecord).power = s.power := by
  unfold State.receiveRecord
  simp

@[simp] theorem State.receiveRecord_route (s : State) :
    (s.receiveRecord).route = s.route := by
  unfold State.receiveRecord
  simp

@[simp] theorem State.receiveRecord_store (s : State) :
    (s.receiveRecord).store = s.store := by
  unfold State.receiveRecord
  simp

@[simp] theorem State.receiveRecord_sched (s : State) :
    (s.receiveRecord).sched = s.sched := by
  unfold State.receiveRecord
  simp

@[simp] theorem State.receiveRecord_link (s : State) :
    (s.receiveRecord).link = s.link := by
  unfold State.receiveRecord
  simp

@[simp] theorem State.receiveRecord_trunk_stamp (s : State) :
    (s.receiveRecord).trunk.stamp = s.trunk.stamp := by
  unfold State.receiveRecord
  simp

@[simp] theorem State.receiveRecord_trunk_rate (s : State) :
    (s.receiveRecord).trunk.rate = s.trunk.rate := by
  unfold State.receiveRecord
  simp

@[simp] theorem State.receiveRecord_trunk_receiver (s : State) :
    (s.receiveRecord).trunk.receiver = s.trunk.receiver := by
  unfold State.receiveRecord
  simp

@[simp] theorem State.receiveRecord_trunk_sinceH1 (s : State) :
    (s.receiveRecord).trunk.sinceH1 = s.trunk.sinceH1 := by
  unfold State.receiveRecord
  simp

@[simp] theorem State.receiveRecord_agent_unit (s : State) :
    (s.receiveRecord).agent.unit = s.agent.unit := by
  unfold State.receiveRecord
  simp

@[simp] theorem State.receiveRecord_agent_slot (s : State) :
    (s.receiveRecord).agent.slot = s.agent.slot := by
  unfold State.receiveRecord
  simp

@[simp] theorem State.receiveRecord_agent_result (s : State) :
    (s.receiveRecord).agent.result = s.agent.result := by
  unfold State.receiveRecord
  simp

@[simp] theorem State.receiveRecord_agent_flags (s : State) :
    (s.receiveRecord).agent.flags = s.agent.flags := by
  unfold State.receiveRecord
  simp

@[simp] theorem State.receiveRecord_agent_counters (s : State) :
    (s.receiveRecord).agent.counters = s.agent.counters := by
  unfold State.receiveRecord
  simp

@[simp] theorem State.receiveRecord_config (s : State) :
    (s.receiveRecord).config = s.config := by
  unfold State.receiveRecord
  simp

@[simp] theorem State.receiveRecord_pending (s : State) :
    (s.receiveRecord).pending = s.pending := by
  unfold State.receiveRecord
  simp

/-! ## recordsAtCommit -/

@[simp] theorem State.recordsAtCommit_power (old : Bank) (s : State) :
    (s.recordsAtCommit old).power = s.power := by
  unfold State.recordsAtCommit
  simp

@[simp] theorem State.recordsAtCommit_route (old : Bank) (s : State) :
    (s.recordsAtCommit old).route = s.route := by
  unfold State.recordsAtCommit
  simp

@[simp] theorem State.recordsAtCommit_store_readIndex (old : Bank) (s : State) :
    (s.recordsAtCommit old).store.readIndex = s.store.readIndex := by
  unfold State.recordsAtCommit
  simp

@[simp] theorem State.recordsAtCommit_store_readHalf (old : Bank) (s : State) :
    (s.recordsAtCommit old).store.readHalf = s.store.readHalf := by
  unfold State.recordsAtCommit
  simp

@[simp] theorem State.recordsAtCommit_store_staging (old : Bank) (s : State) :
    (s.recordsAtCommit old).store.staging = s.store.staging := by
  unfold State.recordsAtCommit
  simp

@[simp] theorem State.recordsAtCommit_sched (old : Bank) (s : State) :
    (s.recordsAtCommit old).sched = s.sched := by
  unfold State.recordsAtCommit
  simp

@[simp] theorem State.recordsAtCommit_link (old : Bank) (s : State) :
    (s.recordsAtCommit old).link = s.link := by
  unfold State.recordsAtCommit
  simp

@[simp] theorem State.recordsAtCommit_trunk (old : Bank) (s : State) :
    (s.recordsAtCommit old).trunk = s.trunk := by
  unfold State.recordsAtCommit
  simp

@[simp] theorem State.recordsAtCommit_agent (old : Bank) (s : State) :
    (s.recordsAtCommit old).agent = s.agent := by
  unfold State.recordsAtCommit
  simp

@[simp] theorem State.recordsAtCommit_config (old : Bank) (s : State) :
    (s.recordsAtCommit old).config = s.config := by
  unfold State.recordsAtCommit
  simp

@[simp] theorem State.recordsAtCommit_pending (old : Bank) (s : State) :
    (s.recordsAtCommit old).pending = s.pending := by
  unfold State.recordsAtCommit
  simp

/-! ## schedAtCommit -/

@[simp] theorem State.schedAtCommit_power (old : Bank) (s : State) :
    (s.schedAtCommit old).power = s.power := by
  unfold State.schedAtCommit
  (try dsimp only)
  simp

@[simp] theorem State.schedAtCommit_route (old : Bank) (s : State) :
    (s.schedAtCommit old).route = s.route := by
  unfold State.schedAtCommit
  (try dsimp only)
  simp

@[simp] theorem State.schedAtCommit_store (old : Bank) (s : State) :
    (s.schedAtCommit old).store = s.store := by
  unfold State.schedAtCommit
  (try dsimp only)
  simp

@[simp] theorem State.schedAtCommit_sched_tickPeriod (old : Bank) (s : State) :
    (s.schedAtCommit old).sched.tickPeriod = s.sched.tickPeriod := by
  unfold State.schedAtCommit
  (try dsimp only)
  simp

@[simp] theorem State.schedAtCommit_sched_runningPeriod (old : Bank) (s : State) :
    (s.schedAtCommit old).sched.runningPeriod = s.sched.runningPeriod := by
  unfold State.schedAtCommit
  (try dsimp only)
  simp

@[simp] theorem State.schedAtCommit_sched_tickCount (old : Bank) (s : State) :
    (s.schedAtCommit old).sched.tickCount = s.sched.tickCount := by
  unfold State.schedAtCommit
  (try dsimp only)
  simp

@[simp] theorem State.schedAtCommit_sched_order (old : Bank) (s : State) :
    (s.schedAtCommit old).sched.order = s.sched.order := by
  unfold State.schedAtCommit
  (try dsimp only)
  simp

@[simp] theorem State.schedAtCommit_link (old : Bank) (s : State) :
    (s.schedAtCommit old).link = s.link := by
  unfold State.schedAtCommit
  (try dsimp only)
  simp

@[simp] theorem State.schedAtCommit_trunk (old : Bank) (s : State) :
    (s.schedAtCommit old).trunk = s.trunk := by
  unfold State.schedAtCommit
  (try dsimp only)
  simp

@[simp] theorem State.schedAtCommit_agent (old : Bank) (s : State) :
    (s.schedAtCommit old).agent = s.agent := by
  unfold State.schedAtCommit
  (try dsimp only)
  simp

@[simp] theorem State.schedAtCommit_config (old : Bank) (s : State) :
    (s.schedAtCommit old).config = s.config := by
  unfold State.schedAtCommit
  (try dsimp only)
  simp

@[simp] theorem State.schedAtCommit_pending (old : Bank) (s : State) :
    (s.schedAtCommit old).pending = s.pending := by
  unfold State.schedAtCommit
  (try dsimp only)
  simp

/-! ## applyCommit -/

@[simp] theorem State.applyCommit_power (s : State) :
    (s.applyCommit).power = s.power := by
  unfold State.applyCommit
  simp

@[simp] theorem State.applyCommit_store_readIndex (s : State) :
    (s.applyCommit).store.readIndex = s.store.readIndex := by
  unfold State.applyCommit
  simp

@[simp] theorem State.applyCommit_store_readHalf (s : State) :
    (s.applyCommit).store.readHalf = s.store.readHalf := by
  unfold State.applyCommit
  simp

@[simp] theorem State.applyCommit_store_staging (s : State) :
    (s.applyCommit).store.staging = s.store.staging := by
  unfold State.applyCommit
  simp

@[simp] theorem State.applyCommit_sched_tickPeriod (s : State) :
    (s.applyCommit).sched.tickPeriod = s.sched.tickPeriod := by
  unfold State.applyCommit
  simp

@[simp] theorem State.applyCommit_sched_runningPeriod (s : State) :
    (s.applyCommit).sched.runningPeriod = s.sched.runningPeriod := by
  unfold State.applyCommit
  simp

@[simp] theorem State.applyCommit_sched_tickCount (s : State) :
    (s.applyCommit).sched.tickCount = s.sched.tickCount := by
  unfold State.applyCommit
  simp

@[simp] theorem State.applyCommit_sched_order (s : State) :
    (s.applyCommit).sched.order = s.sched.order := by
  unfold State.applyCommit
  simp

@[simp] theorem State.applyCommit_link (s : State) :
    (s.applyCommit).link = s.link := by
  unfold State.applyCommit
  simp

@[simp] theorem State.applyCommit_trunk (s : State) :
    (s.applyCommit).trunk = s.trunk := by
  unfold State.applyCommit
  simp

@[simp] theorem State.applyCommit_agent (s : State) :
    (s.applyCommit).agent = s.agent := by
  unfold State.applyCommit
  simp

@[simp] theorem State.applyCommit_config (s : State) :
    (s.applyCommit).config = s.config := by
  unfold State.applyCommit
  simp

@[simp] theorem State.applyCommit_pending (s : State) :
    (s.applyCommit).pending = s.pending := by
  unfold State.applyCommit
  simp

/-! ## applyPendingCommit -/

@[simp] theorem State.applyPendingCommit_power (s : State) :
    (s.applyPendingCommit).power = s.power := by
  unfold State.applyPendingCommit
  (repeat' split) <;> simp

@[simp] theorem State.applyPendingCommit_store_readIndex (s : State) :
    (s.applyPendingCommit).store.readIndex = s.store.readIndex := by
  unfold State.applyPendingCommit
  (repeat' split) <;> simp

@[simp] theorem State.applyPendingCommit_store_readHalf (s : State) :
    (s.applyPendingCommit).store.readHalf = s.store.readHalf := by
  unfold State.applyPendingCommit
  (repeat' split) <;> simp

@[simp] theorem State.applyPendingCommit_store_staging (s : State) :
    (s.applyPendingCommit).store.staging = s.store.staging := by
  unfold State.applyPendingCommit
  (repeat' split) <;> simp

@[simp] theorem State.applyPendingCommit_sched_tickPeriod (s : State) :
    (s.applyPendingCommit).sched.tickPeriod = s.sched.tickPeriod := by
  unfold State.applyPendingCommit
  (repeat' split) <;> simp

@[simp] theorem State.applyPendingCommit_sched_runningPeriod (s : State) :
    (s.applyPendingCommit).sched.runningPeriod = s.sched.runningPeriod := by
  unfold State.applyPendingCommit
  (repeat' split) <;> simp

@[simp] theorem State.applyPendingCommit_sched_tickCount (s : State) :
    (s.applyPendingCommit).sched.tickCount = s.sched.tickCount := by
  unfold State.applyPendingCommit
  (repeat' split) <;> simp

@[simp] theorem State.applyPendingCommit_sched_order (s : State) :
    (s.applyPendingCommit).sched.order = s.sched.order := by
  unfold State.applyPendingCommit
  (repeat' split) <;> simp

@[simp] theorem State.applyPendingCommit_link (s : State) :
    (s.applyPendingCommit).link = s.link := by
  unfold State.applyPendingCommit
  (repeat' split) <;> simp

@[simp] theorem State.applyPendingCommit_trunk (s : State) :
    (s.applyPendingCommit).trunk = s.trunk := by
  unfold State.applyPendingCommit
  (repeat' split) <;> simp

@[simp] theorem State.applyPendingCommit_agent_unit (s : State) :
    (s.applyPendingCommit).agent.unit = s.agent.unit := by
  unfold State.applyPendingCommit
  (repeat' split) <;> simp

@[simp] theorem State.applyPendingCommit_agent_flags (s : State) :
    (s.applyPendingCommit).agent.flags = s.agent.flags := by
  unfold State.applyPendingCommit
  (repeat' split) <;> simp

@[simp] theorem State.applyPendingCommit_agent_counters (s : State) :
    (s.applyPendingCommit).agent.counters = s.agent.counters := by
  unfold State.applyPendingCommit
  (repeat' split) <;> simp

@[simp] theorem State.applyPendingCommit_agent_keyState (s : State) :
    (s.applyPendingCommit).agent.keyState = s.agent.keyState := by
  unfold State.applyPendingCommit
  (repeat' split) <;> simp

@[simp] theorem State.applyPendingCommit_config (s : State) :
    (s.applyPendingCommit).config = s.config := by
  unfold State.applyPendingCommit
  (repeat' split) <;> simp

@[simp] theorem State.applyPendingCommit_pending (s : State) :
    (s.applyPendingCommit).pending = s.pending := by
  unfold State.applyPendingCommit
  (repeat' split) <;> simp

/-! ## setEditEntry -/

@[simp] theorem State.setEditEntry_power (i : EntryIndex) (e : Entry) (s : State) :
    (s.setEditEntry i e).power = s.power := by
  unfold State.setEditEntry
  (try dsimp only)
  simp

@[simp] theorem State.setEditEntry_route_activeBank (i : EntryIndex) (e : Entry) (s : State) :
    (s.setEditEntry i e).route.activeBank = s.route.activeBank := by
  unfold State.setEditEntry
  (try dsimp only)
  simp

@[simp] theorem State.setEditEntry_route_readBank (i : EntryIndex) (e : Entry) (s : State) :
    (s.setEditEntry i e).route.readBank = s.route.readBank := by
  unfold State.setEditEntry
  (try dsimp only)
  simp

@[simp] theorem State.setEditEntry_route_readIndex (i : EntryIndex) (e : Entry) (s : State) :
    (s.setEditEntry i e).route.readIndex = s.route.readIndex := by
  unfold State.setEditEntry
  (try dsimp only)
  simp

@[simp] theorem State.setEditEntry_route_writeIndex (i : EntryIndex) (e : Entry) (s : State) :
    (s.setEditEntry i e).route.writeIndex = s.route.writeIndex := by
  unfold State.setEditEntry
  (try dsimp only)
  simp

@[simp] theorem State.setEditEntry_route_commitCount (i : EntryIndex) (e : Entry) (s : State) :
    (s.setEditEntry i e).route.commitCount = s.route.commitCount := by
  unfold State.setEditEntry
  (try dsimp only)
  simp

@[simp] theorem State.setEditEntry_route_commitPending (i : EntryIndex) (e : Entry) (s : State) :
    (s.setEditEntry i e).route.commitPending = s.route.commitPending := by
  unfold State.setEditEntry
  (try dsimp only)
  simp

@[simp] theorem State.setEditEntry_store (i : EntryIndex) (e : Entry) (s : State) :
    (s.setEditEntry i e).store = s.store := by
  unfold State.setEditEntry
  (try dsimp only)
  simp

@[simp] theorem State.setEditEntry_sched (i : EntryIndex) (e : Entry) (s : State) :
    (s.setEditEntry i e).sched = s.sched := by
  unfold State.setEditEntry
  (try dsimp only)
  simp

@[simp] theorem State.setEditEntry_link (i : EntryIndex) (e : Entry) (s : State) :
    (s.setEditEntry i e).link = s.link := by
  unfold State.setEditEntry
  (try dsimp only)
  simp

@[simp] theorem State.setEditEntry_trunk (i : EntryIndex) (e : Entry) (s : State) :
    (s.setEditEntry i e).trunk = s.trunk := by
  unfold State.setEditEntry
  (try dsimp only)
  simp

@[simp] theorem State.setEditEntry_agent (i : EntryIndex) (e : Entry) (s : State) :
    (s.setEditEntry i e).agent = s.agent := by
  unfold State.setEditEntry
  (try dsimp only)
  simp

@[simp] theorem State.setEditEntry_config (i : EntryIndex) (e : Entry) (s : State) :
    (s.setEditEntry i e).config = s.config := by
  unfold State.setEditEntry
  (try dsimp only)
  simp

@[simp] theorem State.setEditEntry_pending (i : EntryIndex) (e : Entry) (s : State) :
    (s.setEditEntry i e).pending = s.pending := by
  unfold State.setEditEntry
  (try dsimp only)
  simp

/-! ## setEditMask -/

@[simp] theorem State.setEditMask_power (g : GroupIndex) (m : Channel) (s : State) :
    (s.setEditMask g m).power = s.power := by
  unfold State.setEditMask
  (try dsimp only)
  simp

@[simp] theorem State.setEditMask_route_activeBank (g : GroupIndex) (m : Channel) (s : State) :
    (s.setEditMask g m).route.activeBank = s.route.activeBank := by
  unfold State.setEditMask
  (try dsimp only)
  simp

@[simp] theorem State.setEditMask_route_readBank (g : GroupIndex) (m : Channel) (s : State) :
    (s.setEditMask g m).route.readBank = s.route.readBank := by
  unfold State.setEditMask
  (try dsimp only)
  simp

@[simp] theorem State.setEditMask_route_readIndex (g : GroupIndex) (m : Channel) (s : State) :
    (s.setEditMask g m).route.readIndex = s.route.readIndex := by
  unfold State.setEditMask
  (try dsimp only)
  simp

@[simp] theorem State.setEditMask_route_writeIndex (g : GroupIndex) (m : Channel) (s : State) :
    (s.setEditMask g m).route.writeIndex = s.route.writeIndex := by
  unfold State.setEditMask
  (try dsimp only)
  simp

@[simp] theorem State.setEditMask_route_commitCount (g : GroupIndex) (m : Channel) (s : State) :
    (s.setEditMask g m).route.commitCount = s.route.commitCount := by
  unfold State.setEditMask
  (try dsimp only)
  simp

@[simp] theorem State.setEditMask_route_commitPending (g : GroupIndex) (m : Channel) (s : State) :
    (s.setEditMask g m).route.commitPending = s.route.commitPending := by
  unfold State.setEditMask
  (try dsimp only)
  simp

@[simp] theorem State.setEditMask_store (g : GroupIndex) (m : Channel) (s : State) :
    (s.setEditMask g m).store = s.store := by
  unfold State.setEditMask
  (try dsimp only)
  simp

@[simp] theorem State.setEditMask_sched (g : GroupIndex) (m : Channel) (s : State) :
    (s.setEditMask g m).sched = s.sched := by
  unfold State.setEditMask
  (try dsimp only)
  simp

@[simp] theorem State.setEditMask_link (g : GroupIndex) (m : Channel) (s : State) :
    (s.setEditMask g m).link = s.link := by
  unfold State.setEditMask
  (try dsimp only)
  simp

@[simp] theorem State.setEditMask_trunk (g : GroupIndex) (m : Channel) (s : State) :
    (s.setEditMask g m).trunk = s.trunk := by
  unfold State.setEditMask
  (try dsimp only)
  simp

@[simp] theorem State.setEditMask_agent (g : GroupIndex) (m : Channel) (s : State) :
    (s.setEditMask g m).agent = s.agent := by
  unfold State.setEditMask
  (try dsimp only)
  simp

@[simp] theorem State.setEditMask_config (g : GroupIndex) (m : Channel) (s : State) :
    (s.setEditMask g m).config = s.config := by
  unfold State.setEditMask
  (try dsimp only)
  simp

@[simp] theorem State.setEditMask_pending (g : GroupIndex) (m : Channel) (s : State) :
    (s.setEditMask g m).pending = s.pending := by
  unfold State.setEditMask
  (try dsimp only)
  simp

end Sys2Proof.Machine
end

