-- ==== Sys2Proof/Laws/Relaying.lean ====
section
/-! SUPPORT. Laws/Relaying.lean: the frame of each shared operation of relayed transactions: what it leaves unchanged, field by
field of the state. -/

namespace Sys2Proof.Machine

/-! ## endTrunkSide -/

@[simp] theorem State.endTrunkSide_power (s : State) :
    (s.endTrunkSide).power = s.power := by
  unfold State.endTrunkSide
  simp

@[simp] theorem State.endTrunkSide_route (s : State) :
    (s.endTrunkSide).route = s.route := by
  unfold State.endTrunkSide
  simp

@[simp] theorem State.endTrunkSide_store (s : State) :
    (s.endTrunkSide).store = s.store := by
  unfold State.endTrunkSide
  simp

@[simp] theorem State.endTrunkSide_sched (s : State) :
    (s.endTrunkSide).sched = s.sched := by
  unfold State.endTrunkSide
  simp

@[simp] theorem State.endTrunkSide_link_state (s : State) :
    (s.endTrunkSide).link.state = s.link.state := by
  unfold State.endTrunkSide
  simp

@[simp] theorem State.endTrunkSide_link_mode (s : State) :
    (s.endTrunkSide).link.mode = s.link.mode := by
  unfold State.endTrunkSide
  simp

@[simp] theorem State.endTrunkSide_link_score (s : State) :
    (s.endTrunkSide).link.score = s.link.score := by
  unfold State.endTrunkSide
  simp

@[simp] theorem State.endTrunkSide_link_hold (s : State) :
    (s.endTrunkSide).link.hold = s.link.hold := by
  unfold State.endTrunkSide
  simp

@[simp] theorem State.endTrunkSide_link_sampling (s : State) :
    (s.endTrunkSide).link.sampling = s.link.sampling := by
  unfold State.endTrunkSide
  simp

@[simp] theorem State.endTrunkSide_link_settle (s : State) :
    (s.endTrunkSide).link.settle = s.link.settle := by
  unfold State.endTrunkSide
  simp

@[simp] theorem State.endTrunkSide_link_sleepFramePending (s : State) :
    (s.endTrunkSide).link.sleepFramePending = s.link.sleepFramePending := by
  unfold State.endTrunkSide
  simp

@[simp] theorem State.endTrunkSide_link_responder (s : State) :
    (s.endTrunkSide).link.responder = s.link.responder := by
  unfold State.endTrunkSide
  simp

@[simp] theorem State.endTrunkSide_link_line (s : State) :
    (s.endTrunkSide).link.line = s.link.line := by
  unfold State.endTrunkSide
  simp

@[simp] theorem State.endTrunkSide_link_receiver (s : State) :
    (s.endTrunkSide).link.receiver = s.link.receiver := by
  unfold State.endTrunkSide
  simp

@[simp] theorem State.endTrunkSide_link_sinceH1 (s : State) :
    (s.endTrunkSide).link.sinceH1 = s.link.sinceH1 := by
  unfold State.endTrunkSide
  simp

@[simp] theorem State.endTrunkSide_link_outsideLow (s : State) :
    (s.endTrunkSide).link.outsideLow = s.link.outsideLow := by
  unfold State.endTrunkSide
  simp

@[simp] theorem State.endTrunkSide_link_receiverRate (s : State) :
    (s.endTrunkSide).link.receiverRate = s.link.receiverRate := by
  unfold State.endTrunkSide
  simp

@[simp] theorem State.endTrunkSide_trunk (s : State) :
    (s.endTrunkSide).trunk = s.trunk := by
  unfold State.endTrunkSide
  simp

@[simp] theorem State.endTrunkSide_agent (s : State) :
    (s.endTrunkSide).agent = s.agent := by
  unfold State.endTrunkSide
  simp

@[simp] theorem State.endTrunkSide_config (s : State) :
    (s.endTrunkSide).config = s.config := by
  unfold State.endTrunkSide
  simp

@[simp] theorem State.endTrunkSide_pending (s : State) :
    (s.endTrunkSide).pending = s.pending := by
  unfold State.endTrunkSide
  simp

/-! ## tellNothingMore -/

@[simp] theorem State.tellNothingMore_power (s : State) :
    (s.tellNothingMore).power = s.power := by
  unfold State.tellNothingMore
  (repeat' split) <;> simp

@[simp] theorem State.tellNothingMore_route (s : State) :
    (s.tellNothingMore).route = s.route := by
  unfold State.tellNothingMore
  (repeat' split) <;> simp

@[simp] theorem State.tellNothingMore_store (s : State) :
    (s.tellNothingMore).store = s.store := by
  unfold State.tellNothingMore
  (repeat' split) <;> simp

@[simp] theorem State.tellNothingMore_sched (s : State) :
    (s.tellNothingMore).sched = s.sched := by
  unfold State.tellNothingMore
  (repeat' split) <;> simp

@[simp] theorem State.tellNothingMore_link_state (s : State) :
    (s.tellNothingMore).link.state = s.link.state := by
  unfold State.tellNothingMore
  (repeat' split) <;> simp

@[simp] theorem State.tellNothingMore_link_mode (s : State) :
    (s.tellNothingMore).link.mode = s.link.mode := by
  unfold State.tellNothingMore
  (repeat' split) <;> simp

@[simp] theorem State.tellNothingMore_link_score (s : State) :
    (s.tellNothingMore).link.score = s.link.score := by
  unfold State.tellNothingMore
  (repeat' split) <;> simp

@[simp] theorem State.tellNothingMore_link_hold (s : State) :
    (s.tellNothingMore).link.hold = s.link.hold := by
  unfold State.tellNothingMore
  (repeat' split) <;> simp

@[simp] theorem State.tellNothingMore_link_sampling (s : State) :
    (s.tellNothingMore).link.sampling = s.link.sampling := by
  unfold State.tellNothingMore
  (repeat' split) <;> simp

@[simp] theorem State.tellNothingMore_link_settle (s : State) :
    (s.tellNothingMore).link.settle = s.link.settle := by
  unfold State.tellNothingMore
  (repeat' split) <;> simp

@[simp] theorem State.tellNothingMore_link_sleepFramePending (s : State) :
    (s.tellNothingMore).link.sleepFramePending = s.link.sleepFramePending := by
  unfold State.tellNothingMore
  (repeat' split) <;> simp

@[simp] theorem State.tellNothingMore_link_responder (s : State) :
    (s.tellNothingMore).link.responder = s.link.responder := by
  unfold State.tellNothingMore
  (repeat' split) <;> simp

@[simp] theorem State.tellNothingMore_link_line (s : State) :
    (s.tellNothingMore).link.line = s.link.line := by
  unfold State.tellNothingMore
  (repeat' split) <;> simp

@[simp] theorem State.tellNothingMore_link_receiver (s : State) :
    (s.tellNothingMore).link.receiver = s.link.receiver := by
  unfold State.tellNothingMore
  (repeat' split) <;> simp

@[simp] theorem State.tellNothingMore_link_sinceH1 (s : State) :
    (s.tellNothingMore).link.sinceH1 = s.link.sinceH1 := by
  unfold State.tellNothingMore
  (repeat' split) <;> simp

@[simp] theorem State.tellNothingMore_link_outsideLow (s : State) :
    (s.tellNothingMore).link.outsideLow = s.link.outsideLow := by
  unfold State.tellNothingMore
  (repeat' split) <;> simp

@[simp] theorem State.tellNothingMore_link_receiverRate (s : State) :
    (s.tellNothingMore).link.receiverRate = s.link.receiverRate := by
  unfold State.tellNothingMore
  (repeat' split) <;> simp

@[simp] theorem State.tellNothingMore_trunk_stamp (s : State) :
    (s.tellNothingMore).trunk.stamp = s.trunk.stamp := by
  unfold State.tellNothingMore
  (repeat' split) <;> simp

@[simp] theorem State.tellNothingMore_trunk_rate (s : State) :
    (s.tellNothingMore).trunk.rate = s.trunk.rate := by
  unfold State.tellNothingMore
  (repeat' split) <;> simp

@[simp] theorem State.tellNothingMore_trunk_receiver (s : State) :
    (s.tellNothingMore).trunk.receiver = s.trunk.receiver := by
  unfold State.tellNothingMore
  (repeat' split) <;> simp

@[simp] theorem State.tellNothingMore_trunk_sinceH1 (s : State) :
    (s.tellNothingMore).trunk.sinceH1 = s.trunk.sinceH1 := by
  unfold State.tellNothingMore
  (repeat' split) <;> simp

@[simp] theorem State.tellNothingMore_agent (s : State) :
    (s.tellNothingMore).agent = s.agent := by
  unfold State.tellNothingMore
  (repeat' split) <;> simp

@[simp] theorem State.tellNothingMore_config (s : State) :
    (s.tellNothingMore).config = s.config := by
  unfold State.tellNothingMore
  (repeat' split) <;> simp

@[simp] theorem State.tellNothingMore_pending (s : State) :
    (s.tellNothingMore).pending = s.pending := by
  unfold State.tellNothingMore
  (repeat' split) <;> simp

/-! ## admitRelay -/

@[simp] theorem State.admitRelay_power (i : EntryIndex) (e : Entry) (branchChannel : Channel) (h0 h1 : Byte) (s : State) :
    (s.admitRelay i e branchChannel h0 h1).power = s.power := by
  unfold State.admitRelay
  simp

@[simp] theorem State.admitRelay_route (i : EntryIndex) (e : Entry) (branchChannel : Channel) (h0 h1 : Byte) (s : State) :
    (s.admitRelay i e branchChannel h0 h1).route = s.route := by
  unfold State.admitRelay
  simp

@[simp] theorem State.admitRelay_store (i : EntryIndex) (e : Entry) (branchChannel : Channel) (h0 h1 : Byte) (s : State) :
    (s.admitRelay i e branchChannel h0 h1).store = s.store := by
  unfold State.admitRelay
  simp

@[simp] theorem State.admitRelay_sched (i : EntryIndex) (e : Entry) (branchChannel : Channel) (h0 h1 : Byte) (s : State) :
    (s.admitRelay i e branchChannel h0 h1).sched = s.sched := by
  unfold State.admitRelay
  simp

@[simp] theorem State.admitRelay_link_mode (i : EntryIndex) (e : Entry) (branchChannel : Channel) (h0 h1 : Byte) (s : State) :
    (s.admitRelay i e branchChannel h0 h1).link.mode = s.link.mode := by
  unfold State.admitRelay
  simp

@[simp] theorem State.admitRelay_link_score (i : EntryIndex) (e : Entry) (branchChannel : Channel) (h0 h1 : Byte) (s : State) :
    (s.admitRelay i e branchChannel h0 h1).link.score = s.link.score := by
  unfold State.admitRelay
  simp

@[simp] theorem State.admitRelay_link_hold (i : EntryIndex) (e : Entry) (branchChannel : Channel) (h0 h1 : Byte) (s : State) :
    (s.admitRelay i e branchChannel h0 h1).link.hold = s.link.hold := by
  unfold State.admitRelay
  simp

@[simp] theorem State.admitRelay_link_sampling (i : EntryIndex) (e : Entry) (branchChannel : Channel) (h0 h1 : Byte) (s : State) :
    (s.admitRelay i e branchChannel h0 h1).link.sampling = s.link.sampling := by
  unfold State.admitRelay
  simp

@[simp] theorem State.admitRelay_link_settle (i : EntryIndex) (e : Entry) (branchChannel : Channel) (h0 h1 : Byte) (s : State) :
    (s.admitRelay i e branchChannel h0 h1).link.settle = s.link.settle := by
  unfold State.admitRelay
  simp

@[simp] theorem State.admitRelay_link_sleepFramePending (i : EntryIndex) (e : Entry) (branchChannel : Channel) (h0 h1 : Byte) (s : State) :
    (s.admitRelay i e branchChannel h0 h1).link.sleepFramePending = s.link.sleepFramePending := by
  unfold State.admitRelay
  simp

@[simp] theorem State.admitRelay_link_responder (i : EntryIndex) (e : Entry) (branchChannel : Channel) (h0 h1 : Byte) (s : State) :
    (s.admitRelay i e branchChannel h0 h1).link.responder = s.link.responder := by
  unfold State.admitRelay
  simp

@[simp] theorem State.admitRelay_link_line (i : EntryIndex) (e : Entry) (branchChannel : Channel) (h0 h1 : Byte) (s : State) :
    (s.admitRelay i e branchChannel h0 h1).link.line = s.link.line := by
  unfold State.admitRelay
  simp

@[simp] theorem State.admitRelay_link_receiver (i : EntryIndex) (e : Entry) (branchChannel : Channel) (h0 h1 : Byte) (s : State) :
    (s.admitRelay i e branchChannel h0 h1).link.receiver = s.link.receiver := by
  unfold State.admitRelay
  simp

@[simp] theorem State.admitRelay_link_sinceH1 (i : EntryIndex) (e : Entry) (branchChannel : Channel) (h0 h1 : Byte) (s : State) :
    (s.admitRelay i e branchChannel h0 h1).link.sinceH1 = s.link.sinceH1 := by
  unfold State.admitRelay
  simp

@[simp] theorem State.admitRelay_link_outsideLow (i : EntryIndex) (e : Entry) (branchChannel : Channel) (h0 h1 : Byte) (s : State) :
    (s.admitRelay i e branchChannel h0 h1).link.outsideLow = s.link.outsideLow := by
  unfold State.admitRelay
  simp

@[simp] theorem State.admitRelay_link_receiverRate (i : EntryIndex) (e : Entry) (branchChannel : Channel) (h0 h1 : Byte) (s : State) :
    (s.admitRelay i e branchChannel h0 h1).link.receiverRate = s.link.receiverRate := by
  unfold State.admitRelay
  simp

@[simp] theorem State.admitRelay_trunk_stamp (i : EntryIndex) (e : Entry) (branchChannel : Channel) (h0 h1 : Byte) (s : State) :
    (s.admitRelay i e branchChannel h0 h1).trunk.stamp = s.trunk.stamp := by
  unfold State.admitRelay
  simp

@[simp] theorem State.admitRelay_trunk_rate (i : EntryIndex) (e : Entry) (branchChannel : Channel) (h0 h1 : Byte) (s : State) :
    (s.admitRelay i e branchChannel h0 h1).trunk.rate = s.trunk.rate := by
  unfold State.admitRelay
  simp

@[simp] theorem State.admitRelay_trunk_receiver (i : EntryIndex) (e : Entry) (branchChannel : Channel) (h0 h1 : Byte) (s : State) :
    (s.admitRelay i e branchChannel h0 h1).trunk.receiver = s.trunk.receiver := by
  unfold State.admitRelay
  simp

@[simp] theorem State.admitRelay_trunk_sinceH1 (i : EntryIndex) (e : Entry) (branchChannel : Channel) (h0 h1 : Byte) (s : State) :
    (s.admitRelay i e branchChannel h0 h1).trunk.sinceH1 = s.trunk.sinceH1 := by
  unfold State.admitRelay
  simp

@[simp] theorem State.admitRelay_agent (i : EntryIndex) (e : Entry) (branchChannel : Channel) (h0 h1 : Byte) (s : State) :
    (s.admitRelay i e branchChannel h0 h1).agent = s.agent := by
  unfold State.admitRelay
  simp

@[simp] theorem State.admitRelay_config (i : EntryIndex) (e : Entry) (branchChannel : Channel) (h0 h1 : Byte) (s : State) :
    (s.admitRelay i e branchChannel h0 h1).config = s.config := by
  unfold State.admitRelay
  simp

@[simp] theorem State.admitRelay_pending (i : EntryIndex) (e : Entry) (branchChannel : Channel) (h0 h1 : Byte) (s : State) :
    (s.admitRelay i e branchChannel h0 h1).pending = s.pending := by
  unfold State.admitRelay
  simp

/-! ## endBranchSide -/

@[simp] theorem State.endBranchSide_power (outcome : Option BranchOutcome) (s : State) :
    (s.endBranchSide outcome).power = s.power := by
  unfold State.endBranchSide
  (try dsimp only)
  (repeat' split) <;> simp

@[simp] theorem State.endBranchSide_route (outcome : Option BranchOutcome) (s : State) :
    (s.endBranchSide outcome).route = s.route := by
  unfold State.endBranchSide
  (try dsimp only)
  (repeat' split) <;> simp

@[simp] theorem State.endBranchSide_store (outcome : Option BranchOutcome) (s : State) :
    (s.endBranchSide outcome).store = s.store := by
  unfold State.endBranchSide
  (try dsimp only)
  (repeat' split) <;> simp

@[simp] theorem State.endBranchSide_sched (outcome : Option BranchOutcome) (s : State) :
    (s.endBranchSide outcome).sched = s.sched := by
  unfold State.endBranchSide
  (try dsimp only)
  (repeat' split) <;> simp

@[simp] theorem State.endBranchSide_link_state (outcome : Option BranchOutcome) (s : State) :
    (s.endBranchSide outcome).link.state = s.link.state := by
  unfold State.endBranchSide
  (try dsimp only)
  (repeat' split) <;> simp

@[simp] theorem State.endBranchSide_link_mode (outcome : Option BranchOutcome) (s : State) :
    (s.endBranchSide outcome).link.mode = s.link.mode := by
  unfold State.endBranchSide
  (try dsimp only)
  (repeat' split) <;> simp

@[simp] theorem State.endBranchSide_link_score (outcome : Option BranchOutcome) (s : State) :
    (s.endBranchSide outcome).link.score = s.link.score := by
  unfold State.endBranchSide
  (try dsimp only)
  (repeat' split) <;> simp

@[simp] theorem State.endBranchSide_link_hold (outcome : Option BranchOutcome) (s : State) :
    (s.endBranchSide outcome).link.hold = s.link.hold := by
  unfold State.endBranchSide
  (try dsimp only)
  (repeat' split) <;> simp

@[simp] theorem State.endBranchSide_link_sampling (outcome : Option BranchOutcome) (s : State) :
    (s.endBranchSide outcome).link.sampling = s.link.sampling := by
  unfold State.endBranchSide
  (try dsimp only)
  (repeat' split) <;> simp

@[simp] theorem State.endBranchSide_link_settle (outcome : Option BranchOutcome) (s : State) :
    (s.endBranchSide outcome).link.settle = s.link.settle := by
  unfold State.endBranchSide
  (try dsimp only)
  (repeat' split) <;> simp

@[simp] theorem State.endBranchSide_link_sleepFramePending (outcome : Option BranchOutcome) (s : State) :
    (s.endBranchSide outcome).link.sleepFramePending = s.link.sleepFramePending := by
  unfold State.endBranchSide
  (try dsimp only)
  (repeat' split) <;> simp

@[simp] theorem State.endBranchSide_link_responder (outcome : Option BranchOutcome) (s : State) :
    (s.endBranchSide outcome).link.responder = s.link.responder := by
  unfold State.endBranchSide
  (try dsimp only)
  (repeat' split) <;> simp

@[simp] theorem State.endBranchSide_link_line (outcome : Option BranchOutcome) (s : State) :
    (s.endBranchSide outcome).link.line = s.link.line := by
  unfold State.endBranchSide
  (try dsimp only)
  (repeat' split) <;> simp

@[simp] theorem State.endBranchSide_link_receiver (outcome : Option BranchOutcome) (s : State) :
    (s.endBranchSide outcome).link.receiver = s.link.receiver := by
  unfold State.endBranchSide
  (try dsimp only)
  (repeat' split) <;> simp

@[simp] theorem State.endBranchSide_link_sinceH1 (outcome : Option BranchOutcome) (s : State) :
    (s.endBranchSide outcome).link.sinceH1 = s.link.sinceH1 := by
  unfold State.endBranchSide
  (try dsimp only)
  (repeat' split) <;> simp

@[simp] theorem State.endBranchSide_link_outsideLow (outcome : Option BranchOutcome) (s : State) :
    (s.endBranchSide outcome).link.outsideLow = s.link.outsideLow := by
  unfold State.endBranchSide
  (try dsimp only)
  (repeat' split) <;> simp

@[simp] theorem State.endBranchSide_link_receiverRate (outcome : Option BranchOutcome) (s : State) :
    (s.endBranchSide outcome).link.receiverRate = s.link.receiverRate := by
  unfold State.endBranchSide
  (try dsimp only)
  (repeat' split) <;> simp

@[simp] theorem State.endBranchSide_trunk_stamp (outcome : Option BranchOutcome) (s : State) :
    (s.endBranchSide outcome).trunk.stamp = s.trunk.stamp := by
  unfold State.endBranchSide
  (try dsimp only)
  (repeat' split) <;> simp

@[simp] theorem State.endBranchSide_trunk_rate (outcome : Option BranchOutcome) (s : State) :
    (s.endBranchSide outcome).trunk.rate = s.trunk.rate := by
  unfold State.endBranchSide
  (try dsimp only)
  (repeat' split) <;> simp

@[simp] theorem State.endBranchSide_trunk_receiver (outcome : Option BranchOutcome) (s : State) :
    (s.endBranchSide outcome).trunk.receiver = s.trunk.receiver := by
  unfold State.endBranchSide
  (try dsimp only)
  (repeat' split) <;> simp

@[simp] theorem State.endBranchSide_trunk_sinceH1 (outcome : Option BranchOutcome) (s : State) :
    (s.endBranchSide outcome).trunk.sinceH1 = s.trunk.sinceH1 := by
  unfold State.endBranchSide
  (try dsimp only)
  (repeat' split) <;> simp

@[simp] theorem State.endBranchSide_agent (outcome : Option BranchOutcome) (s : State) :
    (s.endBranchSide outcome).agent = s.agent := by
  unfold State.endBranchSide
  (try dsimp only)
  (repeat' split) <;> simp

@[simp] theorem State.endBranchSide_config (outcome : Option BranchOutcome) (s : State) :
    (s.endBranchSide outcome).config = s.config := by
  unfold State.endBranchSide
  (try dsimp only)
  (repeat' split) <;> simp

@[simp] theorem State.endBranchSide_pending (outcome : Option BranchOutcome) (s : State) :
    (s.endBranchSide outcome).pending = s.pending := by
  unfold State.endBranchSide
  (try dsimp only)
  (repeat' split) <;> simp

/-! ## reportRelaySuccess -/

@[simp] theorem State.reportRelaySuccess_power (x : RelayContext) (s : State) :
    (s.reportRelaySuccess x).power = s.power := by
  unfold State.reportRelaySuccess
  (repeat' split) <;> simp

@[simp] theorem State.reportRelaySuccess_route (x : RelayContext) (s : State) :
    (s.reportRelaySuccess x).route = s.route := by
  unfold State.reportRelaySuccess
  (repeat' split) <;> simp

@[simp] theorem State.reportRelaySuccess_store_readIndex (x : RelayContext) (s : State) :
    (s.reportRelaySuccess x).store.readIndex = s.store.readIndex := by
  unfold State.reportRelaySuccess
  (repeat' split) <;> simp

@[simp] theorem State.reportRelaySuccess_store_readHalf (x : RelayContext) (s : State) :
    (s.reportRelaySuccess x).store.readHalf = s.store.readHalf := by
  unfold State.reportRelaySuccess
  (repeat' split) <;> simp

@[simp] theorem State.reportRelaySuccess_store_staging (x : RelayContext) (s : State) :
    (s.reportRelaySuccess x).store.staging = s.store.staging := by
  unfold State.reportRelaySuccess
  (repeat' split) <;> simp

@[simp] theorem State.reportRelaySuccess_sched_tickPeriod (x : RelayContext) (s : State) :
    (s.reportRelaySuccess x).sched.tickPeriod = s.sched.tickPeriod := by
  unfold State.reportRelaySuccess
  (repeat' split) <;> simp

@[simp] theorem State.reportRelaySuccess_sched_runningPeriod (x : RelayContext) (s : State) :
    (s.reportRelaySuccess x).sched.runningPeriod = s.sched.runningPeriod := by
  unfold State.reportRelaySuccess
  (repeat' split) <;> simp

@[simp] theorem State.reportRelaySuccess_sched_tickCount (x : RelayContext) (s : State) :
    (s.reportRelaySuccess x).sched.tickCount = s.sched.tickCount := by
  unfold State.reportRelaySuccess
  (repeat' split) <;> simp

@[simp] theorem State.reportRelaySuccess_sched_queue (x : RelayContext) (s : State) :
    (s.reportRelaySuccess x).sched.queue = s.sched.queue := by
  unfold State.reportRelaySuccess
  (repeat' split) <;> simp

@[simp] theorem State.reportRelaySuccess_sched_deferred (x : RelayContext) (s : State) :
    (s.reportRelaySuccess x).sched.deferred = s.sched.deferred := by
  unfold State.reportRelaySuccess
  (repeat' split) <;> simp

@[simp] theorem State.reportRelaySuccess_sched_seqCounter (x : RelayContext) (s : State) :
    (s.reportRelaySuccess x).sched.seqCounter = s.sched.seqCounter := by
  unfold State.reportRelaySuccess
  (repeat' split) <;> simp

@[simp] theorem State.reportRelaySuccess_sched_order (x : RelayContext) (s : State) :
    (s.reportRelaySuccess x).sched.order = s.sched.order := by
  unfold State.reportRelaySuccess
  (repeat' split) <;> simp

@[simp] theorem State.reportRelaySuccess_link (x : RelayContext) (s : State) :
    (s.reportRelaySuccess x).link = s.link := by
  unfold State.reportRelaySuccess
  (repeat' split) <;> simp

@[simp] theorem State.reportRelaySuccess_trunk (x : RelayContext) (s : State) :
    (s.reportRelaySuccess x).trunk = s.trunk := by
  unfold State.reportRelaySuccess
  (repeat' split) <;> simp

@[simp] theorem State.reportRelaySuccess_agent_unit (x : RelayContext) (s : State) :
    (s.reportRelaySuccess x).agent.unit = s.agent.unit := by
  unfold State.reportRelaySuccess
  (repeat' split) <;> simp

@[simp] theorem State.reportRelaySuccess_agent_slot (x : RelayContext) (s : State) :
    (s.reportRelaySuccess x).agent.slot = s.agent.slot := by
  unfold State.reportRelaySuccess
  (repeat' split) <;> simp

@[simp] theorem State.reportRelaySuccess_agent_result (x : RelayContext) (s : State) :
    (s.reportRelaySuccess x).agent.result = s.agent.result := by
  unfold State.reportRelaySuccess
  (repeat' split) <;> simp

@[simp] theorem State.reportRelaySuccess_agent_counters (x : RelayContext) (s : State) :
    (s.reportRelaySuccess x).agent.counters = s.agent.counters := by
  unfold State.reportRelaySuccess
  (repeat' split) <;> simp

@[simp] theorem State.reportRelaySuccess_agent_keyState (x : RelayContext) (s : State) :
    (s.reportRelaySuccess x).agent.keyState = s.agent.keyState := by
  unfold State.reportRelaySuccess
  (repeat' split) <;> simp

@[simp] theorem State.reportRelaySuccess_config (x : RelayContext) (s : State) :
    (s.reportRelaySuccess x).config = s.config := by
  unfold State.reportRelaySuccess
  (repeat' split) <;> simp

@[simp] theorem State.reportRelaySuccess_pending (x : RelayContext) (s : State) :
    (s.reportRelaySuccess x).pending = s.pending := by
  unfold State.reportRelaySuccess
  (repeat' split) <;> simp

/-! ## reportRelayFailure -/

@[simp] theorem State.reportRelayFailure_power (x : RelayContext) (s : State) :
    (s.reportRelayFailure x).power = s.power := by
  unfold State.reportRelayFailure
  (repeat' split) <;> simp

@[simp] theorem State.reportRelayFailure_route (x : RelayContext) (s : State) :
    (s.reportRelayFailure x).route = s.route := by
  unfold State.reportRelayFailure
  (repeat' split) <;> simp

@[simp] theorem State.reportRelayFailure_store_readIndex (x : RelayContext) (s : State) :
    (s.reportRelayFailure x).store.readIndex = s.store.readIndex := by
  unfold State.reportRelayFailure
  (repeat' split) <;> simp

@[simp] theorem State.reportRelayFailure_store_readHalf (x : RelayContext) (s : State) :
    (s.reportRelayFailure x).store.readHalf = s.store.readHalf := by
  unfold State.reportRelayFailure
  (repeat' split) <;> simp

@[simp] theorem State.reportRelayFailure_store_staging (x : RelayContext) (s : State) :
    (s.reportRelayFailure x).store.staging = s.store.staging := by
  unfold State.reportRelayFailure
  (repeat' split) <;> simp

@[simp] theorem State.reportRelayFailure_sched (x : RelayContext) (s : State) :
    (s.reportRelayFailure x).sched = s.sched := by
  unfold State.reportRelayFailure
  (repeat' split) <;> simp

@[simp] theorem State.reportRelayFailure_link (x : RelayContext) (s : State) :
    (s.reportRelayFailure x).link = s.link := by
  unfold State.reportRelayFailure
  (repeat' split) <;> simp

@[simp] theorem State.reportRelayFailure_trunk (x : RelayContext) (s : State) :
    (s.reportRelayFailure x).trunk = s.trunk := by
  unfold State.reportRelayFailure
  (repeat' split) <;> simp

@[simp] theorem State.reportRelayFailure_agent_unit (x : RelayContext) (s : State) :
    (s.reportRelayFailure x).agent.unit = s.agent.unit := by
  unfold State.reportRelayFailure
  (repeat' split) <;> simp

@[simp] theorem State.reportRelayFailure_agent_slot (x : RelayContext) (s : State) :
    (s.reportRelayFailure x).agent.slot = s.agent.slot := by
  unfold State.reportRelayFailure
  (repeat' split) <;> simp

@[simp] theorem State.reportRelayFailure_agent_result (x : RelayContext) (s : State) :
    (s.reportRelayFailure x).agent.result = s.agent.result := by
  unfold State.reportRelayFailure
  (repeat' split) <;> simp

@[simp] theorem State.reportRelayFailure_agent_counters (x : RelayContext) (s : State) :
    (s.reportRelayFailure x).agent.counters = s.agent.counters := by
  unfold State.reportRelayFailure
  (repeat' split) <;> simp

@[simp] theorem State.reportRelayFailure_agent_keyState (x : RelayContext) (s : State) :
    (s.reportRelayFailure x).agent.keyState = s.agent.keyState := by
  unfold State.reportRelayFailure
  (repeat' split) <;> simp

@[simp] theorem State.reportRelayFailure_config (x : RelayContext) (s : State) :
    (s.reportRelayFailure x).config = s.config := by
  unfold State.reportRelayFailure
  (repeat' split) <;> simp

@[simp] theorem State.reportRelayFailure_pending (x : RelayContext) (s : State) :
    (s.reportRelayFailure x).pending = s.pending := by
  unfold State.reportRelayFailure
  (repeat' split) <;> simp

/-! ## relayOutcome -/

@[simp] theorem State.relayOutcome_power (o : BranchOutcome) (s : State) :
    (s.relayOutcome o).power = s.power := by
  unfold State.relayOutcome
  (repeat' split) <;> simp

@[simp] theorem State.relayOutcome_route (o : BranchOutcome) (s : State) :
    (s.relayOutcome o).route = s.route := by
  unfold State.relayOutcome
  (repeat' split) <;> simp

@[simp] theorem State.relayOutcome_store_readIndex (o : BranchOutcome) (s : State) :
    (s.relayOutcome o).store.readIndex = s.store.readIndex := by
  unfold State.relayOutcome
  (repeat' split) <;> simp

@[simp] theorem State.relayOutcome_store_readHalf (o : BranchOutcome) (s : State) :
    (s.relayOutcome o).store.readHalf = s.store.readHalf := by
  unfold State.relayOutcome
  (repeat' split) <;> simp

@[simp] theorem State.relayOutcome_store_staging (o : BranchOutcome) (s : State) :
    (s.relayOutcome o).store.staging = s.store.staging := by
  unfold State.relayOutcome
  (repeat' split) <;> simp

@[simp] theorem State.relayOutcome_sched_tickPeriod (o : BranchOutcome) (s : State) :
    (s.relayOutcome o).sched.tickPeriod = s.sched.tickPeriod := by
  unfold State.relayOutcome
  (repeat' split) <;> simp

@[simp] theorem State.relayOutcome_sched_runningPeriod (o : BranchOutcome) (s : State) :
    (s.relayOutcome o).sched.runningPeriod = s.sched.runningPeriod := by
  unfold State.relayOutcome
  (repeat' split) <;> simp

@[simp] theorem State.relayOutcome_sched_tickCount (o : BranchOutcome) (s : State) :
    (s.relayOutcome o).sched.tickCount = s.sched.tickCount := by
  unfold State.relayOutcome
  (repeat' split) <;> simp

@[simp] theorem State.relayOutcome_sched_queue (o : BranchOutcome) (s : State) :
    (s.relayOutcome o).sched.queue = s.sched.queue := by
  unfold State.relayOutcome
  (repeat' split) <;> simp

@[simp] theorem State.relayOutcome_sched_deferred (o : BranchOutcome) (s : State) :
    (s.relayOutcome o).sched.deferred = s.sched.deferred := by
  unfold State.relayOutcome
  (repeat' split) <;> simp

@[simp] theorem State.relayOutcome_sched_seqCounter (o : BranchOutcome) (s : State) :
    (s.relayOutcome o).sched.seqCounter = s.sched.seqCounter := by
  unfold State.relayOutcome
  (repeat' split) <;> simp

@[simp] theorem State.relayOutcome_sched_order (o : BranchOutcome) (s : State) :
    (s.relayOutcome o).sched.order = s.sched.order := by
  unfold State.relayOutcome
  (repeat' split) <;> simp

@[simp] theorem State.relayOutcome_link_state (o : BranchOutcome) (s : State) :
    (s.relayOutcome o).link.state = s.link.state := by
  unfold State.relayOutcome
  (repeat' split) <;> simp

@[simp] theorem State.relayOutcome_link_mode (o : BranchOutcome) (s : State) :
    (s.relayOutcome o).link.mode = s.link.mode := by
  unfold State.relayOutcome
  (repeat' split) <;> simp

@[simp] theorem State.relayOutcome_link_score (o : BranchOutcome) (s : State) :
    (s.relayOutcome o).link.score = s.link.score := by
  unfold State.relayOutcome
  (repeat' split) <;> simp

@[simp] theorem State.relayOutcome_link_hold (o : BranchOutcome) (s : State) :
    (s.relayOutcome o).link.hold = s.link.hold := by
  unfold State.relayOutcome
  (repeat' split) <;> simp

@[simp] theorem State.relayOutcome_link_sampling (o : BranchOutcome) (s : State) :
    (s.relayOutcome o).link.sampling = s.link.sampling := by
  unfold State.relayOutcome
  (repeat' split) <;> simp

@[simp] theorem State.relayOutcome_link_settle (o : BranchOutcome) (s : State) :
    (s.relayOutcome o).link.settle = s.link.settle := by
  unfold State.relayOutcome
  (repeat' split) <;> simp

@[simp] theorem State.relayOutcome_link_sleepFramePending (o : BranchOutcome) (s : State) :
    (s.relayOutcome o).link.sleepFramePending = s.link.sleepFramePending := by
  unfold State.relayOutcome
  (repeat' split) <;> simp

@[simp] theorem State.relayOutcome_link_responder (o : BranchOutcome) (s : State) :
    (s.relayOutcome o).link.responder = s.link.responder := by
  unfold State.relayOutcome
  (repeat' split) <;> simp

@[simp] theorem State.relayOutcome_link_line (o : BranchOutcome) (s : State) :
    (s.relayOutcome o).link.line = s.link.line := by
  unfold State.relayOutcome
  (repeat' split) <;> simp

@[simp] theorem State.relayOutcome_link_receiver (o : BranchOutcome) (s : State) :
    (s.relayOutcome o).link.receiver = s.link.receiver := by
  unfold State.relayOutcome
  (repeat' split) <;> simp

@[simp] theorem State.relayOutcome_link_sinceH1 (o : BranchOutcome) (s : State) :
    (s.relayOutcome o).link.sinceH1 = s.link.sinceH1 := by
  unfold State.relayOutcome
  (repeat' split) <;> simp

@[simp] theorem State.relayOutcome_link_outsideLow (o : BranchOutcome) (s : State) :
    (s.relayOutcome o).link.outsideLow = s.link.outsideLow := by
  unfold State.relayOutcome
  (repeat' split) <;> simp

@[simp] theorem State.relayOutcome_link_receiverRate (o : BranchOutcome) (s : State) :
    (s.relayOutcome o).link.receiverRate = s.link.receiverRate := by
  unfold State.relayOutcome
  (repeat' split) <;> simp

@[simp] theorem State.relayOutcome_trunk_stamp (o : BranchOutcome) (s : State) :
    (s.relayOutcome o).trunk.stamp = s.trunk.stamp := by
  unfold State.relayOutcome
  (repeat' split) <;> simp

@[simp] theorem State.relayOutcome_trunk_rate (o : BranchOutcome) (s : State) :
    (s.relayOutcome o).trunk.rate = s.trunk.rate := by
  unfold State.relayOutcome
  (repeat' split) <;> simp

@[simp] theorem State.relayOutcome_trunk_receiver (o : BranchOutcome) (s : State) :
    (s.relayOutcome o).trunk.receiver = s.trunk.receiver := by
  unfold State.relayOutcome
  (repeat' split) <;> simp

@[simp] theorem State.relayOutcome_trunk_sinceH1 (o : BranchOutcome) (s : State) :
    (s.relayOutcome o).trunk.sinceH1 = s.trunk.sinceH1 := by
  unfold State.relayOutcome
  (repeat' split) <;> simp

@[simp] theorem State.relayOutcome_agent_unit (o : BranchOutcome) (s : State) :
    (s.relayOutcome o).agent.unit = s.agent.unit := by
  unfold State.relayOutcome
  (repeat' split) <;> simp

@[simp] theorem State.relayOutcome_agent_slot (o : BranchOutcome) (s : State) :
    (s.relayOutcome o).agent.slot = s.agent.slot := by
  unfold State.relayOutcome
  (repeat' split) <;> simp

@[simp] theorem State.relayOutcome_agent_result (o : BranchOutcome) (s : State) :
    (s.relayOutcome o).agent.result = s.agent.result := by
  unfold State.relayOutcome
  (repeat' split) <;> simp

@[simp] theorem State.relayOutcome_agent_counters (o : BranchOutcome) (s : State) :
    (s.relayOutcome o).agent.counters = s.agent.counters := by
  unfold State.relayOutcome
  (repeat' split) <;> simp

@[simp] theorem State.relayOutcome_agent_keyState (o : BranchOutcome) (s : State) :
    (s.relayOutcome o).agent.keyState = s.agent.keyState := by
  unfold State.relayOutcome
  (repeat' split) <;> simp

@[simp] theorem State.relayOutcome_config (o : BranchOutcome) (s : State) :
    (s.relayOutcome o).config = s.config := by
  unfold State.relayOutcome
  (repeat' split) <;> simp

@[simp] theorem State.relayOutcome_pending (o : BranchOutcome) (s : State) :
    (s.relayOutcome o).pending = s.pending := by
  unfold State.relayOutcome
  (repeat' split) <;> simp

/-! ## abandonRelay -/

@[simp] theorem State.abandonRelay_power (s : State) :
    (s.abandonRelay).power = s.power := by
  unfold State.abandonRelay
  simp

@[simp] theorem State.abandonRelay_route (s : State) :
    (s.abandonRelay).route = s.route := by
  unfold State.abandonRelay
  simp

@[simp] theorem State.abandonRelay_store (s : State) :
    (s.abandonRelay).store = s.store := by
  unfold State.abandonRelay
  simp

@[simp] theorem State.abandonRelay_sched (s : State) :
    (s.abandonRelay).sched = s.sched := by
  unfold State.abandonRelay
  simp

@[simp] theorem State.abandonRelay_link_state (s : State) :
    (s.abandonRelay).link.state = s.link.state := by
  unfold State.abandonRelay
  simp

@[simp] theorem State.abandonRelay_link_mode (s : State) :
    (s.abandonRelay).link.mode = s.link.mode := by
  unfold State.abandonRelay
  simp

@[simp] theorem State.abandonRelay_link_score (s : State) :
    (s.abandonRelay).link.score = s.link.score := by
  unfold State.abandonRelay
  simp

@[simp] theorem State.abandonRelay_link_hold (s : State) :
    (s.abandonRelay).link.hold = s.link.hold := by
  unfold State.abandonRelay
  simp

@[simp] theorem State.abandonRelay_link_sampling (s : State) :
    (s.abandonRelay).link.sampling = s.link.sampling := by
  unfold State.abandonRelay
  simp

@[simp] theorem State.abandonRelay_link_settle (s : State) :
    (s.abandonRelay).link.settle = s.link.settle := by
  unfold State.abandonRelay
  simp

@[simp] theorem State.abandonRelay_link_sleepFramePending (s : State) :
    (s.abandonRelay).link.sleepFramePending = s.link.sleepFramePending := by
  unfold State.abandonRelay
  simp

@[simp] theorem State.abandonRelay_link_responder (s : State) :
    (s.abandonRelay).link.responder = s.link.responder := by
  unfold State.abandonRelay
  simp

@[simp] theorem State.abandonRelay_link_line (s : State) :
    (s.abandonRelay).link.line = s.link.line := by
  unfold State.abandonRelay
  simp

@[simp] theorem State.abandonRelay_link_receiver (s : State) :
    (s.abandonRelay).link.receiver = s.link.receiver := by
  unfold State.abandonRelay
  simp

@[simp] theorem State.abandonRelay_link_sinceH1 (s : State) :
    (s.abandonRelay).link.sinceH1 = s.link.sinceH1 := by
  unfold State.abandonRelay
  simp

@[simp] theorem State.abandonRelay_link_outsideLow (s : State) :
    (s.abandonRelay).link.outsideLow = s.link.outsideLow := by
  unfold State.abandonRelay
  simp

@[simp] theorem State.abandonRelay_link_receiverRate (s : State) :
    (s.abandonRelay).link.receiverRate = s.link.receiverRate := by
  unfold State.abandonRelay
  simp

@[simp] theorem State.abandonRelay_trunk_stamp (s : State) :
    (s.abandonRelay).trunk.stamp = s.trunk.stamp := by
  unfold State.abandonRelay
  simp

@[simp] theorem State.abandonRelay_trunk_rate (s : State) :
    (s.abandonRelay).trunk.rate = s.trunk.rate := by
  unfold State.abandonRelay
  simp

@[simp] theorem State.abandonRelay_trunk_receiver (s : State) :
    (s.abandonRelay).trunk.receiver = s.trunk.receiver := by
  unfold State.abandonRelay
  simp

@[simp] theorem State.abandonRelay_trunk_sinceH1 (s : State) :
    (s.abandonRelay).trunk.sinceH1 = s.trunk.sinceH1 := by
  unfold State.abandonRelay
  simp

@[simp] theorem State.abandonRelay_agent (s : State) :
    (s.abandonRelay).agent = s.agent := by
  unfold State.abandonRelay
  simp

@[simp] theorem State.abandonRelay_config (s : State) :
    (s.abandonRelay).config = s.config := by
  unfold State.abandonRelay
  simp

@[simp] theorem State.abandonRelay_pending (s : State) :
    (s.abandonRelay).pending = s.pending := by
  unfold State.abandonRelay
  simp

end Sys2Proof.Machine
end

