-- ==== Sys2Proof/Laws/Linking.lean ====
section
/-! SUPPORT. Laws/Linking.lean: the frame of each shared operation of the branch link controller: what it leaves unchanged, field by
field of the state. -/

namespace Sys2Proof.Machine

/-! ## takeItem -/

@[simp] theorem State.takeItem_power (it : QueueItem) (s : State) :
    (s.takeItem it).power = s.power := by
  unfold State.takeItem
  simp

@[simp] theorem State.takeItem_route (it : QueueItem) (s : State) :
    (s.takeItem it).route = s.route := by
  unfold State.takeItem
  simp

@[simp] theorem State.takeItem_store (it : QueueItem) (s : State) :
    (s.takeItem it).store = s.store := by
  unfold State.takeItem
  simp

@[simp] theorem State.takeItem_sched_tickPeriod (it : QueueItem) (s : State) :
    (s.takeItem it).sched.tickPeriod = s.sched.tickPeriod := by
  unfold State.takeItem
  simp

@[simp] theorem State.takeItem_sched_runningPeriod (it : QueueItem) (s : State) :
    (s.takeItem it).sched.runningPeriod = s.sched.runningPeriod := by
  unfold State.takeItem
  simp

@[simp] theorem State.takeItem_sched_tickCount (it : QueueItem) (s : State) :
    (s.takeItem it).sched.tickCount = s.sched.tickCount := by
  unfold State.takeItem
  simp

@[simp] theorem State.takeItem_sched_countdowns (it : QueueItem) (s : State) :
    (s.takeItem it).sched.countdowns = s.sched.countdowns := by
  unfold State.takeItem
  simp

@[simp] theorem State.takeItem_sched_order (it : QueueItem) (s : State) :
    (s.takeItem it).sched.order = s.sched.order := by
  unfold State.takeItem
  simp

@[simp] theorem State.takeItem_link_mode (it : QueueItem) (s : State) :
    (s.takeItem it).link.mode = s.link.mode := by
  unfold State.takeItem
  simp

@[simp] theorem State.takeItem_link_score (it : QueueItem) (s : State) :
    (s.takeItem it).link.score = s.link.score := by
  unfold State.takeItem
  simp

@[simp] theorem State.takeItem_link_hold (it : QueueItem) (s : State) :
    (s.takeItem it).link.hold = s.link.hold := by
  unfold State.takeItem
  simp

@[simp] theorem State.takeItem_link_sampling (it : QueueItem) (s : State) :
    (s.takeItem it).link.sampling = s.link.sampling := by
  unfold State.takeItem
  simp

@[simp] theorem State.takeItem_link_settle (it : QueueItem) (s : State) :
    (s.takeItem it).link.settle = s.link.settle := by
  unfold State.takeItem
  simp

@[simp] theorem State.takeItem_link_relay (it : QueueItem) (s : State) :
    (s.takeItem it).link.relay = s.link.relay := by
  unfold State.takeItem
  simp

@[simp] theorem State.takeItem_link_sleepFramePending (it : QueueItem) (s : State) :
    (s.takeItem it).link.sleepFramePending = s.link.sleepFramePending := by
  unfold State.takeItem
  simp

@[simp] theorem State.takeItem_link_responder (it : QueueItem) (s : State) :
    (s.takeItem it).link.responder = s.link.responder := by
  unfold State.takeItem
  simp

@[simp] theorem State.takeItem_link_line (it : QueueItem) (s : State) :
    (s.takeItem it).link.line = s.link.line := by
  unfold State.takeItem
  simp

@[simp] theorem State.takeItem_link_receiver (it : QueueItem) (s : State) :
    (s.takeItem it).link.receiver = s.link.receiver := by
  unfold State.takeItem
  simp

@[simp] theorem State.takeItem_link_sinceH1 (it : QueueItem) (s : State) :
    (s.takeItem it).link.sinceH1 = s.link.sinceH1 := by
  unfold State.takeItem
  simp

@[simp] theorem State.takeItem_link_outsideLow (it : QueueItem) (s : State) :
    (s.takeItem it).link.outsideLow = s.link.outsideLow := by
  unfold State.takeItem
  simp

@[simp] theorem State.takeItem_link_receiverRate (it : QueueItem) (s : State) :
    (s.takeItem it).link.receiverRate = s.link.receiverRate := by
  unfold State.takeItem
  simp

@[simp] theorem State.takeItem_trunk (it : QueueItem) (s : State) :
    (s.takeItem it).trunk = s.trunk := by
  unfold State.takeItem
  simp

@[simp] theorem State.takeItem_agent (it : QueueItem) (s : State) :
    (s.takeItem it).agent = s.agent := by
  unfold State.takeItem
  simp

@[simp] theorem State.takeItem_config (it : QueueItem) (s : State) :
    (s.takeItem it).config = s.config := by
  unfold State.takeItem
  simp

@[simp] theorem State.takeItem_pending (it : QueueItem) (s : State) :
    (s.takeItem it).pending = s.pending := by
  unfold State.takeItem
  simp

/-! ## takeOffered -/

@[simp] theorem State.takeOffered_power (s : State) :
    (s.takeOffered).power = s.power := by
  unfold State.takeOffered
  (repeat' split) <;> simp

@[simp] theorem State.takeOffered_route (s : State) :
    (s.takeOffered).route = s.route := by
  unfold State.takeOffered
  (repeat' split) <;> simp

@[simp] theorem State.takeOffered_store (s : State) :
    (s.takeOffered).store = s.store := by
  unfold State.takeOffered
  (repeat' split) <;> simp

@[simp] theorem State.takeOffered_sched_tickPeriod (s : State) :
    (s.takeOffered).sched.tickPeriod = s.sched.tickPeriod := by
  unfold State.takeOffered
  (repeat' split) <;> simp

@[simp] theorem State.takeOffered_sched_runningPeriod (s : State) :
    (s.takeOffered).sched.runningPeriod = s.sched.runningPeriod := by
  unfold State.takeOffered
  (repeat' split) <;> simp

@[simp] theorem State.takeOffered_sched_tickCount (s : State) :
    (s.takeOffered).sched.tickCount = s.sched.tickCount := by
  unfold State.takeOffered
  (repeat' split) <;> simp

@[simp] theorem State.takeOffered_sched_countdowns (s : State) :
    (s.takeOffered).sched.countdowns = s.sched.countdowns := by
  unfold State.takeOffered
  (repeat' split) <;> simp

@[simp] theorem State.takeOffered_sched_order (s : State) :
    (s.takeOffered).sched.order = s.sched.order := by
  unfold State.takeOffered
  (repeat' split) <;> simp

@[simp] theorem State.takeOffered_link_mode (s : State) :
    (s.takeOffered).link.mode = s.link.mode := by
  unfold State.takeOffered
  (repeat' split) <;> simp

@[simp] theorem State.takeOffered_link_score (s : State) :
    (s.takeOffered).link.score = s.link.score := by
  unfold State.takeOffered
  (repeat' split) <;> simp

@[simp] theorem State.takeOffered_link_hold (s : State) :
    (s.takeOffered).link.hold = s.link.hold := by
  unfold State.takeOffered
  (repeat' split) <;> simp

@[simp] theorem State.takeOffered_link_sampling (s : State) :
    (s.takeOffered).link.sampling = s.link.sampling := by
  unfold State.takeOffered
  (repeat' split) <;> simp

@[simp] theorem State.takeOffered_link_settle (s : State) :
    (s.takeOffered).link.settle = s.link.settle := by
  unfold State.takeOffered
  (repeat' split) <;> simp

@[simp] theorem State.takeOffered_link_relay (s : State) :
    (s.takeOffered).link.relay = s.link.relay := by
  unfold State.takeOffered
  (repeat' split) <;> simp

@[simp] theorem State.takeOffered_link_sleepFramePending (s : State) :
    (s.takeOffered).link.sleepFramePending = s.link.sleepFramePending := by
  unfold State.takeOffered
  (repeat' split) <;> simp

@[simp] theorem State.takeOffered_link_responder (s : State) :
    (s.takeOffered).link.responder = s.link.responder := by
  unfold State.takeOffered
  (repeat' split) <;> simp

@[simp] theorem State.takeOffered_link_line (s : State) :
    (s.takeOffered).link.line = s.link.line := by
  unfold State.takeOffered
  (repeat' split) <;> simp

@[simp] theorem State.takeOffered_link_receiver (s : State) :
    (s.takeOffered).link.receiver = s.link.receiver := by
  unfold State.takeOffered
  (repeat' split) <;> simp

@[simp] theorem State.takeOffered_link_sinceH1 (s : State) :
    (s.takeOffered).link.sinceH1 = s.link.sinceH1 := by
  unfold State.takeOffered
  (repeat' split) <;> simp

@[simp] theorem State.takeOffered_link_outsideLow (s : State) :
    (s.takeOffered).link.outsideLow = s.link.outsideLow := by
  unfold State.takeOffered
  (repeat' split) <;> simp

@[simp] theorem State.takeOffered_link_receiverRate (s : State) :
    (s.takeOffered).link.receiverRate = s.link.receiverRate := by
  unfold State.takeOffered
  (repeat' split) <;> simp

@[simp] theorem State.takeOffered_trunk (s : State) :
    (s.takeOffered).trunk = s.trunk := by
  unfold State.takeOffered
  (repeat' split) <;> simp

@[simp] theorem State.takeOffered_agent (s : State) :
    (s.takeOffered).agent = s.agent := by
  unfold State.takeOffered
  (repeat' split) <;> simp

@[simp] theorem State.takeOffered_config (s : State) :
    (s.takeOffered).config = s.config := by
  unfold State.takeOffered
  (repeat' split) <;> simp

@[simp] theorem State.takeOffered_pending (s : State) :
    (s.takeOffered).pending = s.pending := by
  unfold State.takeOffered
  (repeat' split) <;> simp

/-! ## beginSleepFrame -/

@[simp] theorem State.beginSleepFrame_power (s : State) :
    (s.beginSleepFrame).power = s.power := by
  unfold State.beginSleepFrame
  simp

@[simp] theorem State.beginSleepFrame_route (s : State) :
    (s.beginSleepFrame).route = s.route := by
  unfold State.beginSleepFrame
  simp

@[simp] theorem State.beginSleepFrame_store (s : State) :
    (s.beginSleepFrame).store = s.store := by
  unfold State.beginSleepFrame
  simp

@[simp] theorem State.beginSleepFrame_sched (s : State) :
    (s.beginSleepFrame).sched = s.sched := by
  unfold State.beginSleepFrame
  simp

@[simp] theorem State.beginSleepFrame_link_mode (s : State) :
    (s.beginSleepFrame).link.mode = s.link.mode := by
  unfold State.beginSleepFrame
  simp

@[simp] theorem State.beginSleepFrame_link_score (s : State) :
    (s.beginSleepFrame).link.score = s.link.score := by
  unfold State.beginSleepFrame
  simp

@[simp] theorem State.beginSleepFrame_link_hold (s : State) :
    (s.beginSleepFrame).link.hold = s.link.hold := by
  unfold State.beginSleepFrame
  simp

@[simp] theorem State.beginSleepFrame_link_sampling (s : State) :
    (s.beginSleepFrame).link.sampling = s.link.sampling := by
  unfold State.beginSleepFrame
  simp

@[simp] theorem State.beginSleepFrame_link_settle (s : State) :
    (s.beginSleepFrame).link.settle = s.link.settle := by
  unfold State.beginSleepFrame
  simp

@[simp] theorem State.beginSleepFrame_link_relay (s : State) :
    (s.beginSleepFrame).link.relay = s.link.relay := by
  unfold State.beginSleepFrame
  simp

@[simp] theorem State.beginSleepFrame_link_responder (s : State) :
    (s.beginSleepFrame).link.responder = s.link.responder := by
  unfold State.beginSleepFrame
  simp

@[simp] theorem State.beginSleepFrame_link_line (s : State) :
    (s.beginSleepFrame).link.line = s.link.line := by
  unfold State.beginSleepFrame
  simp

@[simp] theorem State.beginSleepFrame_link_receiver (s : State) :
    (s.beginSleepFrame).link.receiver = s.link.receiver := by
  unfold State.beginSleepFrame
  simp

@[simp] theorem State.beginSleepFrame_link_sinceH1 (s : State) :
    (s.beginSleepFrame).link.sinceH1 = s.link.sinceH1 := by
  unfold State.beginSleepFrame
  simp

@[simp] theorem State.beginSleepFrame_link_outsideLow (s : State) :
    (s.beginSleepFrame).link.outsideLow = s.link.outsideLow := by
  unfold State.beginSleepFrame
  simp

@[simp] theorem State.beginSleepFrame_link_receiverRate (s : State) :
    (s.beginSleepFrame).link.receiverRate = s.link.receiverRate := by
  unfold State.beginSleepFrame
  simp

@[simp] theorem State.beginSleepFrame_trunk (s : State) :
    (s.beginSleepFrame).trunk = s.trunk := by
  unfold State.beginSleepFrame
  simp

@[simp] theorem State.beginSleepFrame_agent (s : State) :
    (s.beginSleepFrame).agent = s.agent := by
  unfold State.beginSleepFrame
  simp

@[simp] theorem State.beginSleepFrame_config (s : State) :
    (s.beginSleepFrame).config = s.config := by
  unfold State.beginSleepFrame
  simp

@[simp] theorem State.beginSleepFrame_pending (s : State) :
    (s.beginSleepFrame).pending = s.pending := by
  unfold State.beginSleepFrame
  simp

/-! ## enterQuarantine -/

@[simp] theorem State.enterQuarantine_power (s : State) :
    (s.enterQuarantine).power = s.power := by
  unfold State.enterQuarantine
  simp

@[simp] theorem State.enterQuarantine_route (s : State) :
    (s.enterQuarantine).route = s.route := by
  unfold State.enterQuarantine
  simp

@[simp] theorem State.enterQuarantine_store (s : State) :
    (s.enterQuarantine).store = s.store := by
  unfold State.enterQuarantine
  simp

@[simp] theorem State.enterQuarantine_sched_tickPeriod (s : State) :
    (s.enterQuarantine).sched.tickPeriod = s.sched.tickPeriod := by
  unfold State.enterQuarantine
  simp

@[simp] theorem State.enterQuarantine_sched_runningPeriod (s : State) :
    (s.enterQuarantine).sched.runningPeriod = s.sched.runningPeriod := by
  unfold State.enterQuarantine
  simp

@[simp] theorem State.enterQuarantine_sched_tickCount (s : State) :
    (s.enterQuarantine).sched.tickCount = s.sched.tickCount := by
  unfold State.enterQuarantine
  simp

@[simp] theorem State.enterQuarantine_sched_countdowns (s : State) :
    (s.enterQuarantine).sched.countdowns = s.sched.countdowns := by
  unfold State.enterQuarantine
  simp

@[simp] theorem State.enterQuarantine_sched_seqCounter (s : State) :
    (s.enterQuarantine).sched.seqCounter = s.sched.seqCounter := by
  unfold State.enterQuarantine
  simp

@[simp] theorem State.enterQuarantine_sched_order (s : State) :
    (s.enterQuarantine).sched.order = s.sched.order := by
  unfold State.enterQuarantine
  simp

@[simp] theorem State.enterQuarantine_link_mode (s : State) :
    (s.enterQuarantine).link.mode = s.link.mode := by
  unfold State.enterQuarantine
  simp

@[simp] theorem State.enterQuarantine_link_score (s : State) :
    (s.enterQuarantine).link.score = s.link.score := by
  unfold State.enterQuarantine
  simp

@[simp] theorem State.enterQuarantine_link_settle (s : State) :
    (s.enterQuarantine).link.settle = s.link.settle := by
  unfold State.enterQuarantine
  simp

@[simp] theorem State.enterQuarantine_link_relay (s : State) :
    (s.enterQuarantine).link.relay = s.link.relay := by
  unfold State.enterQuarantine
  simp

@[simp] theorem State.enterQuarantine_link_responder (s : State) :
    (s.enterQuarantine).link.responder = s.link.responder := by
  unfold State.enterQuarantine
  simp

@[simp] theorem State.enterQuarantine_link_line (s : State) :
    (s.enterQuarantine).link.line = s.link.line := by
  unfold State.enterQuarantine
  simp

@[simp] theorem State.enterQuarantine_link_receiver (s : State) :
    (s.enterQuarantine).link.receiver = s.link.receiver := by
  unfold State.enterQuarantine
  simp

@[simp] theorem State.enterQuarantine_link_sinceH1 (s : State) :
    (s.enterQuarantine).link.sinceH1 = s.link.sinceH1 := by
  unfold State.enterQuarantine
  simp

@[simp] theorem State.enterQuarantine_link_outsideLow (s : State) :
    (s.enterQuarantine).link.outsideLow = s.link.outsideLow := by
  unfold State.enterQuarantine
  simp

@[simp] theorem State.enterQuarantine_link_receiverRate (s : State) :
    (s.enterQuarantine).link.receiverRate = s.link.receiverRate := by
  unfold State.enterQuarantine
  simp

@[simp] theorem State.enterQuarantine_trunk (s : State) :
    (s.enterQuarantine).trunk = s.trunk := by
  unfold State.enterQuarantine
  simp

@[simp] theorem State.enterQuarantine_agent_unit (s : State) :
    (s.enterQuarantine).agent.unit = s.agent.unit := by
  unfold State.enterQuarantine
  simp

@[simp] theorem State.enterQuarantine_agent_counters (s : State) :
    (s.enterQuarantine).agent.counters = s.agent.counters := by
  unfold State.enterQuarantine
  simp

@[simp] theorem State.enterQuarantine_agent_keyState (s : State) :
    (s.enterQuarantine).agent.keyState = s.agent.keyState := by
  unfold State.enterQuarantine
  simp

@[simp] theorem State.enterQuarantine_config (s : State) :
    (s.enterQuarantine).config = s.config := by
  unfold State.enterQuarantine
  simp

@[simp] theorem State.enterQuarantine_pending (s : State) :
    (s.enterQuarantine).pending = s.pending := by
  unfold State.enterQuarantine
  simp

/-! ## releaseQuarantine -/

@[simp] theorem State.releaseQuarantine_power (s : State) :
    (s.releaseQuarantine).power = s.power := by
  unfold State.releaseQuarantine
  simp

@[simp] theorem State.releaseQuarantine_route (s : State) :
    (s.releaseQuarantine).route = s.route := by
  unfold State.releaseQuarantine
  simp

@[simp] theorem State.releaseQuarantine_store (s : State) :
    (s.releaseQuarantine).store = s.store := by
  unfold State.releaseQuarantine
  simp

@[simp] theorem State.releaseQuarantine_link_mode (s : State) :
    (s.releaseQuarantine).link.mode = s.link.mode := by
  unfold State.releaseQuarantine
  simp

@[simp] theorem State.releaseQuarantine_link_settle (s : State) :
    (s.releaseQuarantine).link.settle = s.link.settle := by
  unfold State.releaseQuarantine
  simp

@[simp] theorem State.releaseQuarantine_link_relay (s : State) :
    (s.releaseQuarantine).link.relay = s.link.relay := by
  unfold State.releaseQuarantine
  simp

@[simp] theorem State.releaseQuarantine_link_sleepFramePending (s : State) :
    (s.releaseQuarantine).link.sleepFramePending = s.link.sleepFramePending := by
  unfold State.releaseQuarantine
  simp

@[simp] theorem State.releaseQuarantine_link_responder (s : State) :
    (s.releaseQuarantine).link.responder = s.link.responder := by
  unfold State.releaseQuarantine
  simp

@[simp] theorem State.releaseQuarantine_link_line (s : State) :
    (s.releaseQuarantine).link.line = s.link.line := by
  unfold State.releaseQuarantine
  simp

@[simp] theorem State.releaseQuarantine_link_receiver (s : State) :
    (s.releaseQuarantine).link.receiver = s.link.receiver := by
  unfold State.releaseQuarantine
  simp

@[simp] theorem State.releaseQuarantine_link_sinceH1 (s : State) :
    (s.releaseQuarantine).link.sinceH1 = s.link.sinceH1 := by
  unfold State.releaseQuarantine
  simp

@[simp] theorem State.releaseQuarantine_link_outsideLow (s : State) :
    (s.releaseQuarantine).link.outsideLow = s.link.outsideLow := by
  unfold State.releaseQuarantine
  simp

@[simp] theorem State.releaseQuarantine_link_receiverRate (s : State) :
    (s.releaseQuarantine).link.receiverRate = s.link.receiverRate := by
  unfold State.releaseQuarantine
  simp

@[simp] theorem State.releaseQuarantine_trunk (s : State) :
    (s.releaseQuarantine).trunk = s.trunk := by
  unfold State.releaseQuarantine
  simp

@[simp] theorem State.releaseQuarantine_config (s : State) :
    (s.releaseQuarantine).config = s.config := by
  unfold State.releaseQuarantine
  simp

@[simp] theorem State.releaseQuarantine_pending (s : State) :
    (s.releaseQuarantine).pending = s.pending := by
  unfold State.releaseQuarantine
  simp

/-! ## publishOutcome -/

@[simp] theorem State.publishOutcome_power (i : EntryIndex) (version : Byte) (o : BranchOutcome) (s : State) :
    (s.publishOutcome i version o).power = s.power := by
  unfold State.publishOutcome
  (try dsimp only)
  (repeat' split) <;> simp

@[simp] theorem State.publishOutcome_route (i : EntryIndex) (version : Byte) (o : BranchOutcome) (s : State) :
    (s.publishOutcome i version o).route = s.route := by
  unfold State.publishOutcome
  (try dsimp only)
  (repeat' split) <;> simp

@[simp] theorem State.publishOutcome_store_readIndex (i : EntryIndex) (version : Byte) (o : BranchOutcome) (s : State) :
    (s.publishOutcome i version o).store.readIndex = s.store.readIndex := by
  unfold State.publishOutcome
  (try dsimp only)
  (repeat' split) <;> simp

@[simp] theorem State.publishOutcome_store_readHalf (i : EntryIndex) (version : Byte) (o : BranchOutcome) (s : State) :
    (s.publishOutcome i version o).store.readHalf = s.store.readHalf := by
  unfold State.publishOutcome
  (try dsimp only)
  (repeat' split) <;> simp

@[simp] theorem State.publishOutcome_store_staging (i : EntryIndex) (version : Byte) (o : BranchOutcome) (s : State) :
    (s.publishOutcome i version o).store.staging = s.store.staging := by
  unfold State.publishOutcome
  (try dsimp only)
  (repeat' split) <;> simp

@[simp] theorem State.publishOutcome_sched_tickPeriod (i : EntryIndex) (version : Byte) (o : BranchOutcome) (s : State) :
    (s.publishOutcome i version o).sched.tickPeriod = s.sched.tickPeriod := by
  unfold State.publishOutcome
  (try dsimp only)
  (repeat' split) <;> simp

@[simp] theorem State.publishOutcome_sched_runningPeriod (i : EntryIndex) (version : Byte) (o : BranchOutcome) (s : State) :
    (s.publishOutcome i version o).sched.runningPeriod = s.sched.runningPeriod := by
  unfold State.publishOutcome
  (try dsimp only)
  (repeat' split) <;> simp

@[simp] theorem State.publishOutcome_sched_tickCount (i : EntryIndex) (version : Byte) (o : BranchOutcome) (s : State) :
    (s.publishOutcome i version o).sched.tickCount = s.sched.tickCount := by
  unfold State.publishOutcome
  (try dsimp only)
  (repeat' split) <;> simp

@[simp] theorem State.publishOutcome_sched_countdowns (i : EntryIndex) (version : Byte) (o : BranchOutcome) (s : State) :
    (s.publishOutcome i version o).sched.countdowns = s.sched.countdowns := by
  unfold State.publishOutcome
  (try dsimp only)
  (repeat' split) <;> simp

@[simp] theorem State.publishOutcome_sched_order (i : EntryIndex) (version : Byte) (o : BranchOutcome) (s : State) :
    (s.publishOutcome i version o).sched.order = s.sched.order := by
  unfold State.publishOutcome
  (try dsimp only)
  (repeat' split) <;> simp

@[simp] theorem State.publishOutcome_link (i : EntryIndex) (version : Byte) (o : BranchOutcome) (s : State) :
    (s.publishOutcome i version o).link = s.link := by
  unfold State.publishOutcome
  (try dsimp only)
  (repeat' split) <;> simp

@[simp] theorem State.publishOutcome_trunk (i : EntryIndex) (version : Byte) (o : BranchOutcome) (s : State) :
    (s.publishOutcome i version o).trunk = s.trunk := by
  unfold State.publishOutcome
  (try dsimp only)
  (repeat' split) <;> simp

@[simp] theorem State.publishOutcome_agent_unit (i : EntryIndex) (version : Byte) (o : BranchOutcome) (s : State) :
    (s.publishOutcome i version o).agent.unit = s.agent.unit := by
  unfold State.publishOutcome
  (try dsimp only)
  (repeat' split) <;> simp

@[simp] theorem State.publishOutcome_agent_slot (i : EntryIndex) (version : Byte) (o : BranchOutcome) (s : State) :
    (s.publishOutcome i version o).agent.slot = s.agent.slot := by
  unfold State.publishOutcome
  (try dsimp only)
  (repeat' split) <;> simp

@[simp] theorem State.publishOutcome_agent_result (i : EntryIndex) (version : Byte) (o : BranchOutcome) (s : State) :
    (s.publishOutcome i version o).agent.result = s.agent.result := by
  unfold State.publishOutcome
  (try dsimp only)
  (repeat' split) <;> simp

@[simp] theorem State.publishOutcome_agent_counters (i : EntryIndex) (version : Byte) (o : BranchOutcome) (s : State) :
    (s.publishOutcome i version o).agent.counters = s.agent.counters := by
  unfold State.publishOutcome
  (try dsimp only)
  (repeat' split) <;> simp

@[simp] theorem State.publishOutcome_agent_keyState (i : EntryIndex) (version : Byte) (o : BranchOutcome) (s : State) :
    (s.publishOutcome i version o).agent.keyState = s.agent.keyState := by
  unfold State.publishOutcome
  (try dsimp only)
  (repeat' split) <;> simp

@[simp] theorem State.publishOutcome_config (i : EntryIndex) (version : Byte) (o : BranchOutcome) (s : State) :
    (s.publishOutcome i version o).config = s.config := by
  unfold State.publishOutcome
  (try dsimp only)
  (repeat' split) <;> simp

@[simp] theorem State.publishOutcome_pending (i : EntryIndex) (version : Byte) (o : BranchOutcome) (s : State) :
    (s.publishOutcome i version o).pending = s.pending := by
  unfold State.publishOutcome
  (try dsimp only)
  (repeat' split) <;> simp

/-! ## refreshOutcome -/

@[simp] theorem State.refreshOutcome_power (i : EntryIndex) (data : List Byte) (o : BranchOutcome) (s : State) :
    (s.refreshOutcome i data o).power = s.power := by
  unfold State.refreshOutcome
  (repeat' split) <;> simp

@[simp] theorem State.refreshOutcome_route (i : EntryIndex) (data : List Byte) (o : BranchOutcome) (s : State) :
    (s.refreshOutcome i data o).route = s.route := by
  unfold State.refreshOutcome
  (repeat' split) <;> simp

@[simp] theorem State.refreshOutcome_store_readIndex (i : EntryIndex) (data : List Byte) (o : BranchOutcome) (s : State) :
    (s.refreshOutcome i data o).store.readIndex = s.store.readIndex := by
  unfold State.refreshOutcome
  (repeat' split) <;> simp

@[simp] theorem State.refreshOutcome_store_readHalf (i : EntryIndex) (data : List Byte) (o : BranchOutcome) (s : State) :
    (s.refreshOutcome i data o).store.readHalf = s.store.readHalf := by
  unfold State.refreshOutcome
  (repeat' split) <;> simp

@[simp] theorem State.refreshOutcome_store_staging (i : EntryIndex) (data : List Byte) (o : BranchOutcome) (s : State) :
    (s.refreshOutcome i data o).store.staging = s.store.staging := by
  unfold State.refreshOutcome
  (repeat' split) <;> simp

@[simp] theorem State.refreshOutcome_sched_tickPeriod (i : EntryIndex) (data : List Byte) (o : BranchOutcome) (s : State) :
    (s.refreshOutcome i data o).sched.tickPeriod = s.sched.tickPeriod := by
  unfold State.refreshOutcome
  (repeat' split) <;> simp

@[simp] theorem State.refreshOutcome_sched_runningPeriod (i : EntryIndex) (data : List Byte) (o : BranchOutcome) (s : State) :
    (s.refreshOutcome i data o).sched.runningPeriod = s.sched.runningPeriod := by
  unfold State.refreshOutcome
  (repeat' split) <;> simp

@[simp] theorem State.refreshOutcome_sched_tickCount (i : EntryIndex) (data : List Byte) (o : BranchOutcome) (s : State) :
    (s.refreshOutcome i data o).sched.tickCount = s.sched.tickCount := by
  unfold State.refreshOutcome
  (repeat' split) <;> simp

@[simp] theorem State.refreshOutcome_sched_queue (i : EntryIndex) (data : List Byte) (o : BranchOutcome) (s : State) :
    (s.refreshOutcome i data o).sched.queue = s.sched.queue := by
  unfold State.refreshOutcome
  (repeat' split) <;> simp

@[simp] theorem State.refreshOutcome_sched_deferred (i : EntryIndex) (data : List Byte) (o : BranchOutcome) (s : State) :
    (s.refreshOutcome i data o).sched.deferred = s.sched.deferred := by
  unfold State.refreshOutcome
  (repeat' split) <;> simp

@[simp] theorem State.refreshOutcome_sched_seqCounter (i : EntryIndex) (data : List Byte) (o : BranchOutcome) (s : State) :
    (s.refreshOutcome i data o).sched.seqCounter = s.sched.seqCounter := by
  unfold State.refreshOutcome
  (repeat' split) <;> simp

@[simp] theorem State.refreshOutcome_sched_order (i : EntryIndex) (data : List Byte) (o : BranchOutcome) (s : State) :
    (s.refreshOutcome i data o).sched.order = s.sched.order := by
  unfold State.refreshOutcome
  (repeat' split) <;> simp

@[simp] theorem State.refreshOutcome_link (i : EntryIndex) (data : List Byte) (o : BranchOutcome) (s : State) :
    (s.refreshOutcome i data o).link = s.link := by
  unfold State.refreshOutcome
  (repeat' split) <;> simp

@[simp] theorem State.refreshOutcome_trunk (i : EntryIndex) (data : List Byte) (o : BranchOutcome) (s : State) :
    (s.refreshOutcome i data o).trunk = s.trunk := by
  unfold State.refreshOutcome
  (repeat' split) <;> simp

@[simp] theorem State.refreshOutcome_agent_unit (i : EntryIndex) (data : List Byte) (o : BranchOutcome) (s : State) :
    (s.refreshOutcome i data o).agent.unit = s.agent.unit := by
  unfold State.refreshOutcome
  (repeat' split) <;> simp

@[simp] theorem State.refreshOutcome_agent_slot (i : EntryIndex) (data : List Byte) (o : BranchOutcome) (s : State) :
    (s.refreshOutcome i data o).agent.slot = s.agent.slot := by
  unfold State.refreshOutcome
  (repeat' split) <;> simp

@[simp] theorem State.refreshOutcome_agent_result (i : EntryIndex) (data : List Byte) (o : BranchOutcome) (s : State) :
    (s.refreshOutcome i data o).agent.result = s.agent.result := by
  unfold State.refreshOutcome
  (repeat' split) <;> simp

@[simp] theorem State.refreshOutcome_agent_counters (i : EntryIndex) (data : List Byte) (o : BranchOutcome) (s : State) :
    (s.refreshOutcome i data o).agent.counters = s.agent.counters := by
  unfold State.refreshOutcome
  (repeat' split) <;> simp

@[simp] theorem State.refreshOutcome_agent_keyState (i : EntryIndex) (data : List Byte) (o : BranchOutcome) (s : State) :
    (s.refreshOutcome i data o).agent.keyState = s.agent.keyState := by
  unfold State.refreshOutcome
  (repeat' split) <;> simp

@[simp] theorem State.refreshOutcome_config (i : EntryIndex) (data : List Byte) (o : BranchOutcome) (s : State) :
    (s.refreshOutcome i data o).config = s.config := by
  unfold State.refreshOutcome
  (repeat' split) <;> simp

@[simp] theorem State.refreshOutcome_pending (i : EntryIndex) (data : List Byte) (o : BranchOutcome) (s : State) :
    (s.refreshOutcome i data o).pending = s.pending := by
  unfold State.refreshOutcome
  (repeat' split) <;> simp

/-! ## sleepOutcome -/

@[simp] theorem State.sleepOutcome_power (o : BranchOutcome) (s : State) :
    (s.sleepOutcome o).power = s.power := by
  unfold State.sleepOutcome
  (repeat' split) <;> simp

@[simp] theorem State.sleepOutcome_route (o : BranchOutcome) (s : State) :
    (s.sleepOutcome o).route = s.route := by
  unfold State.sleepOutcome
  (repeat' split) <;> simp

@[simp] theorem State.sleepOutcome_store (o : BranchOutcome) (s : State) :
    (s.sleepOutcome o).store = s.store := by
  unfold State.sleepOutcome
  (repeat' split) <;> simp

@[simp] theorem State.sleepOutcome_sched (o : BranchOutcome) (s : State) :
    (s.sleepOutcome o).sched = s.sched := by
  unfold State.sleepOutcome
  (repeat' split) <;> simp

@[simp] theorem State.sleepOutcome_link (o : BranchOutcome) (s : State) :
    (s.sleepOutcome o).link = s.link := by
  unfold State.sleepOutcome
  (repeat' split) <;> simp

@[simp] theorem State.sleepOutcome_trunk (o : BranchOutcome) (s : State) :
    (s.sleepOutcome o).trunk = s.trunk := by
  unfold State.sleepOutcome
  (repeat' split) <;> simp

@[simp] theorem State.sleepOutcome_agent_unit (o : BranchOutcome) (s : State) :
    (s.sleepOutcome o).agent.unit = s.agent.unit := by
  unfold State.sleepOutcome
  (repeat' split) <;> simp

@[simp] theorem State.sleepOutcome_agent_flags (o : BranchOutcome) (s : State) :
    (s.sleepOutcome o).agent.flags = s.agent.flags := by
  unfold State.sleepOutcome
  (repeat' split) <;> simp

@[simp] theorem State.sleepOutcome_agent_counters (o : BranchOutcome) (s : State) :
    (s.sleepOutcome o).agent.counters = s.agent.counters := by
  unfold State.sleepOutcome
  (repeat' split) <;> simp

@[simp] theorem State.sleepOutcome_agent_keyState (o : BranchOutcome) (s : State) :
    (s.sleepOutcome o).agent.keyState = s.agent.keyState := by
  unfold State.sleepOutcome
  (repeat' split) <;> simp

@[simp] theorem State.sleepOutcome_config (o : BranchOutcome) (s : State) :
    (s.sleepOutcome o).config = s.config := by
  unfold State.sleepOutcome
  (repeat' split) <;> simp

@[simp] theorem State.sleepOutcome_pending (o : BranchOutcome) (s : State) :
    (s.sleepOutcome o).pending = s.pending := by
  unfold State.sleepOutcome
  (repeat' split) <;> simp

/-! ## handOn -/

@[simp] theorem State.handOn_power (op : TransactionOp) (data : List Byte) (o : BranchOutcome) (s : State) :
    (s.handOn op data o).power = s.power := by
  unfold State.handOn
  (repeat' split) <;> simp

@[simp] theorem State.handOn_route (op : TransactionOp) (data : List Byte) (o : BranchOutcome) (s : State) :
    (s.handOn op data o).route = s.route := by
  unfold State.handOn
  (repeat' split) <;> simp

@[simp] theorem State.handOn_store_readIndex (op : TransactionOp) (data : List Byte) (o : BranchOutcome) (s : State) :
    (s.handOn op data o).store.readIndex = s.store.readIndex := by
  unfold State.handOn
  (repeat' split) <;> simp

@[simp] theorem State.handOn_store_readHalf (op : TransactionOp) (data : List Byte) (o : BranchOutcome) (s : State) :
    (s.handOn op data o).store.readHalf = s.store.readHalf := by
  unfold State.handOn
  (repeat' split) <;> simp

@[simp] theorem State.handOn_store_staging (op : TransactionOp) (data : List Byte) (o : BranchOutcome) (s : State) :
    (s.handOn op data o).store.staging = s.store.staging := by
  unfold State.handOn
  (repeat' split) <;> simp

@[simp] theorem State.handOn_sched_tickPeriod (op : TransactionOp) (data : List Byte) (o : BranchOutcome) (s : State) :
    (s.handOn op data o).sched.tickPeriod = s.sched.tickPeriod := by
  unfold State.handOn
  (repeat' split) <;> simp

@[simp] theorem State.handOn_sched_runningPeriod (op : TransactionOp) (data : List Byte) (o : BranchOutcome) (s : State) :
    (s.handOn op data o).sched.runningPeriod = s.sched.runningPeriod := by
  unfold State.handOn
  (repeat' split) <;> simp

@[simp] theorem State.handOn_sched_tickCount (op : TransactionOp) (data : List Byte) (o : BranchOutcome) (s : State) :
    (s.handOn op data o).sched.tickCount = s.sched.tickCount := by
  unfold State.handOn
  (repeat' split) <;> simp

@[simp] theorem State.handOn_sched_order (op : TransactionOp) (data : List Byte) (o : BranchOutcome) (s : State) :
    (s.handOn op data o).sched.order = s.sched.order := by
  unfold State.handOn
  (repeat' split) <;> simp

@[simp] theorem State.handOn_link_state (op : TransactionOp) (data : List Byte) (o : BranchOutcome) (s : State) :
    (s.handOn op data o).link.state = s.link.state := by
  unfold State.handOn
  (repeat' split) <;> simp

@[simp] theorem State.handOn_link_mode (op : TransactionOp) (data : List Byte) (o : BranchOutcome) (s : State) :
    (s.handOn op data o).link.mode = s.link.mode := by
  unfold State.handOn
  (repeat' split) <;> simp

@[simp] theorem State.handOn_link_score (op : TransactionOp) (data : List Byte) (o : BranchOutcome) (s : State) :
    (s.handOn op data o).link.score = s.link.score := by
  unfold State.handOn
  (repeat' split) <;> simp

@[simp] theorem State.handOn_link_hold (op : TransactionOp) (data : List Byte) (o : BranchOutcome) (s : State) :
    (s.handOn op data o).link.hold = s.link.hold := by
  unfold State.handOn
  (repeat' split) <;> simp

@[simp] theorem State.handOn_link_sampling (op : TransactionOp) (data : List Byte) (o : BranchOutcome) (s : State) :
    (s.handOn op data o).link.sampling = s.link.sampling := by
  unfold State.handOn
  (repeat' split) <;> simp

@[simp] theorem State.handOn_link_settle (op : TransactionOp) (data : List Byte) (o : BranchOutcome) (s : State) :
    (s.handOn op data o).link.settle = s.link.settle := by
  unfold State.handOn
  (repeat' split) <;> simp

@[simp] theorem State.handOn_link_sleepFramePending (op : TransactionOp) (data : List Byte) (o : BranchOutcome) (s : State) :
    (s.handOn op data o).link.sleepFramePending = s.link.sleepFramePending := by
  unfold State.handOn
  (repeat' split) <;> simp

@[simp] theorem State.handOn_link_responder (op : TransactionOp) (data : List Byte) (o : BranchOutcome) (s : State) :
    (s.handOn op data o).link.responder = s.link.responder := by
  unfold State.handOn
  (repeat' split) <;> simp

@[simp] theorem State.handOn_link_line (op : TransactionOp) (data : List Byte) (o : BranchOutcome) (s : State) :
    (s.handOn op data o).link.line = s.link.line := by
  unfold State.handOn
  (repeat' split) <;> simp

@[simp] theorem State.handOn_link_receiver (op : TransactionOp) (data : List Byte) (o : BranchOutcome) (s : State) :
    (s.handOn op data o).link.receiver = s.link.receiver := by
  unfold State.handOn
  (repeat' split) <;> simp

@[simp] theorem State.handOn_link_sinceH1 (op : TransactionOp) (data : List Byte) (o : BranchOutcome) (s : State) :
    (s.handOn op data o).link.sinceH1 = s.link.sinceH1 := by
  unfold State.handOn
  (repeat' split) <;> simp

@[simp] theorem State.handOn_link_outsideLow (op : TransactionOp) (data : List Byte) (o : BranchOutcome) (s : State) :
    (s.handOn op data o).link.outsideLow = s.link.outsideLow := by
  unfold State.handOn
  (repeat' split) <;> simp

@[simp] theorem State.handOn_link_receiverRate (op : TransactionOp) (data : List Byte) (o : BranchOutcome) (s : State) :
    (s.handOn op data o).link.receiverRate = s.link.receiverRate := by
  unfold State.handOn
  (repeat' split) <;> simp

@[simp] theorem State.handOn_trunk_stamp (op : TransactionOp) (data : List Byte) (o : BranchOutcome) (s : State) :
    (s.handOn op data o).trunk.stamp = s.trunk.stamp := by
  unfold State.handOn
  (repeat' split) <;> simp

@[simp] theorem State.handOn_trunk_rate (op : TransactionOp) (data : List Byte) (o : BranchOutcome) (s : State) :
    (s.handOn op data o).trunk.rate = s.trunk.rate := by
  unfold State.handOn
  (repeat' split) <;> simp

@[simp] theorem State.handOn_trunk_receiver (op : TransactionOp) (data : List Byte) (o : BranchOutcome) (s : State) :
    (s.handOn op data o).trunk.receiver = s.trunk.receiver := by
  unfold State.handOn
  (repeat' split) <;> simp

@[simp] theorem State.handOn_trunk_sinceH1 (op : TransactionOp) (data : List Byte) (o : BranchOutcome) (s : State) :
    (s.handOn op data o).trunk.sinceH1 = s.trunk.sinceH1 := by
  unfold State.handOn
  (repeat' split) <;> simp

@[simp] theorem State.handOn_agent_unit (op : TransactionOp) (data : List Byte) (o : BranchOutcome) (s : State) :
    (s.handOn op data o).agent.unit = s.agent.unit := by
  unfold State.handOn
  (repeat' split) <;> simp

@[simp] theorem State.handOn_agent_counters (op : TransactionOp) (data : List Byte) (o : BranchOutcome) (s : State) :
    (s.handOn op data o).agent.counters = s.agent.counters := by
  unfold State.handOn
  (repeat' split) <;> simp

@[simp] theorem State.handOn_agent_keyState (op : TransactionOp) (data : List Byte) (o : BranchOutcome) (s : State) :
    (s.handOn op data o).agent.keyState = s.agent.keyState := by
  unfold State.handOn
  (repeat' split) <;> simp

@[simp] theorem State.handOn_config (op : TransactionOp) (data : List Byte) (o : BranchOutcome) (s : State) :
    (s.handOn op data o).config = s.config := by
  unfold State.handOn
  (repeat' split) <;> simp

@[simp] theorem State.handOn_pending (op : TransactionOp) (data : List Byte) (o : BranchOutcome) (s : State) :
    (s.handOn op data o).pending = s.pending := by
  unfold State.handOn
  (repeat' split) <;> simp

/-! ## leaveTransaction -/

@[simp] theorem State.leaveTransaction_power (t : Transaction) (o : BranchOutcome) (s : State) :
    (s.leaveTransaction t o).power = s.power := by
  unfold State.leaveTransaction
  (repeat' split) <;> simp

@[simp] theorem State.leaveTransaction_route (t : Transaction) (o : BranchOutcome) (s : State) :
    (s.leaveTransaction t o).route = s.route := by
  unfold State.leaveTransaction
  (repeat' split) <;> simp

@[simp] theorem State.leaveTransaction_store (t : Transaction) (o : BranchOutcome) (s : State) :
    (s.leaveTransaction t o).store = s.store := by
  unfold State.leaveTransaction
  (repeat' split) <;> simp

@[simp] theorem State.leaveTransaction_sched_tickPeriod (t : Transaction) (o : BranchOutcome) (s : State) :
    (s.leaveTransaction t o).sched.tickPeriod = s.sched.tickPeriod := by
  unfold State.leaveTransaction
  (repeat' split) <;> simp

@[simp] theorem State.leaveTransaction_sched_runningPeriod (t : Transaction) (o : BranchOutcome) (s : State) :
    (s.leaveTransaction t o).sched.runningPeriod = s.sched.runningPeriod := by
  unfold State.leaveTransaction
  (repeat' split) <;> simp

@[simp] theorem State.leaveTransaction_sched_tickCount (t : Transaction) (o : BranchOutcome) (s : State) :
    (s.leaveTransaction t o).sched.tickCount = s.sched.tickCount := by
  unfold State.leaveTransaction
  (repeat' split) <;> simp

@[simp] theorem State.leaveTransaction_sched_countdowns (t : Transaction) (o : BranchOutcome) (s : State) :
    (s.leaveTransaction t o).sched.countdowns = s.sched.countdowns := by
  unfold State.leaveTransaction
  (repeat' split) <;> simp

@[simp] theorem State.leaveTransaction_sched_seqCounter (t : Transaction) (o : BranchOutcome) (s : State) :
    (s.leaveTransaction t o).sched.seqCounter = s.sched.seqCounter := by
  unfold State.leaveTransaction
  (repeat' split) <;> simp

@[simp] theorem State.leaveTransaction_sched_order (t : Transaction) (o : BranchOutcome) (s : State) :
    (s.leaveTransaction t o).sched.order = s.sched.order := by
  unfold State.leaveTransaction
  (repeat' split) <;> simp

@[simp] theorem State.leaveTransaction_link_mode (t : Transaction) (o : BranchOutcome) (s : State) :
    (s.leaveTransaction t o).link.mode = s.link.mode := by
  unfold State.leaveTransaction
  (repeat' split) <;> simp

@[simp] theorem State.leaveTransaction_link_score (t : Transaction) (o : BranchOutcome) (s : State) :
    (s.leaveTransaction t o).link.score = s.link.score := by
  unfold State.leaveTransaction
  (repeat' split) <;> simp

@[simp] theorem State.leaveTransaction_link_settle (t : Transaction) (o : BranchOutcome) (s : State) :
    (s.leaveTransaction t o).link.settle = s.link.settle := by
  unfold State.leaveTransaction
  (repeat' split) <;> simp

@[simp] theorem State.leaveTransaction_link_relay (t : Transaction) (o : BranchOutcome) (s : State) :
    (s.leaveTransaction t o).link.relay = s.link.relay := by
  unfold State.leaveTransaction
  (repeat' split) <;> simp

@[simp] theorem State.leaveTransaction_link_responder (t : Transaction) (o : BranchOutcome) (s : State) :
    (s.leaveTransaction t o).link.responder = s.link.responder := by
  unfold State.leaveTransaction
  (repeat' split) <;> simp

@[simp] theorem State.leaveTransaction_link_line (t : Transaction) (o : BranchOutcome) (s : State) :
    (s.leaveTransaction t o).link.line = s.link.line := by
  unfold State.leaveTransaction
  (repeat' split) <;> simp

@[simp] theorem State.leaveTransaction_link_receiver (t : Transaction) (o : BranchOutcome) (s : State) :
    (s.leaveTransaction t o).link.receiver = s.link.receiver := by
  unfold State.leaveTransaction
  (repeat' split) <;> simp

@[simp] theorem State.leaveTransaction_link_sinceH1 (t : Transaction) (o : BranchOutcome) (s : State) :
    (s.leaveTransaction t o).link.sinceH1 = s.link.sinceH1 := by
  unfold State.leaveTransaction
  (repeat' split) <;> simp

@[simp] theorem State.leaveTransaction_link_outsideLow (t : Transaction) (o : BranchOutcome) (s : State) :
    (s.leaveTransaction t o).link.outsideLow = s.link.outsideLow := by
  unfold State.leaveTransaction
  (repeat' split) <;> simp

@[simp] theorem State.leaveTransaction_link_receiverRate (t : Transaction) (o : BranchOutcome) (s : State) :
    (s.leaveTransaction t o).link.receiverRate = s.link.receiverRate := by
  unfold State.leaveTransaction
  (repeat' split) <;> simp

@[simp] theorem State.leaveTransaction_trunk (t : Transaction) (o : BranchOutcome) (s : State) :
    (s.leaveTransaction t o).trunk = s.trunk := by
  unfold State.leaveTransaction
  (repeat' split) <;> simp

@[simp] theorem State.leaveTransaction_agent_unit (t : Transaction) (o : BranchOutcome) (s : State) :
    (s.leaveTransaction t o).agent.unit = s.agent.unit := by
  unfold State.leaveTransaction
  (repeat' split) <;> simp

@[simp] theorem State.leaveTransaction_agent_counters (t : Transaction) (o : BranchOutcome) (s : State) :
    (s.leaveTransaction t o).agent.counters = s.agent.counters := by
  unfold State.leaveTransaction
  (repeat' split) <;> simp

@[simp] theorem State.leaveTransaction_agent_keyState (t : Transaction) (o : BranchOutcome) (s : State) :
    (s.leaveTransaction t o).agent.keyState = s.agent.keyState := by
  unfold State.leaveTransaction
  (repeat' split) <;> simp

@[simp] theorem State.leaveTransaction_config (t : Transaction) (o : BranchOutcome) (s : State) :
    (s.leaveTransaction t o).config = s.config := by
  unfold State.leaveTransaction
  (repeat' split) <;> simp

@[simp] theorem State.leaveTransaction_pending (t : Transaction) (o : BranchOutcome) (s : State) :
    (s.leaveTransaction t o).pending = s.pending := by
  unfold State.leaveTransaction
  (repeat' split) <;> simp

/-! ## takeOutcome -/

@[simp] theorem State.takeOutcome_power (t : Transaction) (data : List Byte) (o : BranchOutcome) (s : State) :
    (s.takeOutcome t data o).power = s.power := by
  unfold State.takeOutcome
  simp

@[simp] theorem State.takeOutcome_store_readIndex (t : Transaction) (data : List Byte) (o : BranchOutcome) (s : State) :
    (s.takeOutcome t data o).store.readIndex = s.store.readIndex := by
  unfold State.takeOutcome
  simp

@[simp] theorem State.takeOutcome_store_readHalf (t : Transaction) (data : List Byte) (o : BranchOutcome) (s : State) :
    (s.takeOutcome t data o).store.readHalf = s.store.readHalf := by
  unfold State.takeOutcome
  simp

@[simp] theorem State.takeOutcome_store_staging (t : Transaction) (data : List Byte) (o : BranchOutcome) (s : State) :
    (s.takeOutcome t data o).store.staging = s.store.staging := by
  unfold State.takeOutcome
  simp

@[simp] theorem State.takeOutcome_sched_tickPeriod (t : Transaction) (data : List Byte) (o : BranchOutcome) (s : State) :
    (s.takeOutcome t data o).sched.tickPeriod = s.sched.tickPeriod := by
  unfold State.takeOutcome
  simp

@[simp] theorem State.takeOutcome_sched_runningPeriod (t : Transaction) (data : List Byte) (o : BranchOutcome) (s : State) :
    (s.takeOutcome t data o).sched.runningPeriod = s.sched.runningPeriod := by
  unfold State.takeOutcome
  simp

@[simp] theorem State.takeOutcome_sched_tickCount (t : Transaction) (data : List Byte) (o : BranchOutcome) (s : State) :
    (s.takeOutcome t data o).sched.tickCount = s.sched.tickCount := by
  unfold State.takeOutcome
  simp

@[simp] theorem State.takeOutcome_sched_order (t : Transaction) (data : List Byte) (o : BranchOutcome) (s : State) :
    (s.takeOutcome t data o).sched.order = s.sched.order := by
  unfold State.takeOutcome
  simp

@[simp] theorem State.takeOutcome_link_mode (t : Transaction) (data : List Byte) (o : BranchOutcome) (s : State) :
    (s.takeOutcome t data o).link.mode = s.link.mode := by
  unfold State.takeOutcome
  simp

@[simp] theorem State.takeOutcome_link_settle (t : Transaction) (data : List Byte) (o : BranchOutcome) (s : State) :
    (s.takeOutcome t data o).link.settle = s.link.settle := by
  unfold State.takeOutcome
  simp

@[simp] theorem State.takeOutcome_link_line (t : Transaction) (data : List Byte) (o : BranchOutcome) (s : State) :
    (s.takeOutcome t data o).link.line = s.link.line := by
  unfold State.takeOutcome
  simp

@[simp] theorem State.takeOutcome_link_receiver (t : Transaction) (data : List Byte) (o : BranchOutcome) (s : State) :
    (s.takeOutcome t data o).link.receiver = s.link.receiver := by
  unfold State.takeOutcome
  simp

@[simp] theorem State.takeOutcome_link_sinceH1 (t : Transaction) (data : List Byte) (o : BranchOutcome) (s : State) :
    (s.takeOutcome t data o).link.sinceH1 = s.link.sinceH1 := by
  unfold State.takeOutcome
  simp

@[simp] theorem State.takeOutcome_link_outsideLow (t : Transaction) (data : List Byte) (o : BranchOutcome) (s : State) :
    (s.takeOutcome t data o).link.outsideLow = s.link.outsideLow := by
  unfold State.takeOutcome
  simp

@[simp] theorem State.takeOutcome_link_receiverRate (t : Transaction) (data : List Byte) (o : BranchOutcome) (s : State) :
    (s.takeOutcome t data o).link.receiverRate = s.link.receiverRate := by
  unfold State.takeOutcome
  simp

@[simp] theorem State.takeOutcome_trunk_stamp (t : Transaction) (data : List Byte) (o : BranchOutcome) (s : State) :
    (s.takeOutcome t data o).trunk.stamp = s.trunk.stamp := by
  unfold State.takeOutcome
  simp

@[simp] theorem State.takeOutcome_trunk_rate (t : Transaction) (data : List Byte) (o : BranchOutcome) (s : State) :
    (s.takeOutcome t data o).trunk.rate = s.trunk.rate := by
  unfold State.takeOutcome
  simp

@[simp] theorem State.takeOutcome_trunk_receiver (t : Transaction) (data : List Byte) (o : BranchOutcome) (s : State) :
    (s.takeOutcome t data o).trunk.receiver = s.trunk.receiver := by
  unfold State.takeOutcome
  simp

@[simp] theorem State.takeOutcome_trunk_sinceH1 (t : Transaction) (data : List Byte) (o : BranchOutcome) (s : State) :
    (s.takeOutcome t data o).trunk.sinceH1 = s.trunk.sinceH1 := by
  unfold State.takeOutcome
  simp

@[simp] theorem State.takeOutcome_agent_unit (t : Transaction) (data : List Byte) (o : BranchOutcome) (s : State) :
    (s.takeOutcome t data o).agent.unit = s.agent.unit := by
  unfold State.takeOutcome
  simp

@[simp] theorem State.takeOutcome_agent_keyState (t : Transaction) (data : List Byte) (o : BranchOutcome) (s : State) :
    (s.takeOutcome t data o).agent.keyState = s.agent.keyState := by
  unfold State.takeOutcome
  simp

@[simp] theorem State.takeOutcome_config (t : Transaction) (data : List Byte) (o : BranchOutcome) (s : State) :
    (s.takeOutcome t data o).config = s.config := by
  unfold State.takeOutcome
  simp

@[simp] theorem State.takeOutcome_pending (t : Transaction) (data : List Byte) (o : BranchOutcome) (s : State) :
    (s.takeOutcome t data o).pending = s.pending := by
  unfold State.takeOutcome
  simp

/-! ## writeLine -/

/-- Writing the line settings leaves the branch at the rate it runs at (R3, R125). -/
@[simp] theorem State.writeLine_link_branchRate (l : LineSettings) (s : State) :
    (s.writeLine l).link.branchRate = s.link.branchRate := by
  simp only [State.writeLine, State.mapLink_link, LinkController.withLine]
  split <;> rfl

@[simp] theorem State.writeLine_power (l : LineSettings) (s : State) :
    (s.writeLine l).power = s.power := by
  unfold State.writeLine
  simp

@[simp] theorem State.writeLine_route (l : LineSettings) (s : State) :
    (s.writeLine l).route = s.route := by
  unfold State.writeLine
  simp

@[simp] theorem State.writeLine_store (l : LineSettings) (s : State) :
    (s.writeLine l).store = s.store := by
  unfold State.writeLine
  simp

@[simp] theorem State.writeLine_sched (l : LineSettings) (s : State) :
    (s.writeLine l).sched = s.sched := by
  unfold State.writeLine
  simp

@[simp] theorem State.writeLine_link_receiver (l : LineSettings) (s : State) :
    (s.writeLine l).link.receiver = s.link.receiver := by
  simp only [State.writeLine, State.mapLink_link, LinkController.withLine]
  split <;> rfl

@[simp] theorem State.writeLine_link_sinceH1 (l : LineSettings) (s : State) :
    (s.writeLine l).link.sinceH1 = s.link.sinceH1 := by
  simp only [State.writeLine, State.mapLink_link, LinkController.withLine]
  split <;> rfl

@[simp] theorem State.writeLine_link_outsideLow (l : LineSettings) (s : State) :
    (s.writeLine l).link.outsideLow = s.link.outsideLow := by
  simp only [State.writeLine, State.mapLink_link, LinkController.withLine]
  split <;> rfl

@[simp] theorem State.writeLine_link_receiverRate (l : LineSettings) (s : State) :
    (s.writeLine l).link.receiverRate = s.link.receiverRate := by
  simp only [State.writeLine, State.mapLink_link, LinkController.withLine]
  split <;> rfl

@[simp] theorem State.writeLine_trunk (l : LineSettings) (s : State) :
    (s.writeLine l).trunk = s.trunk := by
  unfold State.writeLine
  simp

@[simp] theorem State.writeLine_agent (l : LineSettings) (s : State) :
    (s.writeLine l).agent = s.agent := by
  unfold State.writeLine
  simp

@[simp] theorem State.writeLine_config (l : LineSettings) (s : State) :
    (s.writeLine l).config = s.config := by
  unfold State.writeLine
  simp

@[simp] theorem State.writeLine_pending (l : LineSettings) (s : State) :
    (s.writeLine l).pending = s.pending := by
  unfold State.writeLine
  simp

/-! ## holdExpires -/

@[simp] theorem State.holdExpires_power (s : State) :
    (s.holdExpires).power = s.power := by
  unfold State.holdExpires
  simp

@[simp] theorem State.holdExpires_route (s : State) :
    (s.holdExpires).route = s.route := by
  unfold State.holdExpires
  simp

@[simp] theorem State.holdExpires_store (s : State) :
    (s.holdExpires).store = s.store := by
  unfold State.holdExpires
  simp

@[simp] theorem State.holdExpires_sched (s : State) :
    (s.holdExpires).sched = s.sched := by
  unfold State.holdExpires
  simp

@[simp] theorem State.holdExpires_link_state (s : State) :
    (s.holdExpires).link.state = s.link.state := by
  unfold State.holdExpires
  simp

@[simp] theorem State.holdExpires_link_mode (s : State) :
    (s.holdExpires).link.mode = s.link.mode := by
  unfold State.holdExpires
  simp

@[simp] theorem State.holdExpires_link_score (s : State) :
    (s.holdExpires).link.score = s.link.score := by
  unfold State.holdExpires
  simp

@[simp] theorem State.holdExpires_link_settle (s : State) :
    (s.holdExpires).link.settle = s.link.settle := by
  unfold State.holdExpires
  simp

@[simp] theorem State.holdExpires_link_relay (s : State) :
    (s.holdExpires).link.relay = s.link.relay := by
  unfold State.holdExpires
  simp

@[simp] theorem State.holdExpires_link_sleepFramePending (s : State) :
    (s.holdExpires).link.sleepFramePending = s.link.sleepFramePending := by
  unfold State.holdExpires
  simp

@[simp] theorem State.holdExpires_link_responder (s : State) :
    (s.holdExpires).link.responder = s.link.responder := by
  unfold State.holdExpires
  simp

@[simp] theorem State.holdExpires_link_line (s : State) :
    (s.holdExpires).link.line = s.link.line := by
  unfold State.holdExpires
  simp

@[simp] theorem State.holdExpires_link_receiver (s : State) :
    (s.holdExpires).link.receiver = s.link.receiver := by
  unfold State.holdExpires
  simp

@[simp] theorem State.holdExpires_link_sinceH1 (s : State) :
    (s.holdExpires).link.sinceH1 = s.link.sinceH1 := by
  unfold State.holdExpires
  simp

@[simp] theorem State.holdExpires_link_outsideLow (s : State) :
    (s.holdExpires).link.outsideLow = s.link.outsideLow := by
  unfold State.holdExpires
  simp

@[simp] theorem State.holdExpires_link_receiverRate (s : State) :
    (s.holdExpires).link.receiverRate = s.link.receiverRate := by
  unfold State.holdExpires
  simp

@[simp] theorem State.holdExpires_trunk (s : State) :
    (s.holdExpires).trunk = s.trunk := by
  unfold State.holdExpires
  simp

@[simp] theorem State.holdExpires_agent (s : State) :
    (s.holdExpires).agent = s.agent := by
  unfold State.holdExpires
  simp

@[simp] theorem State.holdExpires_config (s : State) :
    (s.holdExpires).config = s.config := by
  unfold State.holdExpires
  simp

@[simp] theorem State.holdExpires_pending (s : State) :
    (s.holdExpires).pending = s.pending := by
  unfold State.holdExpires
  simp

/-! ## settleExpires -/

@[simp] theorem State.settleExpires_power (s : State) :
    (s.settleExpires).power = s.power := by
  unfold State.settleExpires
  simp

@[simp] theorem State.settleExpires_route (s : State) :
    (s.settleExpires).route = s.route := by
  unfold State.settleExpires
  simp

@[simp] theorem State.settleExpires_store (s : State) :
    (s.settleExpires).store = s.store := by
  unfold State.settleExpires
  simp

@[simp] theorem State.settleExpires_sched (s : State) :
    (s.settleExpires).sched = s.sched := by
  unfold State.settleExpires
  simp

@[simp] theorem State.settleExpires_link_mode (s : State) :
    (s.settleExpires).link.mode = s.link.mode := by
  unfold State.settleExpires
  simp

@[simp] theorem State.settleExpires_link_score (s : State) :
    (s.settleExpires).link.score = s.link.score := by
  unfold State.settleExpires
  simp

@[simp] theorem State.settleExpires_link_hold (s : State) :
    (s.settleExpires).link.hold = s.link.hold := by
  unfold State.settleExpires
  simp

@[simp] theorem State.settleExpires_link_sampling (s : State) :
    (s.settleExpires).link.sampling = s.link.sampling := by
  unfold State.settleExpires
  simp

@[simp] theorem State.settleExpires_link_relay (s : State) :
    (s.settleExpires).link.relay = s.link.relay := by
  unfold State.settleExpires
  simp

@[simp] theorem State.settleExpires_link_sleepFramePending (s : State) :
    (s.settleExpires).link.sleepFramePending = s.link.sleepFramePending := by
  unfold State.settleExpires
  simp

@[simp] theorem State.settleExpires_link_responder (s : State) :
    (s.settleExpires).link.responder = s.link.responder := by
  unfold State.settleExpires
  simp

@[simp] theorem State.settleExpires_link_line (s : State) :
    (s.settleExpires).link.line = s.link.line := by
  unfold State.settleExpires
  simp

@[simp] theorem State.settleExpires_link_receiver (s : State) :
    (s.settleExpires).link.receiver = s.link.receiver := by
  unfold State.settleExpires
  simp

@[simp] theorem State.settleExpires_link_sinceH1 (s : State) :
    (s.settleExpires).link.sinceH1 = s.link.sinceH1 := by
  unfold State.settleExpires
  simp

@[simp] theorem State.settleExpires_link_outsideLow (s : State) :
    (s.settleExpires).link.outsideLow = s.link.outsideLow := by
  unfold State.settleExpires
  simp

@[simp] theorem State.settleExpires_link_receiverRate (s : State) :
    (s.settleExpires).link.receiverRate = s.link.receiverRate := by
  unfold State.settleExpires
  simp

@[simp] theorem State.settleExpires_trunk (s : State) :
    (s.settleExpires).trunk = s.trunk := by
  unfold State.settleExpires
  simp

@[simp] theorem State.settleExpires_agent_unit (s : State) :
    (s.settleExpires).agent.unit = s.agent.unit := by
  unfold State.settleExpires
  simp

@[simp] theorem State.settleExpires_agent_flags (s : State) :
    (s.settleExpires).agent.flags = s.agent.flags := by
  unfold State.settleExpires
  simp

@[simp] theorem State.settleExpires_agent_counters (s : State) :
    (s.settleExpires).agent.counters = s.agent.counters := by
  unfold State.settleExpires
  simp

@[simp] theorem State.settleExpires_agent_keyState (s : State) :
    (s.settleExpires).agent.keyState = s.agent.keyState := by
  unfold State.settleExpires
  simp

@[simp] theorem State.settleExpires_config (s : State) :
    (s.settleExpires).config = s.config := by
  unfold State.settleExpires
  simp

@[simp] theorem State.settleExpires_pending (s : State) :
    (s.settleExpires).pending = s.pending := by
  unfold State.settleExpires
  simp

/-! ## tickLink -/

@[simp] theorem State.tickLink_power (s : State) :
    (s.tickLink).power = s.power := by
  unfold State.tickLink
  (repeat' split) <;> simp

@[simp] theorem State.tickLink_route (s : State) :
    (s.tickLink).route = s.route := by
  unfold State.tickLink
  (repeat' split) <;> simp

@[simp] theorem State.tickLink_store (s : State) :
    (s.tickLink).store = s.store := by
  unfold State.tickLink
  (repeat' split) <;> simp

@[simp] theorem State.tickLink_sched (s : State) :
    (s.tickLink).sched = s.sched := by
  unfold State.tickLink
  (repeat' split) <;> simp

@[simp] theorem State.tickLink_link_mode (s : State) :
    (s.tickLink).link.mode = s.link.mode := by
  unfold State.tickLink
  (repeat' split) <;> simp

@[simp] theorem State.tickLink_link_score (s : State) :
    (s.tickLink).link.score = s.link.score := by
  unfold State.tickLink
  (repeat' split) <;> simp

@[simp] theorem State.tickLink_link_relay (s : State) :
    (s.tickLink).link.relay = s.link.relay := by
  unfold State.tickLink
  (repeat' split) <;> simp

@[simp] theorem State.tickLink_link_sleepFramePending (s : State) :
    (s.tickLink).link.sleepFramePending = s.link.sleepFramePending := by
  unfold State.tickLink
  (repeat' split) <;> simp

@[simp] theorem State.tickLink_link_responder (s : State) :
    (s.tickLink).link.responder = s.link.responder := by
  unfold State.tickLink
  (repeat' split) <;> simp

@[simp] theorem State.tickLink_link_line (s : State) :
    (s.tickLink).link.line = s.link.line := by
  unfold State.tickLink
  (repeat' split) <;> simp

@[simp] theorem State.tickLink_link_receiver (s : State) :
    (s.tickLink).link.receiver = s.link.receiver := by
  unfold State.tickLink
  (repeat' split) <;> simp

@[simp] theorem State.tickLink_link_sinceH1 (s : State) :
    (s.tickLink).link.sinceH1 = s.link.sinceH1 := by
  unfold State.tickLink
  (repeat' split) <;> simp

@[simp] theorem State.tickLink_link_outsideLow (s : State) :
    (s.tickLink).link.outsideLow = s.link.outsideLow := by
  unfold State.tickLink
  (repeat' split) <;> simp

@[simp] theorem State.tickLink_link_receiverRate (s : State) :
    (s.tickLink).link.receiverRate = s.link.receiverRate := by
  unfold State.tickLink
  (repeat' split) <;> simp

@[simp] theorem State.tickLink_trunk (s : State) :
    (s.tickLink).trunk = s.trunk := by
  unfold State.tickLink
  (repeat' split) <;> simp

@[simp] theorem State.tickLink_agent_unit (s : State) :
    (s.tickLink).agent.unit = s.agent.unit := by
  unfold State.tickLink
  (repeat' split) <;> simp

@[simp] theorem State.tickLink_agent_flags (s : State) :
    (s.tickLink).agent.flags = s.agent.flags := by
  unfold State.tickLink
  (repeat' split) <;> simp

@[simp] theorem State.tickLink_agent_counters (s : State) :
    (s.tickLink).agent.counters = s.agent.counters := by
  unfold State.tickLink
  (repeat' split) <;> simp

@[simp] theorem State.tickLink_agent_keyState (s : State) :
    (s.tickLink).agent.keyState = s.agent.keyState := by
  unfold State.tickLink
  (repeat' split) <;> simp

@[simp] theorem State.tickLink_config (s : State) :
    (s.tickLink).config = s.config := by
  unfold State.tickLink
  (repeat' split) <;> simp

@[simp] theorem State.tickLink_pending (s : State) :
    (s.tickLink).pending = s.pending := by
  unfold State.tickLink
  (repeat' split) <;> simp

end Sys2Proof.Machine
end

