-- ==== Sys2Proof/Laws/Receiving.lean ====
section
/-! SUPPORT. Laws/Receiving.lean: what the receivers and the transmitters make of a line, said once: how a receiver
hears one stretch of line after another, and characters sent; what reads back; the cases of a reception; a COMMAND
record that is heard. -/

namespace Sys2Proof.Machine

/-! ## breakEnds -/

@[simp] theorem State.breakEnds_sched (s : State) : s.breakEnds.sched = s.sched := by
  unfold State.breakEnds
  split <;> simp

@[simp] theorem State.breakEnds_agent (s : State) : s.breakEnds.agent = s.agent := by
  unfold State.breakEnds
  split <;> simp

@[simp] theorem State.breakEnds_trunk (s : State) : s.breakEnds.trunk = s.trunk := by
  unfold State.breakEnds
  split <;> simp

/-! ## Hearing a line -/

@[simp] theorem Receiver.hearLevels_nil (g : Segment) (r : Receiver) : r.hearLevels g [] = (r, []) := rfl

theorem Receiver.hearLevels_cons (g : Segment) (r : Receiver) (high : Bool) (rest : List Bool) :
    r.hearLevels g (high :: rest) =
      (((r.read g high).1.hearLevels g rest).1,
        (r.read g high).2 ++ ((r.read g high).1.hearLevels g rest).2) := rfl

/-- A receiver hears two stretches of line one after the other. -/
theorem Receiver.hearLevels_append (g : Segment) (r : Receiver) (l m : List Bool) :
    r.hearLevels g (l ++ m) =
      (((r.hearLevels g l).1.hearLevels g m).1, (r.hearLevels g l).2 ++ ((r.hearLevels g l).1.hearLevels g m).2) := by
  induction l generalizing r with
  | nil => simp
  | cons a l ih => simp [Receiver.hearLevels_cons, ih, List.append_assoc]

theorem Wave.levels_append (a b : Wave) : Wave.levels (a ++ b) = Wave.levels a ++ Wave.levels b := by
  simp [Wave.levels]

/-- A receiver hears two Waves one after the other. -/
theorem Receiver.hear_append (g : Segment) (r : Receiver) (a b : Wave) :
    r.hear g (a ++ b) =
      (((r.hear g a).1.hear g b).1, (r.hear g a).2 ++ ((r.hear g a).1.hear g b).2) := by
  unfold Receiver.hear
  rw [Wave.levels_append, Receiver.hearLevels_append]

/-- A receiver that first waits for a high takes no falling edge and no break (R5, R46). -/
theorem Receiver.read_quiet (g : Segment) (r : Receiver) (high : Bool) (h : r.phase = .quiet) :
    r.read g high =
      ({ high := high, lasted := r.lastedAt high,
         phase := if high ∧ delimiterDetectBits * bitSixteenths ≤ r.lastedAt high then .waiting else .quiet }, []) := by
  simp [Receiver.read, Receiver.detectsBreak, h, ReceiverPhase.read]

/-- A receiver waiting for a falling edge, while the line reads high (R2). -/
theorem Receiver.read_waiting_high (g : Segment) (r : Receiver) (h : r.phase = .waiting) :
    r.read g true = ({ high := true, lasted := r.lastedAt true, phase := .waiting }, []) := by
  simp [Receiver.read, Receiver.detectsBreak, h, ReceiverPhase.read]

/-- A falling edge, seen while the line has been high, begins a character (R2). -/
theorem Receiver.read_falling_edge (g : Segment) (r : Receiver) (h : r.phase = .waiting) (hh : r.high = true) :
    r.read g false = ({ high := false, lasted := 1, phase := .character 1 [] }, []) := by
  simp [Receiver.read, Receiver.detectsBreak, Receiver.lastedAt, h, hh, ReceiverPhase.read, breakDetectBits,
    bitSixteenths]

/-! ## Hearing a character -/

theorem Receiver.lastedAt_bounds (r : Receiver) (v : Bool) :
    1 ≤ r.lastedAt v ∧ r.lastedAt v ≤ lastedLimit v ∧ r.lastedAt v ≤ r.lasted + 1 := by
  have h : 1 ≤ lastedLimit v := by cases v <;> decide
  unfold Receiver.lastedAt
  split <;> omega

/-- No break where the low has not lasted (R5). -/
theorem Receiver.detectsBreak_false (g : Segment) (r : Receiver) (v : Bool) (h : r.lasted < 175) :
    r.detectsBreak g v = false := by
  have hb := r.lastedAt_bounds v
  have : ¬ breakDetectBits * bitSixteenths ≤ r.lastedAt v := by
    simp only [breakDetectBits, bitSixteenths]; omega
  simp [Receiver.detectsBreak, this]

/-- One sixteenth within a character, away from the third samples of its start and stop bits (R2). -/
theorem Receiver.read_timed (g : Segment) (r : Receiver) (v : Bool) (e : Nat) (samples : List Bool)
    (hp : r.phase = .character e samples) (h9 : e ≠ startSampled) (hs : e ≠ stopSampled) (hl : r.lasted < 175) :
    r.read g v =
      ({ high := v, lasted := r.lastedAt v,
         phase := .character (e + 1) (if isSamplePoint e then samples ++ [v] else samples) }, []) := by
  simp [Receiver.read, r.detectsBreak_false g v hl, hp, ReceiverPhase.read, ReceiverPhase.timeCharacter, h9, hs]

/-- The samples taken in n sixteenths at one level from e on. -/
def samplesFrom (v : Bool) (e : Nat) : Nat → List Bool
  | 0 => []
  | n + 1 => if isSamplePoint e then v :: samplesFrom v (e + 1) n else samplesFrom v (e + 1) n

/-- n sixteenths at one level within a character, away from the third samples of its start and stop bits (R2). -/
theorem Receiver.hear_timed (g : Segment) (v : Bool) (n : Nat) (r : Receiver) (e : Nat) (samples : List Bool)
    (hp : r.phase = .character e samples) (he : ∀ j < n, e + j ≠ startSampled ∧ e + j ≠ stopSampled)
    (hl : r.lasted + n < 176) :
    ∃ r', r.hearLevels g (List.replicate n v) = (r', []) ∧ r'.phase = .character (e + n) (samples ++ samplesFrom v e n) ∧
      (0 < n → r'.high = v) ∧ r'.lasted ≤ r.lasted + n := by
  induction n generalizing r e samples with
  | zero => exact ⟨r, rfl, by simp [hp, samplesFrom], by simp, by omega⟩
  | succ n ih =>
    have h0 := he 0 (by omega)
    have hr := r.read_timed g v e samples hp (by simpa using h0.1) (by simpa using h0.2) (by omega)
    have hb := r.lastedAt_bounds v
    obtain ⟨r', h1, h2, h3, h4⟩ := ih
      { high := v, lasted := r.lastedAt v,
        phase := .character (e + 1) (if isSamplePoint e then samples ++ [v] else samples) } (e + 1) _ rfl
      (fun j hj => by have := he (j + 1) (by omega); constructor <;> omega) (by simp only; omega)
    refine ⟨r', ?_, ?_, fun _ => ?_, by simp only at h4; omega⟩
    · rw [List.replicate_succ, Receiver.hearLevels_cons, hr]
      simp [h1]
    · rw [h2]
      simp only [samplesFrom, Nat.add_assoc, Nat.add_comm 1 n]
      split <;> simp
    · rcases n with _ | n
      · simp only [List.replicate_zero, Receiver.hearLevels_nil, Prod.mk.injEq, and_true] at h1
        rw [← h1]
      · exact h3 (by omega)

/-- One data bit of a character (R2): three samples at its level. -/
theorem Receiver.hear_bit (g : Segment) (v : Bool) (k : Nat) (r : Receiver) (samples : List Bool) (h1 : 1 ≤ k)
    (h8 : k ≤ 8) (hp : r.phase = .character (16 * k) samples) (hl : r.lasted ≤ 16 * k) :
    ∃ r', r.hearLevels g (List.replicate bitSixteenths v) = (r', []) ∧
      r'.phase = .character (16 * (k + 1)) (samples ++ [v, v, v]) ∧ r'.lasted ≤ 16 * (k + 1) := by
  obtain ⟨r', ha, hb, -, hc⟩ := r.hear_timed g v 16 (16 * k) samples hp
    (fun j hj => by simp only [startSampled, stopSampled, bitSixteenths]; omega) (by omega)
  refine ⟨r', ha, ?_, by omega⟩
  rw [hb]
  interval_cases k <;> simp [samplesFrom, isSamplePoint, bitSixteenths]

/-- The level a receiver has read last, and for how long, after one more sixteenth. -/
theorem Receiver.read_level (g : Segment) (r : Receiver) (v : Bool) :
    (r.read g v).1.high = v ∧ (r.read g v).1.lasted = r.lastedAt v := by
  unfold Receiver.read
  split <;> simp

/-- A bit time or more at the high level is counted as a delimiter's length (R5). -/
theorem Receiver.hear_high_level (g : Segment) (n : Nat) (r : Receiver) :
    (0 < n → (r.hearLevels g (List.replicate n true)).1.high = true) ∧
      min 16 n ≤ (r.hearLevels g (List.replicate n true)).1.lasted ∧
      (0 < n → (r.hearLevels g (List.replicate n true)).1.lasted ≤ 16) ∧
      (r.high = true → min 16 (r.lasted + n) ≤ (r.hearLevels g (List.replicate n true)).1.lasted) := by
  induction n generalizing r with
  | zero => simp
  | succ n ih =>
    have h := ih (r.read g true).1
    have hl := r.read_level g true
    have hb := r.lastedAt_bounds true
    have hm : (r.high = true → min 16 (r.lasted + 1) ≤ r.lastedAt true) := by
      intro hr
      simp [Receiver.lastedAt, hr, lastedLimit, delimiterDetectBits, bitSixteenths]
    simp only [lastedLimit, delimiterDetectBits, bitSixteenths, if_true] at hb
    rw [List.replicate_succ, Receiver.hearLevels_cons]
    simp only [hl, forall_const] at h ⊢
    refine ⟨fun _ => ?_, by omega, fun _ => ?_, fun hr => ?_⟩
    · rcases n with _ | n
      · simpa using hl.1
      · exact h.1 (by omega)
    · rcases n with _ | n
      · simp only [List.replicate_zero, Receiver.hearLevels_nil, hl]; omega
      · exact h.2.2.1 (by omega)
    · have := hm hr; omega

/-- A start bit, on a receiver that waits for a falling edge (R2). -/
theorem Receiver.hear_start (g : Segment) (r : Receiver) (hp : r.phase = .waiting) (hh : r.high = true) :
    r.hearLevels g (List.replicate bitSixteenths false) =
      ({ high := false, lasted := 16, phase := .character 16 [false, false, false] }, []) := by
  rw [bitSixteenths, List.replicate_succ, Receiver.hearLevels_cons, r.read_falling_edge g hp hh]
  cases g <;> rfl

/-- A stop bit that reads high, behind a character with that value (R2). -/
theorem Receiver.hear_stop (g : Segment) (b : Byte) (r : Receiver) (samples : List Bool)
    (hp : r.phase = .character 144 samples) (hl : r.lasted ≤ 144)
    (hc : characterOfSamples (samples ++ [true, true, true]) = some (.good b)) :
    r.hearLevels g (List.replicate bitSixteenths true) = (Receiver.atRest, [.character (.good b)]) := by
  obtain ⟨r', h1, h2, h3, -⟩ := r.hear_timed g true 9 144 samples hp
    (fun j hj => by simp only [startSampled, stopSampled, bitSixteenths]; omega) (by omega)
  have hs : samples ++ samplesFrom true 144 9 = samples ++ [true, true] := rfl
  have h4 := r.hear_high_level g bitSixteenths
  rw [hs] at h2
  have e : List.replicate bitSixteenths true = List.replicate 9 true ++ [true, true, true, true, true, true, true] := rfl
  have hq : samples ++ [true, true] ++ [true] = samples ++ [true, true, true] := by simp
  have key : (r.hearLevels g (List.replicate bitSixteenths true)).2 = [.character (.good b)] ∧
      (r.hearLevels g (List.replicate bitSixteenths true)).1.phase = .waiting := by
    rw [e, Receiver.hearLevels_append, h1]
    simp [Receiver.hearLevels_cons, Receiver.read, Receiver.detectsBreak, h2, ReceiverPhase.read,
      ReceiverPhase.timeCharacter, startSampled, stopSampled, bitSixteenths, isSamplePoint, hc,
      afterStopSampled, ReceiverPhase.restOfStopBit, characterSixteenths]
  generalize r.hearLevels g (List.replicate bitSixteenths true) = p at key h4 ⊢
  obtain ⟨⟨high, lasted, phase⟩, events⟩ := p
  simp only [bitSixteenths] at key h4
  obtain ⟨h5, h6, h7, -⟩ := h4
  have h8 := h5 (by omega)
  have h9 : lasted = 16 := by have := h7 (by omega); omega
  simp [Receiver.atRest, delimiterDetectBits, bitSixteenths, key.1, key.2, h8, h9]

/-- The value of the data bits of a character is the byte it stands for (R1, R2). -/
theorem byteOfLevels_character (b : Byte) :
    byteOfLevels
        [b.getLsbD 0, b.getLsbD 1, b.getLsbD 2, b.getLsbD 3, b.getLsbD 4, b.getLsbD 5, b.getLsbD 6, b.getLsbD 7] = b := by
  revert b; decide +kernel

theorem majority_same (v : Bool) : majority v v v = v := by cases v <;> rfl

/-- A receiver at rest hears the character that is sent, whatever its value, and is at rest behind it (R1, R2). -/
theorem Receiver.hear_character (g : Segment) (b : Byte) :
    Receiver.atRest.hearLevels g (sixteenths (characterLevels b)) = (Receiver.atRest, goodCharacters [b]) := by
  obtain ⟨r1, a1, b1, c1⟩ := Receiver.hear_bit g (b.getLsbD 0) 1
    { high := false, lasted := 16, phase := .character 16 [false, false, false] } _ (by omega) (by omega) rfl (by simp)
  obtain ⟨r2, a2, b2, c2⟩ := r1.hear_bit g (b.getLsbD 1) 2 _ (by omega) (by omega) b1 c1
  obtain ⟨r3, a3, b3, c3⟩ := r2.hear_bit g (b.getLsbD 2) 3 _ (by omega) (by omega) b2 c2
  obtain ⟨r4, a4, b4, c4⟩ := r3.hear_bit g (b.getLsbD 3) 4 _ (by omega) (by omega) b3 c3
  obtain ⟨r5, a5, b5, c5⟩ := r4.hear_bit g (b.getLsbD 4) 5 _ (by omega) (by omega) b4 c4
  obtain ⟨r6, a6, b6, c6⟩ := r5.hear_bit g (b.getLsbD 5) 6 _ (by omega) (by omega) b5 c5
  obtain ⟨r7, a7, b7, c7⟩ := r6.hear_bit g (b.getLsbD 6) 7 _ (by omega) (by omega) b6 c6
  obtain ⟨r8, a8, b8, c8⟩ := r7.hear_bit g (b.getLsbD 7) 8 _ (by omega) (by omega) b7 c7
  have hstop := r8.hear_stop g b _ b8 c8 (by
    have := byteOfLevels_character b
    simp only [BitVec.getLsbD] at this
    simpa [characterOfSamples, sampleTriples, receiveCharacter, Samples.value, majority_same, BitVec.getLsbD] using this)
  simp only [sixteenths, characterLevels, List.flatMap_cons, List.flatMap_nil, List.append_nil,
    Receiver.hearLevels_append, Receiver.hear_start g Receiver.atRest rfl rfl, a1, a2, a3, a4, a5, a6, a7, a8, hstop,
    List.nil_append, goodCharacters, List.map_cons, List.map_nil]

/-- A receiver at rest hears characters sent back to back (R1, R2). -/
theorem Receiver.hear_characters (g : Segment) (values : List Byte) :
    Receiver.atRest.hearLevels g (sixteenths (charactersLevels values)) = (Receiver.atRest, goodCharacters values) := by
  induction values with
  | nil => rfl
  | cons b rest ih =>
    have h : sixteenths (charactersLevels (b :: rest)) =
        sixteenths (characterLevels b) ++ sixteenths (charactersLevels rest) := by
      simp [sixteenths, charactersLevels]
    rw [h, Receiver.hearLevels_append, Receiver.hear_character, ih]
    rfl

/-- The line of characters sent back to back. -/
def charactersWave (values : List Byte) : Wave :=
  values.flatMap characterWave

theorem levels_charactersWave (values : List Byte) :
    Wave.levels (charactersWave values) = sixteenths (charactersLevels values) := by
  simp [Wave.levels, charactersWave, sixteenths, charactersLevels, characterWave, List.flatMap_assoc, List.flatMap_map]

/-! ## Readback (R13, R14) -/

theorem drop_sixteenths (sent : List Bool) (k : Nat) :
    (sixteenths sent).drop (16 * k) = sixteenths (sent.drop k) := by
  induction k generalizing sent with
  | zero => simp
  | succ k ih =>
    rcases sent with _ | ⟨v, rest⟩
    · simp [sixteenths]
    · rw [Nat.mul_add, Nat.add_comm, ← List.drop_drop]
      simpa [sixteenths, bitSixteenths, List.drop_append] using ih rest

/-- A line that follows the transmitter reads back as sent (R13, R14). -/
theorem readsAsSent_sixteenths (sent : List Bool) : readsAsSent sent (sixteenths sent) = true := by
  simp only [readsAsSent, List.all_eq_true, List.mem_range, beq_iff_eq]
  intro k hk
  have h : (sixteenths sent).drop (16 * k + 7) = (sixteenths (sent.drop k)).drop 7 := by
    rw [← List.drop_drop, drop_sixteenths]
  obtain ⟨rest, hr⟩ : ∃ rest, sent.drop k = sent[k] :: rest := ⟨_, List.drop_eq_getElem_cons hk⟩
  rw [bitReadBack, h, hr]
  simp [sixteenths, bitSixteenths, List.replicate_succ, majority_same, List.getD_eq_getElem?_getD, hk]

/-- A row written without its line completes: the line goes on as sent (log 27). -/
theorem Transmission.completes_default (sent : List Bool) : Transmission.completes {} sent = true := by
  simp [Transmission.completes, Transmission.fits, Transmission.filled, Wave.levels, readsAsSent_sixteenths]

/-- The first difference is the first bit whose majority is not the level sent (R13). -/
theorem firstDifference_eq_some_iff (sent line : List Bool) (k : Nat) :
    firstDifference sent line = some k ↔
      k < sent.length ∧ bitReadBack line k = some (!sent.getD k true) ∧
        ∀ j < k, bitReadBack line j ≠ some (!sent.getD j true) := by
  simp only [firstDifference, List.find?_range_eq_some, beq_iff_eq, List.mem_range]
  constructor
  · rintro ⟨h1, h2, h3⟩
    exact ⟨h2, h1, fun j hj => by simpa using h3 j hj⟩
  · rintro ⟨h1, h2, h3⟩
    exact ⟨h2, h1, fun j hj => by simpa using h3 j hj⟩

/-- What is read back of a bit is what its three samples give. -/
theorem bitReadBack_eq_some_iff (heard : List Bool) (k : Nat) (v : Bool) :
    bitReadBack heard k = some v ↔ SampledAs heard k v := by
  have e : ∀ n, heard[16 * k + 7 + n]? = (heard.drop (16 * k + 7))[n]? := fun n => List.getElem?_drop.symm
  have e0 : heard[16 * k + 7]? = (heard.drop (16 * k + 7))[0]? := e 0
  have e1 : heard[16 * k + 8]? = (heard.drop (16 * k + 7))[1]? := e 1
  have e2 : heard[16 * k + 9]? = (heard.drop (16 * k + 7))[2]? := e 2
  rw [SampledAs, e0, e1, e2, bitReadBack]
  rcases heard.drop (16 * k + 7) with _ | ⟨a, _ | ⟨b, _ | ⟨c, rest⟩⟩⟩ <;>
    simp [majority, eq_comm]

/-- A transmission completes where every bit of it reads back as sent. -/
theorem Transmission.completes_iff (sent : Transmission) (levels : List Bool) :
    Transmission.completes sent levels = true ↔ ReadsBack levels sent := by
  simp only [Transmission.completes, Transmission.fits, readsAsSent, Bool.and_eq_true, decide_eq_true_eq,
    List.all_eq_true, List.mem_range, beq_iff_eq, bitReadBack_eq_some_iff]
  exact Iff.rfl

/-- A transmission ends at bit k where that is the first that reads back differently. -/
theorem Transmission.differsAt_eq_some_iff (sent : Transmission) (levels : List Bool) (k : Nat) :
    Transmission.differsAt sent levels = some k ↔ DiffersFirst levels sent k := by
  simp only [Transmission.differsAt, Transmission.fits, decide_eq_true_eq]
  split
  next h =>
    simp only [firstDifference_eq_some_iff, ne_eq, bitReadBack_eq_some_iff]
    exact ⟨fun d => ⟨h, d⟩, fun d => d.2⟩
  next h => exact iff_of_false (by simp) fun d => h d.1

/-- A transmission on the trunk is read back as sent, and no break is heard in it. -/
theorem State.sentOnTrunk_eq_some {s : State} {values : List Byte} {sent : Transmission}
    (h : ReadsBack (charactersLevels values) sent)
    (hb : RxEvent.lineBreak ∉ (s.trunk.receiver.hearSent .trunk (charactersLevels values) sent).2) :
    s.sentOnTrunk values sent =
      some (s.setReceiver (s.trunk.receiver.hearSent .trunk (charactersLevels values) sent).1) := by
  simp [State.sentOnTrunk, (Transmission.completes_iff sent _).2 h, hb]

theorem DiffersFirst.upTo_length {levels : List Bool} {sent : Transmission} {k : Nat} (h : DiffersFirst levels sent k) :
    (Transmission.upTo sent k).length = 16 * k + 10 := by
  obtain ⟨-, -, ⟨_, _, _, -, -, hc, -⟩, -⟩ := h
  obtain ⟨hk, -⟩ := List.getElem?_eq_some_iff.1 hc
  simp only [Transmission.upTo, bitSixteenths, List.length_take]
  omega

/-- A transmission on the trunk ends in a collision just where Collides says so (R13, R56). -/
theorem State.collidesOnTrunk_eq_some_iff {s t : State} {values : List Byte} {sent : Transmission} :
    s.collidesOnTrunk values sent = some t ↔ ∃ k r, Collides s values sent k r ∧ t = s.setReceiver r := by
  have split : ∀ {k}, DiffersFirst (charactersLevels values) sent k → ∃ last,
      Wave.levels sent.before ++ Transmission.upTo sent k =
        Wave.levels sent.before ++ (Transmission.upTo sent k).dropLast ++ [last] := by
    intro k h
    have hl := h.upTo_length
    have hn : Transmission.upTo sent k ≠ [] := by
      rw [← List.length_pos_iff]
      omega
    exact ⟨(Transmission.upTo sent k).getLast hn, by rw [List.append_assoc, List.dropLast_append_getLast]⟩
  unfold State.collidesOnTrunk
  split
  next hd =>
    simp only [reduceCtorEq, false_iff]
    rintro ⟨k, r, ⟨h, -⟩, -⟩
    rw [(Transmission.differsAt_eq_some_iff _ _ _).2 h] at hd
    cases hd
  next k hd =>
    have h := (Transmission.differsAt_eq_some_iff _ _ _).1 hd
    obtain ⟨last, hs⟩ := split h
    have unique : ∀ {j r}, Collides s values sent j r → j = k := fun hc =>
      Option.some.inj (((Transmission.differsAt_eq_some_iff _ _ _).2 hc.1).symm.trans hd)
    simp only [Receiver.hearCut, hs]
    split
    next hb =>
      simp only [reduceCtorEq, false_iff]
      rintro ⟨j, r, hc, -⟩
      obtain rfl := unique hc
      obtain ⟨-, earlier, l, he, hn, -⟩ := hc
      change _ ++ Transmission.upTo sent j = _ at he
      rw [hs] at he
      exact hn ((List.append_inj_left' he rfl) ▸ hb)
    next hb =>
      constructor
      · intro e
        refine ⟨k, _, ⟨h, _, last, hs, hb, rfl⟩, ?_⟩
        rw [← Option.some.inj e]
      · rintro ⟨j, r, hc, rfl⟩
        obtain rfl := unique hc
        obtain ⟨-, earlier, l, he, hn, rfl⟩ := hc
        change _ ++ Transmission.upTo sent j = _ at he
        rw [hs] at he
        rw [← List.append_inj_left' he rfl, ← List.append_inj_right' he rfl]

/-! ## Lows of branch nodes (R18, R145) -/

/-- The lows that end in a stretch of line are those under way at a return to high. -/
theorem mem_lowsEnded (each : Nat) (high : Bool) (low : Option Nat) (n : Nat) (levels : List Bool) :
    n ∈ lowsEnded each high low levels ↔
      ∃ before after, levels = before ++ true :: after ∧ lowUnderWay each high low before = some n := by
  induction levels generalizing high low with
  | nil => simp [lowsEnded]
  | cons v rest ih =>
    rw [lowsEnded, List.mem_append, ih]
    constructor
    · rintro (h | ⟨before, after, rfl, h⟩)
      · cases v
        · simp at h
        · exact ⟨[], rest, rfl, by simpa [lowUnderWay, Option.mem_toList] using h⟩
      · exact ⟨v :: before, after, rfl, h⟩
    · rintro ⟨_ | ⟨w, before⟩, after, h, hl⟩
      · obtain ⟨rfl, rfl⟩ : v = true ∧ rest = after := by simpa using h
        exact Or.inl (by simpa [lowUnderWay, Option.mem_toList] using hl)
      · obtain ⟨rfl, rfl⟩ : v = w ∧ rest = before ++ true :: after := by simpa using h
        exact Or.inr ⟨before, after, rfl, hl⟩

/-- A low under way began in the stretch, or is the one that was under way before it. -/
theorem lowUnderWay_eq_some_iff (each : Nat) (high : Bool) (low : Option Nat) (n : Nat) (levels : List Bool)
    (hl : high = true → low = none) :
    lowUnderWay each high low levels = some n ↔
      (∃ before k, high :: levels = before ++ true :: List.replicate (k + 1) false ∧ n = (k + 1) * each) ∨
        ∃ carried, low = some carried ∧ true ∉ levels ∧ n = carried + levels.length * each := by
  induction levels generalizing high low with
  | nil =>
    have nil_ne : ∀ before k, ¬ [high] = before ++ true :: List.replicate (k + 1) false := by
      intro before k h
      have := congrArg List.length h
      simp at this
      omega
    simp [lowUnderWay, nil_ne]
  | cons v rest ih =>
    have key : (∃ before k, high :: v :: rest = before ++ true :: List.replicate (k + 1) false ∧ n = (k + 1) * each) ↔
        (high = true ∧ ∃ k, v :: rest = List.replicate (k + 1) false ∧ n = (k + 1) * each) ∨
          ∃ before k, v :: rest = before ++ true :: List.replicate (k + 1) false ∧ n = (k + 1) * each := by
      constructor
      · rintro ⟨_ | ⟨w, before⟩, k, h, hn⟩
        · simp only [List.nil_append, List.cons.injEq] at h
          exact Or.inl ⟨h.1, k, by simpa using h.2, hn⟩
        · simp only [List.cons_append, List.cons.injEq] at h
          exact Or.inr ⟨before, k, h.2, hn⟩
      · rintro (⟨rfl, k, h, hn⟩ | ⟨before, k, h, hn⟩)
        · exact ⟨[], k, by rw [h]; rfl, hn⟩
        · exact ⟨high :: before, k, by rw [h]; rfl, hn⟩
    rw [lowUnderWay, ih v _ (by rintro rfl; rfl), key]
    have all : ∀ k, rest = List.replicate k false ↔ true ∉ rest ∧ rest.length = k := by
      intro k
      constructor
      · rintro rfl
        simp
      · rintro ⟨h, rfl⟩
        refine List.eq_replicate_iff.2 ⟨rfl, fun x hx => ?_⟩
        cases x
        · rfl
        · exact absurd hx h
    cases v with
    | true => simp [lowStep, List.replicate_succ]
    | false =>
      rw [or_comm (a := _ ∧ _), or_assoc]
      refine or_congr_right ?_
      cases high with
      | true =>
        simp only [lowStep, hl rfl, List.replicate_succ, List.cons.injEq, true_and, all]
        constructor
        · rintro ⟨c, hc, hr, rfl⟩
          obtain rfl : each = c := by simpa using hc
          exact Or.inl ⟨rest.length, ⟨hr, rfl⟩, by rw [Nat.succ_mul, Nat.add_comm]⟩
        · rintro (⟨k, ⟨hr, rfl⟩, rfl⟩ | ⟨c, hc, -⟩)
          · exact ⟨each, by simp, hr, by rw [Nat.succ_mul, Nat.add_comm]⟩
          · cases hc
      | false =>
        simp only [lowStep, Bool.false_eq_true, if_false, false_and, false_or]
        constructor
        · rintro ⟨c, hc, hr, rfl⟩
          obtain ⟨d, rfl, rfl⟩ := Option.map_eq_some_iff.1 hc
          exact ⟨d, rfl, by simpa using hr, by rw [List.length_cons, Nat.succ_mul]; omega⟩
        · rintro ⟨d, rfl, hr, rfl⟩
          exact ⟨d + each, rfl, by simpa using hr, by rw [List.length_cons, Nat.succ_mul]; omega⟩

/-- The low outside a frame that is under way at the end of a stretch of the branch line (R18, R145). -/
theorem State.lowOutside_eq_some_iff (s : State) (levels : List Bool) (n : Nat) :
    s.lowOutside levels = some n ↔ LowOutside s levels n := by
  rw [State.lowOutside, lowUnderWay_eq_some_iff _ _ _ _ _ (by
    intro h
    rw [LinkController.carriedLow, if_pos h])]
  refine or_congr_right (exists_congr fun c => ?_)
  cases hh : s.link.receiver.high <;> simp [LinkController.carriedLow, hh, sixteenthLength, measuringRate]

/-- The same behind a wake pulse (R145). -/
theorem State.lowThrough_eq_some_iff (s : State) (before pulse : List Bool) (n : Nat) :
    s.lowThrough before pulse = some n ↔
      true ∉ pulse ∧ ∃ earlier, LowOutside s before earlier ∧
        n = earlier + pulse.length * (115200 / bitRate s.link.branchRate) := by
  rw [State.lowThrough]
  cases h : s.lowOutside before with
  | none =>
    simp only [reduceCtorEq, false_iff, not_and, not_exists]
    rintro - e he -
    rw [(State.lowOutside_eq_some_iff s before e).2 he] at h
    cases h
  | some m =>
    have hm : ∀ e, LowOutside s before e ↔ m = e := fun e => by
      rw [← State.lowOutside_eq_some_iff, h, Option.some_inj]
    by_cases ht : true ∈ pulse <;> simp [ht, hm, eq_comm, sixteenthLength, measuringRate]

theorem isWake_iff (n : Nat) : isWake n = true ↔ WakeLong n := by
  rw [isWake, Bool.and_eq_true, decide_eq_true_iff, decide_eq_true_iff]
  rfl

theorem bitRate_pos (rate : RateCode) : 0 < bitRate rate := by
  unfold bitRate
  split <;> decide

/-- A wake comes on a stretch of the branch line (R18). -/
theorem State.wakesOn_iff (s : State) (levels : List Bool) :
    s.wakesOn levels = true ↔ s.link.mode = .normal ∧ WakeOn s levels := by
  unfold State.wakesOn
  split
  next hm =>
    simp only [List.any_eq_true, isWake_iff, mem_lowsEnded, hm, true_and]
    constructor
    · rintro ⟨n, ⟨before, after, e, h⟩, hw⟩
      exact ⟨before, n, after, e, (State.lowOutside_eq_some_iff s before n).1 h, hw⟩
    · rintro ⟨before, n, after, e, h, hw⟩
      exact ⟨n, ⟨before, after, e, (State.lowOutside_eq_some_iff s before n).2 h⟩, hw⟩
  next hm => simp [hm]

theorem State.noWakeBefore_iff (s : State) (sent : Transmission) : s.noWakeBefore sent = true ↔ NoWakeBefore s sent := by
  rw [State.noWakeBefore, Bool.not_eq_true', ← Bool.not_eq_true, State.wakesOn_iff, not_and]

/-! ## Transmissions at their rate (R3, R125) -/

/-- Where a transmission leaves the branch receiver, by the rate it ran at and the rate of the transmission. -/
theorem hearsFrame_iff (s : State) (rate : RateCode) (before during : List Bool) (r : Receiver)
    (hrate : s.link.branchRate = rate) :
    HearsFrame s rate before during r ↔
      s.hearFrame before during =
        { s with link := { s.link with receiver := r, receiverRate := rate, outsideLow := none } } := by
  subst hrate
  simp only [HearsFrame, exists_eq_left, State.hearFrame, State.setBranchReceiver, State.mapLink, State.mk.injEq,
    LinkController.mk.injEq, true_and, and_true, Receiver.atRate]
  split <;> simp_all [eq_comm]

/-- Where the rate does not change, a transmission is heard behind the line before it as one line. -/
theorem State.hearFrame_same {s : State} (before during : List Bool) (h : s.link.receiverRate = s.link.branchRate) :
    s.hearFrame before during = s.setBranchReceiver (s.link.receiver.hearLevels .branch (before ++ during)).1 := by
  simp [State.hearFrame, h, Receiver.hearLevels_append]

/-- A transmission on the branch is read back as sent, or in LOOPBACK fed from the transmitter (R13, R148). -/
theorem State.sentOnBranch_eq_some {s : State} {rate : RateCode} {levels : List Bool} {sent : Transmission} {r : Receiver}
    (hrate : s.link.branchRate = rate)
    (h : s.link.mode = .normal ∧ ReadsBack levels sent ∧
          HearsFrame s rate (Wave.levels sent.before) (Transmission.filled sent levels) r ∨
        s.link.mode = .loopback ∧
          HearsFrame s rate (Wave.levels (sent.before.map fun y => (true, y.2))) (sixteenths levels) r) :
    s.sentOnBranch levels sent =
      some { s with link := { s.link with receiver := r, receiverRate := rate, outsideLow := none } } := by
  rcases h with ⟨hm, hk, hh⟩ | ⟨hm, hh⟩
  · rw [hearsFrame_iff _ _ _ _ _ hrate] at hh
    rw [State.sentOnBranch, if_pos (Or.inr ((Transmission.completes_iff _ _).2 hk)), hm, LinkMode.fedFrom, hh]
  · rw [hearsFrame_iff _ _ _ _ _ hrate] at hh
    rw [State.sentOnBranch, if_pos (Or.inl hm), hm, LinkMode.fedFrom, ← hh]
    rfl

/-- A transmission on the branch that a difference in bit k has ended (R13, R14). -/
theorem State.cutOnBranch_eq {s : State} {rate : RateCode} {sent : Transmission} {r : Receiver} {k : Nat}
    (hrate : s.link.branchRate = rate)
    (h : HearsFrame s rate (Wave.levels sent.before) ((Wave.levels sent.during).take (16 * k + 10)) r) :
    s.cutOnBranch sent k =
      { s with link := { s.link with receiver := r, receiverRate := rate, outsideLow := none } } :=
  (hearsFrame_iff _ _ _ _ _ hrate).1 h

/-! ## Wake pulses (R14, R17, R112) -/

/-- Each sixteenth of a bit time reads the level that stands where it begins, as far as the line of the pulse goes. -/
theorem getElem?_pulseAtRate (rate : RateCode) (pulse : List Bool) (k : Nat) :
    (pulseAtRate rate pulse)[k]? = pulse[k * 4000 / bitRate rate]? := by
  have hb := bitRate_pos rate
  have hk : k < (pulse.length * bitRate rate + 3999) / 4000 ↔ k * 4000 / bitRate rate < pulse.length := by
    rw [Nat.div_lt_iff_lt_mul hb, Nat.lt_div_iff_mul_lt (by decide)]
    omega
  by_cases h : k * 4000 / bitRate rate < pulse.length
  · simp [pulseAtRate, pulseStepsPerSecond, List.getElem?_eq_getElem h, hk.2 h]
  · simp [pulseAtRate, pulseStepsPerSecond, h, mt hk.1 h]

/-- What the branch receiver hears of a wake pulse is its line at the branch rate of the pulse. -/
theorem hearsPulse_iff (s : State) (rate : RateCode) (before : Wave) (pulse : List Bool) (r : Receiver)
    (low : Option Nat) (hrate : s.link.branchRate = rate) :
    HearsPulse s rate (Wave.levels before) pulse r low ↔
      s.pulseHeard before pulse =
        { s with link := { s.link with receiver := r, receiverRate := rate, outsideLow := low } } := by
  subst hrate
  have key : ∀ heard : List Bool,
      (∀ k v, heard[k]? = some v ↔ pulse[k * 4000 / bitRate s.link.branchRate]? = some v) ↔
        heard = pulseAtRate s.link.branchRate pulse := by
    intro heard
    constructor
    · intro h
      apply List.ext_getElem?
      intro k
      rw [getElem?_pulseAtRate]
      exact Option.ext fun v => h k v
    · rintro rfl k v
      rw [getElem?_pulseAtRate]
  have hlow : (∀ n, low = some n ↔ s.link.mode = .normal ∧ true ∉ pulseAtRate s.link.branchRate pulse ∧
        ∃ earlier, LowOutside s (Wave.levels before) earlier ∧
          n = earlier + (pulseAtRate s.link.branchRate pulse).length * (115200 / bitRate s.link.branchRate)) ↔
      (match s.link.mode with
        | .normal => s.lowThrough (Wave.levels before) (pulseAtRate s.link.branchRate pulse)
        | .loopback => none) = low := by
    simp only [← State.lowThrough_eq_some_iff]
    cases s.link.mode
    · simp only [true_and]
      exact ⟨fun h => Option.ext fun n => (h n).symm, fun h n => by rw [h]⟩
    · simp only [reduceCtorEq, false_and, iff_false]
      exact ⟨fun h => (Option.eq_none_iff_forall_ne_some.2 h).symm, fun h n => by simp [← h]⟩
  have hframe := fun l => hearsFrame_iff s _ (Wave.levels before) l r rfl
  simp only [HearsPulse, key, exists_eq_left, hlow, hframe]
  simp only [State.pulseHeard, State.hearFrame, State.setBranchReceiver, State.mapLink, State.mk.injEq,
    LinkController.mk.injEq, true_and, and_true]
  all_goals exact Iff.rfl

/-- Where a wake pulse that reads back as low throughout leaves the branch receiver, and a low that was under way before
it (R14, R112, R145). -/
theorem State.pulseSent_eq_some {s : State} {steps : Byte} {rate : RateCode} {sent : Transmission} {r : Receiver}
    {low : Option Nat} (hrate : s.link.branchRate = rate) (hw : NoWakeBefore s sent)
    (h : s.link.mode = .normal ∧ ReadsBack (List.replicate steps.toNat false) sent ∧
          HearsPulse s rate (Wave.levels sent.before) (Transmission.filled sent (List.replicate steps.toNat false)) r
            low ∨
        s.link.mode = .loopback ∧
          HearsPulse s rate (Wave.levels (sent.before.map fun y => (true, y.2)))
            (sixteenths (List.replicate steps.toNat false)) r low) :
    s.pulseSent steps sent =
      some { s with link := { s.link with receiver := r, receiverRate := rate, outsideLow := low } } := by
  have hn := (State.noWakeBefore_iff s sent).2 hw
  rcases h with ⟨hm, hk, hh⟩ | ⟨hm, hh⟩
  · rw [hearsPulse_iff _ _ _ _ _ _ hrate] at hh
    rw [State.pulseSent, if_pos ⟨hn, Or.inr ((Transmission.completes_iff _ _).2 hk)⟩, hm, LinkMode.fedFrom, pulseLevels,
      hh]
  · rw [hearsPulse_iff _ _ _ _ _ _ hrate] at hh
    rw [State.pulseSent, if_pos ⟨hn, Or.inl hm⟩, hm, LinkMode.fedFrom, pulseLevels, ← hh]
    rfl

/-- Where a wake pulse that a high step ends leaves the branch receiver (R14, R112). -/
theorem State.pulseCut_eq_some {s : State} {steps : Byte} {rate : RateCode} {sent : Transmission} {r : Receiver}
    {low : Option Nat} {k : Nat} (hrate : s.link.branchRate = rate) (hw : NoWakeBefore s sent) (hm : s.link.mode = .normal)
    (hd : DiffersFirst (List.replicate steps.toNat false) sent k)
    (hh : HearsPulse s rate (Wave.levels sent.before) ((Wave.levels sent.during).take (16 * k + 10)) r low) :
    s.pulseCut steps sent =
      some { s with link := { s.link with receiver := r, receiverRate := rate, outsideLow := low } } := by
  rw [hearsPulse_iff _ _ _ _ _ _ hrate] at hh
  simp [State.pulseCut, (State.noWakeBefore_iff s sent).2 hw, State.differsOnBranch, hm, pulseLevels,
    (Transmission.differsAt_eq_some_iff _ _ _).2 hd, Transmission.upTo, bitSixteenths, hh]

/-! ## Receptions (R10, R11) -/

@[simp] theorem goodBytes_goodCharacters (values : List Byte) : goodBytes (goodCharacters values) = values := by
  induction values with
  | nil => rfl
  | cons b rest ih => simpa [goodBytes, goodCharacters] using ih

theorem replyEnded_good_cons (register : Byte) (n : Nat) (b : Byte) (rest : List RxEvent) :
    replyEnded register (n + 1) (.character (.good b) :: rest) = replyEnded (crc8Byte register b) n rest := rfl

/-- n data characters and the check byte, whatever follows (R9, R10). -/
theorem replyEnded_check (register : Byte) (data : List Byte) (check : Byte) (more : List RxEvent) :
    replyEnded register data.length (goodCharacters (data ++ [check]) ++ more) =
      some (if check = ~~~ data.foldl crc8Byte register then .success else .check) := by
  induction data generalizing register with
  | nil => rfl
  | cons b rest ih => exact ih (crc8Byte register b)

/-- A FRAMING mark among the n + 1 characters, whatever follows (R10). -/
theorem replyEnded_framing (register : Byte) (n : Nat) (data : List Byte) (value : Byte) (more : List RxEvent)
    (h : data.length ≤ n) :
    replyEnded register n (goodCharacters data ++ .character (.framing value) :: more) = some .framing := by
  induction data generalizing register n with
  | nil => simp [goodCharacters, replyEnded]
  | cons b rest ih =>
    rcases n with _ | n
    · simp at h
    · exact ih (crc8Byte register b) n (by simpa using h)

/-- n characters or fewer do not end a reception (R10). -/
theorem replyEnded_short (register : Byte) (n : Nat) (data : List Byte) (h : data.length ≤ n) :
    replyEnded register n (goodCharacters data) = none := by
  induction data generalizing register n with
  | nil => simp [goodCharacters, replyEnded]
  | cons b rest ih =>
    rcases n with _ | n
    · simp at h
    · exact ih (crc8Byte register b) n (by simpa using h)

/-- A character that ends a reception in time decides it (R10). -/
theorem replyVerdict_ended {register : Byte} {missing : Nat} {begun expired : Bool} {counted : List RxEvent}
    {heard : Receiver × List RxEvent} {o : BranchOutcome} (hb : RxEvent.lineBreak ∉ heard.2)
    (h : replyEnded register missing counted = some o) :
    replyVerdict register missing begun expired counted heard = some o := by
  simp [replyVerdict, hb, h]

/-- The reply window ends a reception that no character has ended (R11). -/
theorem replyVerdict_expired {register : Byte} {missing : Nat} {begun : Bool} {counted : List RxEvent}
    {heard : Receiver × List RxEvent} (hb : RxEvent.lineBreak ∉ heard.2)
    (h : replyEnded register missing counted = none) :
    replyVerdict register missing begun true counted heard =
      some (if begun = true ∨ heard.2 ≠ [] ∨ heard.1.midCharacter = true then .shortReply else .noReply) := by
  simp [replyVerdict, hb, h]

/-- Without either, the reception goes on. -/
theorem replyVerdict_open {register : Byte} {missing : Nat} {begun : Bool} {counted : List RxEvent}
    {heard : Receiver × List RxEvent} (h : replyEnded register missing counted = none) :
    replyVerdict register missing begun false counted heard = none := by
  simp [replyVerdict, h]

theorem windowEnds_iff (n sinceH1 : Nat) (line : Wave) : windowEnds n sinceH1 line = true ↔ WindowOver n sinceH1 line := by
  rw [windowEnds, decide_eq_true_iff, windowLeft, replyWindow]
  exact Nat.sub_le_iff_le_add'

/-- Where the window is over, what is early enough for it is all of its line but the last sixteenth (R11). -/
theorem take_early (n sinceH1 : Nat) (line : Wave) (h : WindowOver n sinceH1 line) :
    (withinWindow n sinceH1 line).take (windowLeft n sinceH1 - 1) = (withinWindow n sinceH1 line).dropLast := by
  have hl := of_decide_eq_true ((windowEnds_iff n sinceH1 line).2 h)
  rw [List.dropLast_eq_take, withinWindow, List.length_take, Nat.min_eq_left hl]

/-- Before the window is over, all of a line is early enough for it. -/
theorem take_early_of_not (n sinceH1 : Nat) (line : Wave) (h : ¬ WindowOver n sinceH1 line) :
    (withinWindow n sinceH1 line).take (windowLeft n sinceH1 - 1) = withinWindow n sinceH1 line := by
  have hl : ¬ windowLeft n sinceH1 ≤ (Wave.levels line).length := fun hw =>
    h ((windowEnds_iff n sinceH1 line).1 (decide_eq_true hw))
  apply List.take_of_length_le
  rw [withinWindow, List.length_take]
  omega

/-- How a publication of n data bytes is judged, by what the trunk receiver hears in its window (R9, R10, R57). -/
theorem State.captureVerdict_check {s : State} {h0 h1 : Byte} {line : Wave} {data : List Byte} {check : Byte}
    {more : List RxEvent} (hm : RxEvent.lineBreak ∉ more)
    (hh : (s.hearCapture data.length line).2 = goodCharacters (data ++ [check]) ++ more) :
    s.captureVerdict h0 h1 data.length false line =
      some (if check = checkByte h0 h1 data then .success else .check) := by
  refine replyVerdict_ended (by simp [hh, hm, goodCharacters]) ?_
  rw [if_neg (by simp), hh, replyEnded_check]
  rfl

/-! ## The time since H1 (R11) -/

theorem Receiver.sinceHanded_append (g : Segment) (r : Receiver) (since : Nat) (l m : List Bool) :
    r.sinceHanded g since (l ++ m) = (r.hearLevels g l).1.sinceHanded g (r.sinceHanded g since l) m := by
  induction l generalizing r since with
  | nil => rfl
  | cons v l ih => exact ih (r.read g v).1 _

/-- Nothing is handed over: the time goes on. -/
theorem Receiver.sinceHanded_silent (g : Segment) (r : Receiver) (since : Nat) (l : List Bool)
    (h : (r.hearLevels g l).2 = []) : r.sinceHanded g since l = since + l.length := by
  induction l generalizing r since with
  | nil => rfl
  | cons v l ih =>
    rw [Receiver.hearLevels_cons, List.append_eq_nil_iff] at h
    change (r.read g v).1.sinceHanded g (if (r.read g v).2.isEmpty then since + 1 else 0) l = _
    rw [h.1, List.isEmpty_nil, if_pos rfl, ih _ _ h.2, List.length_cons]
    omega

/-- The time since the end of H1 that a header row leaves is what HearsHeader says. -/
theorem HearsHeader.sinceHanded {s : State} {line : Wave} {h0 h1 : Byte} {r : Receiver} {since : Nat}
    (h : HearsHeader s line h0 h1 r since) : s.trunk.receiver.sinceHanded .trunk 0 (Wave.levels line) = since := by
  obtain ⟨hh, -, toH1, last, idle, hl, rfl, h1, h2⟩ := h
  have e : Wave.levels line = (toH1 ++ [last]) ++ idle := by rw [hl, List.append_assoc, List.singleton_append]
  rw [State.hearTrunk, Receiver.hear, e, Receiver.hearLevels_append] at hh
  have hi : ((s.trunk.receiver.hearLevels .trunk (toH1 ++ [last])).1.hearLevels .trunk idle).2 = [] := by
    have := congrArg Prod.snd hh
    rw [h2] at this
    simpa using this
  have hr : (((s.trunk.receiver.hearLevels .trunk toH1).1.read .trunk last).2).isEmpty = false := by
    rw [Receiver.hearLevels_append, h1] at h2
    cases hx : ((s.trunk.receiver.hearLevels .trunk toH1).1.read .trunk last).2 with
    | nil => simp [Receiver.hearLevels_cons, hx] at h2
    | cons => rfl
  rw [e, Receiver.sinceHanded_append, Receiver.sinceHanded_silent _ _ _ _ hi, Receiver.sinceHanded_append]
  change (if (((s.trunk.receiver.hearLevels .trunk toH1).1.read .trunk last).2).isEmpty then _ else 0) + _ = _
  rw [hr]
  simp

/-! ## Receiving a COMMAND record -/

/-- A COMMAND row outside CAPTURE for COMMAND, or whose line brings no such record (R52, R59). -/
theorem takeCommandThen_notReceiving {code tag : Byte} {ops : HeardOperands} {owner : State → State × Answer}
    {after : State → State} {s : State} (h : s.recordReception code tag ops = .notReceiving) :
    takeCommandThen code tag ops owner after s = s := by
  simp [takeCommandThen, h]

/-- A COMMAND row whose reception ends with an error class (R10, R57). -/
theorem takeCommandThen_failed {code tag : Byte} {ops : HeardOperands} {owner : State → State × Answer}
    {after : State → State} {s : State} (h : s.recordReception code tag ops = .failed) :
    takeCommandThen code tag ops owner after s = (s.setReceiver (s.hearCapture 16 ops.line).1).setPort .passive := by
  simp [takeCommandThen, h]

/-- A COMMAND row that is handed over (R59, R152). -/
theorem takeCommandThen_handedOver {code tag : Byte} {ops : HeardOperands} {owner : State → State × Answer}
    {after : State → State} {s : State} (h : s.recordReception code tag ops = .handedOver) :
    takeCommandThen code tag ops owner after s =
      takeRecord code tag owner after (s.setReceiver (s.hearCapture 16 ops.line).1) := by
  simp [takeCommandThen, h]

/-- The 16 bytes of a record and the check byte of the header and of them: the record is handed over (R9, R59). -/
theorem State.recordReception_good {s : State} {h0 h1 : Byte} (code tag : Byte) (ops : HeardOperands)
    (hp : s.power = .running) (ht : s.trunk.port = .capture .command h0 h1)
    (hh : (s.hearCapture 16 ops.line).2 =
      goodCharacters ((code :: tag :: ops.bytes.toList) ++ [checkByte h0 h1 (code :: tag :: ops.bytes.toList)])) :
    s.recordReception code tag ops = .handedOver := by
  have hl : (code :: tag :: ops.bytes.toList).length = 16 := by simp
  have hv : s.captureVerdict h0 h1 16 false ops.line = some .success := by
    rw [← hl, State.captureVerdict_check (more := []) (by simp) (by rw [List.append_nil, hl, hh]), if_pos rfl]
  simp only [State.recordReception, State.isRunning, hp, ht, hv, hh, goodBytes_goodCharacters]
  rw [List.take_append_of_le_length (by simp), List.take_of_length_le (by simp)]
  simp

/-- A COMMAND record that the trunk receiver hears is taken (R59, R152). -/
theorem takeCommandThen_heard {code tag : Byte} {ops : Operands} {line : Wave} {owner : State → State × Answer}
    {after : State → State} {u s : State} (hp : u.power = .running) (ht : u.trunk.port.capturesCommand = true)
    (h : HearsRecord u code tag ops line s) :
    takeCommandThen code tag ⟨ops, line⟩ owner after u = takeRecord code tag owner after s := by
  obtain ⟨r, hr, rfl⟩ := h
  unfold PortState.capturesCommand at ht
  split at ht
  next h0 h1 hc =>
    rw [takeCommandThen_handedOver (State.recordReception_good code tag ⟨ops, line⟩ hp hc (by
      simp [hr, State.goodCheck, hc])), hr]
    rfl
  all_goals simp at ht

/-- A record's characters on the line, with its good check byte. -/
def recordWave (s : State) (code tag : Byte) (ops : Operands) : Wave :=
  charactersWave (code :: tag :: ops.toList ++ [s.goodCheck code tag ops])

/-- Characters take ten bit times each (R1). -/
theorem length_levels_charactersWave (values : List Byte) :
    (Wave.levels (charactersWave values)).length = 160 * values.length := by
  rw [levels_charactersWave]
  induction values with
  | nil => rfl
  | cons b rest ih =>
    have e : (sixteenths (characterLevels b)).length = 160 := rfl
    have h : sixteenths (charactersLevels (b :: rest)) = sixteenths (characterLevels b) ++ sixteenths (charactersLevels rest) :=
      List.flatMap_append
    rw [h, List.length_append, e, ih, List.length_cons]
    omega

/-- Characters that are all sent within the reply window are all heard in it, by a receiver at rest. -/
theorem hearCapture_charactersWave (n : Nat) (values : List Byte) (s : State)
    (h : s.trunk.receiver = Receiver.atRest) (hl : s.trunk.sinceH1 + 160 * values.length ≤ 16 * replyWindow n) :
    s.hearCapture n (charactersWave values) = (Receiver.atRest, goodCharacters values) := by
  rw [State.hearCapture, withinWindow, List.take_of_length_le, h, levels_charactersWave, Receiver.hear_characters]
  rw [length_levels_charactersWave, windowLeft]
  omega

/-- Every COMMAND record is heard on its own line, by a receiver at rest, which is at rest behind it. -/
theorem hearsRecord_recordWave (code tag : Byte) (ops : Operands) (s : State) (h : s.trunk.receiver = Receiver.atRest)
    (hl : s.trunk.sinceH1 ≤ 1856) : HearsRecord s code tag ops (recordWave s code tag ops) s := by
  refine ⟨Receiver.atRest, ?_, ?_⟩
  · rw [recordWave, hearCapture_charactersWave _ _ _ h]
    simp [replyWindow]
    omega
  · rw [← h]

/-- A verdict on a capture is one of three: no end of the reception, a good publication, an error class (R57). -/
theorem State.endCapture_cases (verdict : Option BranchOutcome) (r : Receiver) (f : State → State) (s : State) :
    (verdict = none ∧ s.endCapture verdict r f = s) ∨
      (verdict = some .success ∧ s.endCapture verdict r f = f ((s.setReceiver r).setPort .passive)) ∨
      ((∃ o, verdict = some o ∧ o ≠ .success) ∧ s.endCapture verdict r f = (s.setReceiver r).setPort .passive) := by
  rcases verdict with _ | o
  · simp [State.endCapture]
  · by_cases h : o = .success <;> simp [State.endCapture, h]

end Sys2Proof.Machine
end

