-- ==== Sys2Proof/Tests/Slice0.lean ====
section
/-! SUPPORT. Tests/Slice0.lean: the smoke tests of WellFormed, checks of the tables and operations against the manual's
worked examples, and for each statement of Obligations.lean concrete states and operands that meet its hypotheses,
clause by clause, with values at the bounds of their ranges. -/

set_option Elab.async false

namespace Sys2Proof.Tests

open Sys2Proof.Machine

/-! ## Small states -/

def ops (l : List Byte) : Operands := Vector.ofFn fun i => l.getD i.val 0#8

/-- The two header characters of a channel and length code. -/
def h0Of (c : Channel) : Byte := headerH0 c

def h1Of (c : Channel) (l : LengthCode) : Byte := headerH1 c l

/-- The line up to a header: the break goes on for 2 bit times, then a delimiter of 2. -/
def upToHeader : Wave := [(false, 32), (true, 32)]

/-- Two header characters on the line, 5 sixteenths apart. -/
def overHeader (h0 h1 : Byte) : Wave := characterWave h0 ++ [(true, 5)] ++ characterWave h1

def headerLine (h0 h1 : Byte) : Wave := upToHeader ++ overHeader h0 h1

/-- The header of a channel and a length code on the line. -/
def lineOf (c : Channel) (l : LengthCode) : Wave := headerLine (h0Of c) (h1Of c l)

/-- A valid entry of a kind, with CHANNEL, LENGTH and BRANCH_CHANNEL. -/
def entryOf (kind : EntryKind) (channel : Channel) (length : LengthCode) (branch : Channel) : Entry :=
  { clearedEntry with valid := true, kind := kind, channel := channel, length := length, branchChannel := branch }

def bankWith (i : EntryIndex) (e : Entry) (b : Bank) : Bank :=
  { b with entries := b.entries.set i.val e i.isLt }

def withActive (i : EntryIndex) (e : Entry) (s : State) : State :=
  s.mapRoute fun r => { r with bankA := bankWith i e r.bankA }

def withEdit (i : EntryIndex) (e : Entry) (s : State) : State :=
  s.mapRoute fun r => { r with bankB := bankWith i e r.bankB }

/-- The relay is receiving a COMMAND publication, with the slot empty and both receivers at rest. -/
def taking : State :=
  ((State.reset.setPort (.capture .command (h0Of 960#10) (h1Of 960#10 3#2))).setReceiver
    Receiver.atRest).setBranchReceiver Receiver.atRest

/-- A break has just been taken. -/
def atHeader : State := (State.reset.setPort .header).setReceiver Receiver.afterBreak

def inState (l : LinkState) : State := taking.setLinkState l

def inMode (m : LinkMode) (s : State) : State := s.mapLink fun c => { c with mode := m }

def withScore (v : Byte) (s : State) : State := s.mapLink fun c => { c with score := v }

def withStore (st : StoreState) (s : State) : State := s.mapConfig fun c => { c with store := st }

/-- The command with that code holds the slot, with tag 7 and PENDING in RESULT. -/
def holding (code : Byte) (s : State) : State :=
  s.mapAgent fun g =>
    { g with slot := some { code := code, tag := 7#8 },
             result := { g.result with code := code, tag := 7#8, outcome := .pending } }

def txn (op : TransactionOp) : Transaction :=
  { op := op, branchChannel := 40#10, length := 1#2, rate := 1#2, breakLength := .bits13 }

def item (e : EntryIndex) (op : QueueOp) (cls : BitVec 2) : QueueItem :=
  { entry := e, op := op, origin := .periodic, cls := cls, seq := 0#16 }

def withQueue (q : List QueueItem) (d : List DeferredElement) (s : State) : State :=
  s.mapSched fun x => { x with queue := q, deferred := d }

/-- Sixteen items, for the entries 0 to 15. -/
def fullQueue : List QueueItem := (List.finRange 16).map fun k => item ⟨k.val, by omega⟩ .refresh 0#2

def deferredOf (e : EntryIndex) : DeferredElement := { entry := e, op := .publish, origin := .manual }

def freshRecord (data : List Byte) : Record := { startRecord with state := .fresh, data := data }

def contents : ImageContents := { bank := clearedBank, line := defaultLine, tickPeriod := 250#8, order := .index }

def idleContext (trunkSide : TrunkSide) (masked : Bool) : RelayContext :=
  { RelayContext.admitted 5 { entryOf .relayed 290#10 1#2 40#10 with masked := masked } 40#10 0x48#8 0x9D#8 with
    trunkSide := trunkSide }

/-- A relay of entry 5 in REPLY_WAIT. -/
def relaying (trunkSide : TrunkSide) (masked : Bool) (port : PortState) : State :=
  ((inState (.replyWait (txn (.relay 5)))).setRelay (some (idleContext trunkSide masked))).setPort port

/-- The line goes on high while 16 bits are sent, the sixteenth of which is low: the first difference after a break of
13 bit times and a delimiter. -/
def differsInH0 : Transmission := { during := [(false, 208), (true, 42)] }

/-! ## What is heard and read back -/

theorem heard_trunk (values : List Byte) (s : State) (h : s.trunk.receiver = Receiver.atRest) :
    s.hearTrunk (charactersWave values) = (Receiver.atRest, goodCharacters values) := by
  rw [State.hearTrunk, h, Receiver.hear, levels_charactersWave, Receiver.hear_characters]

theorem heard_branch (values : List Byte) (s : State) (h : s.link.receiver = Receiver.atRest) :
    s.hearBranch (charactersWave values) = (Receiver.atRest, goodCharacters values) := by
  rw [State.hearBranch, h, Receiver.hear, levels_charactersWave, Receiver.hear_characters]

theorem readsBack_default (levels : List Bool) : ReadsBack levels {} :=
  (Transmission.completes_iff _ _).1 (Transmission.completes_default levels)

theorem collides_of_some {s t : State} {values : List Byte} {sent : Transmission}
    (h : s.collidesOnTrunk values sent = some t) : ∃ k r, Collides s values sent k r :=
  let ⟨k, r, hc, _⟩ := State.collidesOnTrunk_eq_some_iff.1 h
  ⟨k, r, hc⟩

theorem hearSent_default (g : Segment) (values : List Byte) :
    Receiver.atRest.hearSent g (charactersLevels values) {} = (Receiver.atRest, goodCharacters values) := by
  simpa [Receiver.hearSent, Transmission.filled, Wave.levels] using Receiver.hear_characters g values

theorem no_break_in_goodCharacters (values : List Byte) : RxEvent.lineBreak ∉ goodCharacters values := by
  simp [goodCharacters]

/-- The hypotheses of every statement about an executed COMMAND record: each of the states below is made from `taking`,
whose receiver is at rest at the end of H1, and such a state hears every record on that record's own line. -/
theorem witness_RecordAnswers (code tag : Byte) (o : Operands) (s : State) (h : s.trunk.receiver = Receiver.atRest)
    (hl : s.trunk.sinceH1 = 0) : ∃ line u, HearsRecord u code tag o line s :=
  ⟨_, _, hearsRecord_recordWave code tag o s h (by omega)⟩

/-- The command answers that next state, checked. -/
def answers (c : Instr) (s t : State) : Bool :=
  match exec c s with
  | .next u => decide (u = t)
  | _ => false

/-- A property of what an Option holds, checked. -/
theorem forall_mem_of_all {α : Type} {o : Option α} {p : α → Prop} [DecidablePred p]
    (h : o.all (fun x => decide (p x)) = true) : ∀ x ∈ o, p x := by
  intro x hx
  cases hx
  simpa using h

/-! ## WellFormed refuses (R7, R18, R152) -/

theorem test_wellFormed_refuses_good_header_as_error :
    (Instr.trunkHeaderError upToHeader (overHeader 0xFF#8 0xC9#8)).wellFormed = false := by decide +kernel

theorem test_wellFormed_refuses_bad_nibble_as_valid :
    (Instr.trunkValidHeader upToHeader (overHeader 0xFF#8 0xC8#8)).wellFormed = false := by decide +kernel

theorem test_wellFormed_refuses_header_without_delimiter :
    (Instr.trunkValidHeader [(true, 15)] (characterWave 0xFF#8 ++ characterWave 0xC9#8)).wellFormed = false := by
  decide +kernel

theorem test_wellFormed_refuses_known_code_as_unknown :
    (Instr.unknownCommand 0x15#8 0#8 ⟨ops [], []⟩).wellFormed = false := by decide +kernel

theorem test_wellFormed_refuses_wake_begun_before :
    (Instr.branchWakeDetected [(true, 16), (false, 60)] 60).wellFormed = false := by decide +kernel

theorem test_wellFormed_refuses_wake_without_low : (Instr.branchWakeDetected [(true, 60)] 0).wellFormed = false := by
  decide +kernel

/-! ## The manual's worked examples -/

theorem test_sleep_frame_characters :
    headerH0 1023#10 = 0xFF#8 ∧ headerH1 1023#10 0#2 = 0xC9#8 ∧
      (txn .sleep).published.length = 3 ∧
      ({ txn .sleep with branchChannel := 1023#10, length := 0#2 } : Transaction).published =
        [0x00#8, 0x00#8, 0xDC#8] := by decide +kernel

theorem test_zero_header_is_an_error : judgeHeader (.good 0#8) (.good 0#8) = .headerCheck := by decide +kernel

theorem test_reply_window_of_sixteen : replyWindow 16 = 286 := by decide +kernel

theorem test_cleared_entry_bytes :
    encodeEntry clearedEntry = [0x20#8, 0#8, 0#8, 0#8, 0#8, 0#8, 0#8, 0#8, 0#8, 0x01#8] := by decide +kernel

theorem test_ident_after_reset :
    State.reset.identBytes = [0xB5#8, 0x64#8, 0x02#8, 0x01#8, 0#8, 0#8, 1#8, 0#8] := by decide +kernel

/-- The relay of the worked example of chapter 2: unit 2, entry 5 CACHED, entry 8 a masked RELAYED range. -/
def exampleRelay : State :=
  let s := withActive 8 { entryOf .relayed 288#10 2#2 64#10 with masked := true }
    (withActive 5 (entryOf .cached 290#10 1#2 40#10) atHeader)
  let s2 := s.mapRoute fun r => { r with bankA := { r.bankA with masks := r.bankA.masks.set 2 0x3F0#10 } }
  s2.mapAgent fun g => { g with unit := 2#3 }

theorem test_worked_lookups :
    (∃ m b, exampleRelay.lookup 290#10 1#2 = .entry 5 (entryOf .cached 290#10 1#2 40#10) m b) ∧
      exampleRelay.lookup 290#10 2#2 = .entryMismatch 5 ∧
      exampleRelay.lookup 300#10 2#2 =
        .entry 8 { entryOf .relayed 288#10 2#2 64#10 with masked := true } 0x3F0#10 76#10 ∧
      exampleRelay.lookup 304#10 2#2 = .unrouted ∧ exampleRelay.lookup 980#10 3#2 = .management .entryRead ∧
      exampleRelay.lookup 980#10 2#2 = .ownMismatch :=
  ⟨⟨1023#10, 40#10, by decide +kernel⟩, by decide +kernel, by decide +kernel, by decide +kernel, by decide +kernel,
    by decide +kernel⟩

theorem test_worked_bad_branch_base :
    let bank := bankWith 9 { entryOf .relayed 320#10 2#2 0x3F5#10 with masked := true } exampleRelay.route.bankA
    bank.validate 2#3 = some (9, 5#8) ∧
      (bankWith 9 { entryOf .relayed 320#10 2#2 128#10 with masked := true } exampleRelay.route.bankA).validate 2#3 =
        none := by decide +kernel

theorem test_tick_from_reset_counts : ∃ t, step (State.reset.setPending [.tick]) = .next t ∧ t.sched.tickCount = 1#16 :=
  ⟨_, rfl, by decide +kernel⟩

theorem test_refresh_now_begins_at_once_from_idle :
    let s := withActive 5 (entryOf .cached 290#10 1#2 40#10) taking
    ∃ t, exec (.refreshNow 9#8 ⟨ops [5#8], recordWave s 0x30#8 9#8 (ops [5#8])⟩) s = .next t ∧
      t.link.state = .header (txn (.refresh 5 .manual)) ∧ t.sched.queue = [] ∧ t.agent.result.data = [5#8, 3#8] := by
  intro s
  have h : ∀ owner after, takeCommandThen Code.refreshNow 9#8 ⟨ops [5#8], recordWave s Code.refreshNow 9#8 (ops [5#8])⟩
      owner after s = takeRecord Code.refreshNow 9#8 owner after s := fun _ _ =>
    takeCommandThen_heard (by decide +kernel) (by decide +kernel) 
      (hearsRecord_recordWave _ _ _ s (by decide +kernel) (by decide +kernel))
  refine ⟨_, congrArg Host.Outcome.next (h _ _), ?_⟩
  decide +kernel

theorem test_ident_poll_is_served :
    ∃ t, exec (.trunkValidHeader upToHeader (overHeader (h0Of 967#10) (h1Of 967#10 2#2))) atHeader = .next t ∧
      t.trunkDrive = .characters (State.reset.identBytes ++
        [checkByte (h0Of 967#10) (h1Of 967#10 2#2) State.reset.identBytes]) :=
  ⟨_, rfl, by decide +kernel⟩

theorem test_loopback_refresh_captures_complement :
    let s := (withActive 5 (entryOf .cached 290#10 0#2 40#10)
      (inMode .loopback (inState (.header { txn (.refresh 5 .manual) with length := 0#2 })))).setRecord 5
      (freshRecord [0x12#8, 0x34#8])
    ∃ t u, exec .branchHeaderSent s = .next t ∧ exec (.branchReplyEnd ⟨[], true⟩) t = .next u ∧
      (u.record 5).data = [0xED#8, 0xCB#8] ∧ u.agent.counters.branchOk = 1#16 :=
  ⟨_, _, rfl, rfl, by decide +kernel⟩

/-! ## Witnesses: steps, starts, formats -/

theorem witness_StepRunsFrontCommand : State.reset.pending = [] := by decide +kernel

theorem witness_StartsSetStartValues :
    (State.reset.setPower (.off false)).power = .off false ∧ (State.reset.setPower (.held .pin)).power = .held .pin ∧
      AcceptsRecord taking ∧ Image.unmatched.validContents = none ∧
      (Image.written contents (crc16 contents.bytes)).validContents = some contents :=
  ⟨by decide +kernel, by decide +kernel, by decide +kernel, by decide +kernel,
    by simp [Image.validContents, ImageContents.integrityWord]⟩

theorem witness_SupplyAndResetPin :
    (State.reset.setPower (.off true)).power = .off true ∧ State.reset.power = .running ∧
      (State.reset.setPower .starting).power = .starting ∧ (State.reset.setPower (.held .powerOn)).power = .held .powerOn :=
  by decide +kernel

theorem witness_EventsThatCannotAriseChangeNothing :
    let entry := { entryOf .cached 7#10 0#2 9#10 with refresh := 2#8 }
    let waiting := (withActive 63 entry State.reset).setCountdown 63 2#8
    (State.reset.setPower .starting).power ≠ .running ∧ isPowerEvent .tick = false ∧ State.reset.trunk.port = .hunt ∧
      recordOfCommand (.nop 0#8 ⟨ops [], []⟩) = some (0x01#8, 0#8, ⟨ops [], []⟩) ∧
      State.reset.hearsBreak [(false, 400)] = false ∧
      headerHeard (atHeader.hearTrunk [(false, 32), (true, 15)]).2 = none ∧
      taking.captureVerdict 1#8 2#8 16 false [] = none ∧ State.reset.hearsWake [] 0 = false ∧
      Transmission.completes differingLine (characterLevels 1#8) = false ∧
      Transmission.differsAt {} (characterLevels 1#8) = none ∧
      taking.collidesOnTrunk [1#8] {} = none ∧ (txn .sleep).headerSent.length = 35 ∧
      Transmission.differsAt differsInH0 (txn .sleep).headerSent = some 15 ∧
      taking.refreshReception (txn .sleep) ⟨[], false⟩ = none ∧
      (State.reset.activeEntry 63).valid = false ∧ (waiting.activeEntry 63).valid = true ∧
      1 < (waiting.countdown 63).toNat ∧ State.reset.link.state ≠ .wakeSettle ∧
      1 < ((inState .wakeSettle).mapLink fun c => { c with settle := 2#8 }).link.settle.toNat ∧
      1 < ((inState .quarantine).mapLink fun c => { c with hold := 2#8 }).link.hold.toNat := by decide +kernel

theorem witness_EntryEncodingRoundTrip :
    clearedEntry.silentLimit ≠ 0#4 ∧ ({ clearedEntry with silentLimit := 15#4 } : Entry).silentLimit ≠ 0#4 ∧
      decodeEntry [0x20#8, 0#8, 0#8, 0#8, 0#8, 0#8, 0#8, 0#8, 0#8, 0x01#8] = some clearedEntry := by decide +kernel

theorem witness_CommandRecordRoundTrip :
    (Instr.commit 9#8 ⟨ops [], []⟩).wellFormed = true ∧
      recordOfCommand (.commit 9#8 ⟨ops [], []⟩) = some (0x15#8, 9#8, ⟨ops [], []⟩) ∧
      (Instr.unknownCommand 0xFF#8 9#8 ⟨ops [], []⟩).wellFormed = true := by decide +kernel

theorem witness_DrivesOnlyWhereAllowed :
    (State.reset.setPort (.serve .ident [1#8])).trunkDrive ≠ .released ∧
      (State.reset.setPort (.forward (some (.data 1#8)) [] false)).trunkDrive ≠ .released ∧
      (inState (.header (txn .sleep))).branchDrive ≠ .released ∧
      (inState (.dataOut (txn .sleep))).branchDrive ≠ .released ∧ State.reset.power = .running ∧
      (inState (.dataOut (txn (.publish 5 .downlink 0#8 [1#8])))).link.mode = .normal ∧
      (inState (.wakeOut true 4#8 1#2)).branchDrive ≠ .released := by decide +kernel

/-! ## Witnesses: trunk port -/

/-- A line on which a receiver that has just begun listening hears a break: 1 bit time high, 11 low. -/
def breakLine : Wave := [(true, 16), (false, 176)]

theorem witness_TrunkBreakBeginsFrame :
    State.reset.power = .running ∧ State.reset.trunk.port = .hunt ∧ State.reset.hearsBreak breakLine = true ∧
      State.reset.hearsBreak [(true, 15), (false, 176)] = false ∧ State.reset.hearsBreak [(true, 16), (false, 175)] = false ∧
      (State.reset.setPort (.forward none [] false)).trunk.port = .forward none [] false ∧
      (State.reset.setPort (.forward none [] false)).hearsBreak breakLine = true ∧
      (let r : Receiver := { high := true, lasted := 16, phase := .waiting };
        r.phase ≠ .quiet ∧ r.high = true ∧ r.phase = .waiting) ∧ Receiver.listening.phase = .quiet := by decide +kernel

/-- Stop bits that read low, at the clauses of TrunkBreakBeginsFrame: with the third sample high and with it low, and
the run of lows up to the end of the samples; a start bit whose majority is high (R2). -/
theorem witness_stop_and_start_bits :
    let early := List.replicate 7 false
    let levels := fun x => sixteenths ((characterLevels 0x41#8).take 9) ++ early ++ [false, false, x]
    ((false && false) || (false && true) || (false && true)) = false ∧
      (Receiver.atRest.hearLevels .trunk (levels true)).2 = [.character (.framing 0x41#8)] ∧
      true :: levels false = [true] ++ (levels false).take 127 ++ true :: List.replicate (25 + 1) false ∧
      (Receiver.atRest.hearLevels .trunk (levels false ++ List.replicate 149 false ++ [true])).2 =
        [.character (.framing 0x41#8)] ∧
      (Receiver.atRest.hearLevels .trunk (levels false ++ List.replicate 150 false)).2 = [.lineBreak] ∧
      (Receiver.atRest.hearLevels .branch (levels false)).2 = [.character (.framing 0x41#8)] ∧
      Receiver.atRest.hearLevels .branch ([false] ++ List.replicate 6 false ++ [true, true, false]) =
        ({ high := false, lasted := 1, phase := .waiting }, []) := by decide +kernel

/-- Breaks and delimiters at their bounds (R5): a low that goes on brings no second break, nor does one after too short
a high; a character that ran into the break is not handed over, and one whose stop bit reads low, low, high is FRAMING
before the break that follows. -/
theorem test_break_and_delimiter_bounds :
    (Receiver.afterBreak.hear .trunk [(false, 400), (true, 15), (false, 400)]).2 = [] ∧
      (Receiver.afterBreak.hear .trunk [(false, 4), (true, 16), (false, 176)]).2 = [.lineBreak] ∧
      (Receiver.afterBreak.hear .trunk
          ([(true, 16)] ++ characterWave 0x41#8 ++ [(false, 80), (true, 20), (false, 180)])).2 =
        [.character (.good 0x41#8), .lineBreak] ∧
      (Receiver.afterBreak.hear .trunk [(true, 16), (false, 153), (true, 1), (false, 176)]).2 =
        [.character (.framing 0x00#8), .lineBreak] := by decide +kernel

theorem witness_HeaderErrorCounted :
    atHeader.power = .running ∧ atHeader.trunk.port = .header ∧
      (atHeader.hearTrunk (headerLine 0#8 0#8)).2 = [.character (.good 0#8), .character (.good 0#8)] ∧
      checkNibble 0#8 (highNibble 0#8) ≠ lowNibble 0#8 ∧
      (atHeader.hearTrunk [(true, 16), (false, 160), (true, 1)]).2 = [.character (.framing 0#8)] ∧
      (atHeader.hearTrunk ([(true, 16)] ++ characterWave 0x41#8 ++ [(false, 160), (true, 1)])).2 =
        [.character (.good 0x41#8), .character (.framing 0#8)] := by decide +kernel

/-- A header that ends with its line is heard so, 0 sixteenths after H1 (R11). -/
theorem hearsHeader_of_ends {s : State} {line : Wave} {h0 h1 : Byte}
    (h : (s.hearTrunk line).2 = [.character (.good h0), .character (.good h1)] ∧
      checkNibble h0 (highNibble h1) = lowNibble h1 ∧ (Wave.levels line).length ≠ 0 ∧
      (s.trunk.receiver.hearLevels .trunk (Wave.levels line).dropLast).2 = [.character (.good h0)]) :
    HearsHeader s line h0 h1 (s.hearTrunk line).1 0 := by
  obtain ⟨ha, hb, hc, hd⟩ := h
  have hn : Wave.levels line ≠ [] := fun e => hc (by rw [e]; rfl)
  have e := List.dropLast_append_getLast hn
  exact ⟨Prod.ext rfl ha, hb, _, _, [], e.symm, rfl, hd, by rw [e]; exact ha⟩

theorem witness_HearsHeader :
    HearsHeader exampleRelay (lineOf 304#10 2#2) (h0Of 304#10) (h1Of 304#10 2#2)
      (exampleRelay.hearTrunk (lineOf 304#10 2#2)).1 0 :=
  hearsHeader_of_ends (by decide +kernel)

theorem witness_HeaderWithoutMatch :
    exampleRelay.power = .running ∧
      exampleRelay.trunk.port = .header ∧
      exampleRelay.lookup (headerChannel (h0Of 304#10) (h1Of 304#10 2#2)) (headerLength (h1Of 304#10 2#2)) = .unrouted ∧
      exampleRelay.lookup (headerChannel (h0Of 980#10) (h1Of 980#10 2#2)) (headerLength (h1Of 980#10 2#2)) =
        .ownMismatch ∧
      exampleRelay.lookup (headerChannel (h0Of 290#10) (h1Of 290#10 2#2)) (headerLength (h1Of 290#10 2#2)) =
        .entryMismatch 5 := by decide +kernel

theorem witness_MatchedHeaderDispatch :
    (∀ k : Fin 8,
      headerHeard
          (atHeader.hearTrunk (lineOf (960#10 + BitVec.ofNat 10 k.val) (managementChannel k.val).lengthCode)).2 =
        some (.valid (h0Of (960#10 + BitVec.ofNat 10 k.val))
          (h1Of (960#10 + BitVec.ofNat 10 k.val) (managementChannel k.val).lengthCode)) ∧
      atHeader.lookup (960#10 + BitVec.ofNat 10 k.val) (managementChannel k.val).lengthCode =
        .management (managementChannel k.val)) ∧
      ∀ kind ∈ [EntryKind.blocked, .downlink, .localData, .cached],
        (withActive 63 (entryOf kind 7#10 1#2 9#10) atHeader).lookup 7#10 1#2 =
          .entry 63 (entryOf kind 7#10 1#2 9#10) 1023#10 9#10 := by decide +kernel

theorem witness_RelayAdmittedOrRefused :
    let e := entryOf .relayed 7#10 1#2 9#10
    let s := (withActive 0 e atHeader).mapTrunk fun t => { t with rate := 1#2 }
    let slow := withActive 0 e atHeader
    (s.hearTrunk (lineOf 7#10 1#2)).2 = [.character (.good (h0Of 7#10)), .character (.good (h1Of 7#10 1#2))] ∧
      s.power = .running ∧
      s.trunk.port = .header ∧
      s.lookup (headerChannel (h0Of 7#10) (h1Of 7#10 1#2)) (headerLength (h1Of 7#10 1#2)) =
        .entry 0 e 1023#10 9#10 ∧
      s.link.line.rate = s.trunk.rate ∧ s.link.state = .idle ∧ slow.link.line.rate ≠ slow.trunk.rate ∧
      slow.lookup 7#10 1#2 = .entry 0 e 1023#10 9#10 ∧ (s.setLinkState .asleep).link.state ≠ .idle := by decide +kernel

theorem witness_LookupFindsFirstMatch :
    (960 + 8 * State.reset.agent.unit.toNat ≤ (960#10 : Channel).toNat ∧
        (967#10 : Channel).toNat ≤ 967 + 8 * State.reset.agent.unit.toNat) ∧
      (¬ 960 + 8 * State.reset.agent.unit.toNat ≤ (959#10 : Channel).toNat) ∧
      (¬ (968#10 : Channel).toNat ≤ 967 + 8 * State.reset.agent.unit.toNat) ∧
      (let s := withActive 63 (entryOf .blocked 0#10 1#2 0#10) State.reset;
        ((s.route.activeContents.entry 63).valid = true ∧ (s.route.activeContents.entry 63).channel = 0#10) ∧
          (∀ j : EntryIndex, j < 63 → (s.route.activeContents.entry j).valid = false) ∧
          (s.activeEntry 63).length = 1#2 ∧ (s.activeEntry 63).length ≠ 2#2) ∧
      ∀ j : EntryIndex, (State.reset.route.activeContents.entry j).valid = false := by decide +kernel

theorem witness_ValidatedBankNeverReachesSleepChannel :
    exampleRelay.route.bankA.validate 2#3 = none ∧ exampleRelay.route.bankA.Matches 8 300#10 ∧
      (exampleRelay.route.bankA.entry 8).kind = .relayed :=
  ⟨by decide +kernel, ⟨by decide +kernel, Or.inr ⟨by decide +kernel, by decide +kernel⟩⟩, by decide +kernel⟩

theorem witness_ServeEnds :
    (∀ source ∈ [ServeSource.record 0 0#8, .result, .status, .counters, .entryRead, .recordRead, .ident],
      (taking.setPort (.serve source [0#8])).trunk.port = .serve source [0#8] ∧ taking.power = .running ∧
        (taking.setPort (.serve source [0#8])).hearsBreak breakLine = true) ∧
      ReadsBack (charactersLevels [0#8]) {} ∧
      taking.trunk.receiver.hearSent .trunk (charactersLevels [0#8]) {} = (Receiver.atRest, goodCharacters [0#8]) ∧
      RxEvent.lineBreak ∉ goodCharacters [0#8] ∧ ∃ k r, Collides taking [0#8] differingLine k r :=
  ⟨by decide +kernel, readsBack_default _, hearSent_default .trunk [0#8], no_break_in_goodCharacters _,
    collides_of_some (t := taking) (by decide +kernel)⟩

/-- A low that began 22 sixteenths before the reply of 0x00 is complete as a break with the very sample at which its
stop bit reads low (R56): taken first, the collision sets TRUNK_COLLISION, and the break then begins the next frame. -/
theorem test_collision_before_break :
    let s := taking.setPort (.serve .ident [0x00#8])
    s.hearsBreak [(false, 176)] = true ∧
      (match exec (.trunkServeBitError { before := [(false, 22)], during := [(false, 154)] }) s with
        | .next t =>
          t.flag .trunkCollision && decide (t.trunk.port = .passive) &&
            (match exec (.trunkBreak [(false, 1)]) t with
              | .next u => decide (u.trunk.port = .header)
              | _ => false)
        | _ => false) = true := by decide +kernel

theorem witness_DownlinkCaptureTaken :
    let e := entryOf .downlink 7#10 0#2 9#10
    let held := { e with storePolicy := .hold }
    let s := withActive 3 e State.reset
    let full := (withActive 3 held State.reset).setPendingMark 3 true
    let t := (withActive 3 e taking).setPort (.capture (.downlink 3 e) 1#8 2#8)
    t.trunk.port = .capture (.downlink 3 e) 1#8 2#8 ∧ [1#8, 2#8].length = e.bytes ∧
      ¬ SameIdentity { e with channel := 8#10 } (s.activeEntry 3) ∧ SameIdentity e (s.activeEntry 3) ∧
      (s.activeEntry 3).storePolicy ≠ .hold ∧ SameIdentity held (full.activeEntry 3) ∧
      (full.activeEntry 3).storePolicy = .hold ∧ (full.record 3).pending = true ∧
      0#8 ≠ checkByte 1#8 2#8 (0x01#8 :: 1#8 :: (ops []).toList) ∧
      (taking.hearTrunk [(false, 160), (true, 1)]).2 = [.character (.framing 0#8)] := by decide +kernel

/-- The lines of DownlinkCaptureTaken and StreamWriteJudged: any characters are heard, with a good check byte behind
them or another. -/
theorem witness_capture_lines (data : List Byte) (check : Byte) :
    (data.length ≤ 16 →
      taking.hearCapture data.length (charactersWave (data ++ [check])) =
        (Receiver.atRest, goodCharacters (data ++ [check]))) ∧
      taking.hearTrunk (charactersWave data) = (Receiver.atRest, goodCharacters data) :=
  ⟨fun h => hearCapture_charactersWave _ _ _ rfl (by
    have e : taking.trunk.sinceH1 = 0 := rfl
    simp only [replyWindow, List.length_append, List.length_singleton, e]
    omega), heard_trunk _ _ rfl⟩

/-- The reply window of a publication of 2 data bytes, 90 bit times (R11): a check byte that ends with it is in time, or
too late if the window is taken first; nothing ends the reception before; one sixteenth later it is too late. -/
theorem test_window_of_a_capture :
    let e := entryOf .downlink 7#10 0#2 9#10
    let s := (withActive 3 e taking).setPort (.capture (.downlink 3 e) 1#8 2#8)
    let reply := charactersWave [0x11#8, 0x22#8, checkByte 1#8 2#8 [0x11#8, 0x22#8]]
    s.captureVerdict 1#8 2#8 2 false ((true, 960) :: reply) = some .success ∧
      s.captureVerdict 1#8 2#8 2 true ((true, 960) :: reply) = some .shortReply ∧
      s.captureVerdict 1#8 2#8 2 true ((true, 959) :: reply) = some .success ∧
      s.captureVerdict 1#8 2#8 2 false ((true, 961) :: reply) = some .shortReply ∧
      s.captureVerdict 1#8 2#8 2 false [(true, 1439)] = none ∧
      s.captureVerdict 1#8 2#8 2 false [(true, 1440)] = some .noReply ∧
      s.captureVerdict 1#8 2#8 2 false [(true, 1439), (false, 1)] = some .shortReply := by decide +kernel

def entryBytes (index : Byte) : Vector Byte 16 :=
  #v[0x20#8, 0#8, 0#8, 0#8, 0#8, 0#8, 0#8, 0#8, 0#8, 0x01#8, index, 0#8, 0#8, 0#8, 0#8, 0#8]

theorem witness_StreamWriteJudged :
    let s := State.reset.setPort (.capture .streamWrite 1#8 2#8)
    let last := s.mapRoute fun r => { r with writeIndex := 63 }
    let after := s.mapRoute fun r => { r with writeIndex := 64 }
    s.power = .running ∧ s.trunk.port = .capture .streamWrite 1#8 2#8 ∧ s.route.writeIndex.val = (0 : EntryIndex).val ∧
      (entryBytes 0#8)[10].toNat = (0 : EntryIndex).val ∧ last.route.writeIndex.val = (63 : EntryIndex).val ∧
      (entryBytes 63#8)[10].toNat = (63 : EntryIndex).val ∧
      decodeEntry ((entryBytes 0#8).toList.take 10) = some clearedEntry ∧ ¬ EditHeld s ∧
      after.route.writeIndex.val = 64 ∧ (entryBytes 1#8)[10].toNat ≠ s.route.writeIndex.val ∧
      decodeEntry (((entryBytes 0#8).set 9 0#8).toList.take 10) = none ∧
      EditHeld (s.mapRoute fun r => { r with commitPending := true }) := by decide +kernel

/-! ## Witnesses: COMMAND records and the route table -/

theorem witness_RecordRefusedWhileSlotHeld (line : Wave) :
    (Instr.nop 1#8 ⟨ops [], line⟩).wellFormed = true ∧
      recordOfCommand (.nop 1#8 ⟨ops [], line⟩) = some (0x01#8, 1#8, ⟨ops [], line⟩) ∧
      RefusesRecord (holding 0x15#8 taking) 0x01#8 ∧
      recordOfCommand (.resetBranch 1#8 ⟨ops [], line⟩ {}) = some (0x42#8, 1#8, ⟨ops [], line⟩) ∧
      RefusesRecord (holding 0x60#8 taking) 0x42#8 ∧
      HearsRecord (holding 0x15#8 taking) 0x01#8 1#8 (ops [])
        (recordWave (holding 0x15#8 taking) 0x01#8 1#8 (ops [])) (holding 0x15#8 taking) :=
  ⟨rfl, rfl, ⟨by decide +kernel, by decide +kernel, ⟨_, rfl, by decide +kernel⟩⟩,
    rfl, ⟨by decide +kernel, by decide +kernel, ⟨_, rfl, by decide +kernel⟩⟩,
    hearsRecord_recordWave _ _ _ _ rfl (by decide +kernel)⟩

theorem witness_AgentCommandsExecute : AcceptsRecord taking ∧ isCommandCode 0x00#8 = false := by decide +kernel

theorem witness_SetPointersSetsAllFive :
    AcceptsRecord taking ∧ (ops [1#8, 63#8, 64#8, 63#8, 1#8])[1].toNat = (63 : EntryIndex).val ∧
      (ops [1#8, 63#8, 64#8, 63#8, 1#8])[2].toNat = (64 : Fin 65).val ∧ 1 < (ops [2#8])[0].toNat ∧
      63 < (ops [0#8, 64#8])[1].toNat ∧ 64 < (ops [0#8, 0#8, 65#8])[2].toNat ∧
      63 < (ops [0#8, 0#8, 0#8, 64#8])[3].toNat ∧ 1 < (ops [0#8, 0#8, 0#8, 0#8, 2#8])[4].toNat := by decide +kernel

/-- Operands out of range, just beyond the bound, for the BAD_OPERAND clauses of EditCommandsChangeEditBank,
WriteRecordCaptures, FlushEmptiesRecords, QueueCommandsExecute, WithdrawReports and SetLineWritesSixSettings. -/
theorem witness_operands_out_of_range :
    AcceptsRecord taking ∧ 63 < (ops [64#8])[0].toNat ∧ decodeEntry (((ops []).toList.drop 1).take 10) = none ∧
      15 < (ops [16#8])[0].toNat ∧ 1023 < ((ops [0#8, 0#8, 4#8])[2] ++ (ops [0#8, 0#8, 4#8])[1] : Word16).toNat ∧
      2 < (ops [0#8, 3#8])[1].toNat ∧ (ops [254#8])[0].toNat < 255 ∧ (ops [0#8])[0].toNat = 0 ∧
      250 < (ops [251#8])[0].toNat ∧ 3 < (ops [4#8])[0].toNat ∧ 20 < (ops [0#8, 0#8, 0#8, 1#8, 21#8])[4].toNat := by
  decide +kernel

theorem witness_EditCommandsChangeEditBank :
    let o := ops [63#8, 0x20#8, 0#8, 0#8, 0#8, 0#8, 0#8, 0#8, 0#8, 0#8, 0x01#8]
    let m := ops [15#8, 0xFF#8, 0x03#8]
    AcceptsRecord taking ∧ o[0].toNat = (63 : EntryIndex).val ∧
      decodeEntry ((o.toList.drop 1).take 10) = some clearedEntry ∧ m[0].toNat = (15 : GroupIndex).val ∧
      (m[2] ++ m[1] : Word16).toNat = (1023#10 : Channel).toNat ∧ ¬ EditHeld taking ∧
      AcceptsRecord (withStore .loading taking) ∧ EditHeld (withStore .loading taking) := by decide +kernel

theorem witness_ValidationFindsFirstOffence :
    clearedBank.validate 0#3 = none ∧
      (bankWith 63 { entryOf .cached 1#10 0#2 1#10 with masked := true } clearedBank).validate 0#3 = some (63, 1#8) ∧
      (bankWith 0 { entryOf .blocked 1#10 0#2 1#10 with demand := true } clearedBank).validate 0#3 = some (0, 2#8) ∧
      (bankWith 0 { entryOf .relayed 1#10 0#2 1#10 with masked := true, fallback := true } clearedBank).validate 0#3 =
        some (0, 3#8) ∧
      (bankWith 0 { entryOf .cached 1#10 0#2 1#10 with fallback := true } clearedBank).validate 0#3 = some (0, 4#8) ∧
      (bankWith 0 (entryOf .downlink 1#10 0#2 1023#10) clearedBank).validate 0#3 = some (0, 5#8) ∧
      (bankWith 0 (entryOf .localData 960#10 0#2 1#10) clearedBank).validate 0#3 = some (0, 6#8) := by decide +kernel

theorem witness_CommitDecides :
    let bad := withEdit 0 (entryOf .localData 960#10 0#2 1#10) taking
    AcceptsRecord taking ∧ AcceptsRecord bad ∧
      bad.route.editContents.validate bad.agent.unit = some (0, 6#8) ∧
      taking.route.editContents.validate taking.agent.unit = none ∧
      (withStore (.saving contents 0#16) taking).config.store.isSaving = true ∧
      ¬ (taking.config.store.isSaving = true ∨ taking.config.store = .loading) ∧
      (inState (.header (txn .sleep))).link.state.inTransaction = true ∧ AcceptsRecord (inState (.header (txn .sleep))) ∧
      taking.link.state.inTransaction = false := by decide +kernel

/-! ## Witnesses: record store and scheduler -/

theorem witness_WriteRecordCaptures :
    let whole := withActive 63 (entryOf .localData 7#10 2#2 9#10) taking
    let halves := withActive 63 (entryOf .localData 7#10 3#2 9#10) taking
    let staged := halves.mapStore fun st => { st with staging := some { index := 63, bytes := [1#8] } }
    AcceptsRecord whole ∧ (ops [63#8])[0].toNat = (63 : EntryIndex).val ∧ (ops [63#8, 2#8])[1].toNat ≤ 2 ∧
      (taking.activeEntry 63).keepsRecord = false ∧ (whole.activeEntry 63).keepsRecord = true ∧
      (ops [63#8])[1] = 0#8 ∧ (whole.activeEntry 63).length ≠ 3#2 ∧ (ops [63#8, 1#8])[1] = 1#8 ∧
      (ops [63#8, 2#8])[1] = 2#8 ∧ AcceptsRecord halves ∧ (halves.activeEntry 63).keepsRecord = true ∧
      (halves.activeEntry 63).length = 3#2 ∧ halves.store.staging = none ∧ AcceptsRecord staged ∧
      staged.store.staging = some { index := 63, bytes := [1#8] } := by decide +kernel

theorem witness_FlushEmptiesRecords :
    AcceptsRecord taking ∧ (ops [63#8])[0].toNat = (63 : EntryIndex).val ∧ (ops [0xFF#8])[0] = 0xFF#8 := by
  decide +kernel

theorem witness_TickDoesItsParts :
    let e := { entryOf .cached 7#10 0#2 9#10 with refresh := 1#8 }
    let due := withActive 63 e State.reset
    State.reset.power = .running ∧ due.link.state ≠ .asleep ∧ due.link.state ≠ .quarantine ∧
      (due.activeEntry 63).valid = true ∧ (due.activeEntry 63).refresh ≠ 0#8 ∧ (due.countdown 63).toNat ≤ 1 ∧
      (inState .asleep).link.state = .asleep ∧ (inState .quarantine).link.line.policy = .auto ∧
      (inState .quarantine).link.sampling = false ∧ (inState .wakeSettle).link.settle.toNat ≤ 1 ∧
      1 < ((inState .wakeSettle).mapLink fun c => { c with settle := 2#8 }).link.settle.toNat ∧
      (holding 0x51#8 (inState .wakeSettle)).slotHeldBy 0x51#8 = true ∧
      (inState (.gap 0#2)).link.state ≠ .wakeSettle := by decide +kernel

theorem witness_ExpiriesTakenAlone :
    let due := withActive 63 { entryOf .cached 7#10 0#2 9#10 with refresh := 255#8 } State.reset
    due.power = .running ∧ (due.activeEntry 63).valid = true ∧ (due.activeEntry 63).refresh ≠ 0#8 ∧
      (due.countdown 63).toNat ≤ 1 ∧ (inState .wakeSettle).link.state = .wakeSettle ∧
      (inState .wakeSettle).link.settle.toNat ≤ 1 ∧
      (holding 0x51#8 (inState .wakeSettle)).agent.slot = some { code := 0x51#8, tag := 7#8 } ∧
      (inState .wakeSettle).slotHeldBy 0x51#8 = false ∧ (inState .quarantine).link.state = .quarantine ∧
      (inState .quarantine).link.line.policy = .auto ∧ (inState .quarantine).link.sampling = false ∧
      (inState .quarantine).link.hold.toNat ≤ 1 := by decide +kernel

theorem witness_RequestJudgedInOrder :
    ((inState .quarantine).link.state = .quarantine ∧ Origin.manual ≠ .periodic) ∧
      (∃ it ∈ (withQueue [item 3 .refresh 0#2] [] taking).sched.queue, it.entry = 3) ∧
      (∃ d ∈ (withQueue fullQueue [deferredOf 20] taking).sched.deferred, d.entry = 20) ∧
      (∀ it ∈ (withQueue fullQueue [deferredOf 20] taking).sched.queue, it.entry ≠ 20) ∧
      taking.sched.queue.length < 16 ∧ 16 ≤ (withQueue fullQueue [] taking).sched.queue.length ∧
      (withQueue (fullQueue.drop 1) [] taking).sched.queue.length = 15 := by decide +kernel

/-- A commit that refills: sixteen items purged with their entries, two deferred elements kept. -/
theorem witness_CommitApplied :
    let e := entryOf .downlink 7#10 0#2 9#10
    let s := withQueue fullQueue [deferredOf 20, deferredOf 30] (withEdit 20 e (withActive 20 e taking))
    (∀ it ∈ s.sched.queue, ¬ (it.op.fits (s.route.editContents.entry it.entry) = true)) ∧
      SameIdentity (s.activeEntry 20) (s.route.editContents.entry 20) ∧
      s.applyCommit.sched.queue =
        [{ entry := 20, op := .publish, origin := .manual, cls := 0#2, seq := 0#16 }] ∧
      s.applyCommit.sched.deferred = [] ∧ s.applyCommit.sched.seqCounter = 1#16 := by decide +kernel

theorem witness_IdleLinkTakesDueItem :
    let q := [item 9 .refresh 1#2, item 4 .publish 3#2, item 2 .refresh 3#2]
    let byIndex := (withQueue q [] taking).mapSched fun x => { x with order := .index }
    (withQueue q [] taking).link.state = .idle ∧ (withQueue q [] taking).sched.Wf ∧
      (withQueue q [] taking).sched.offer = some (item 4 .publish 3#2) ∧ byIndex.sched.Wf ∧
      byIndex.sched.offer = some (item 2 .refresh 3#2) ∧ (inState .asleep).link.state ≠ .idle ∧
      taking.sched.queue = [] := by decide +kernel

theorem witness_DepartureRefillsQueue :
    (withQueue fullQueue [deferredOf 20, deferredOf 30] taking).sched.Wf ∧
      item 0 .refresh 0#2 ∈ (withQueue fullQueue [deferredOf 20, deferredOf 30] taking).sched.queue ∧
      (withQueue fullQueue [] taking).sched.Wf ∧ (withQueue fullQueue [] taking).sched.deferred = [] ∧
      ∀ it ∈ (withQueue fullQueue [deferredOf 20, deferredOf 30] taking).sched.queue, it.entry ≠ 20 := by decide +kernel

theorem witness_ReOfferInIndexOrder :
    let due := fun i => { entryOf .downlink (BitVec.ofNat 10 i) 0#2 9#10 with priority := 2#2 }
    let all := (List.finRange 17).foldl
      (fun s k => (withActive ⟨k.val, by omega⟩ (due k.val) s).setRecord ⟨k.val, by omega⟩
        { freshRecord [1#8, 2#8] with pending := true }) taking
    all.link.state ≠ .quarantine ∧ all.sched.queue = [] ∧ all.sched.deferred = [] ∧
      ((List.finRange 64).filter fun i => (all.activeEntry i).takesPublish && (all.record i).pending).length = 17 ∧
      all.reOffer.flag .queueFull = true ∧ all.reOffer.sched.seqCounter = 16#16 := by decide +kernel

theorem witness_QueueCommandsExecute :
    let s := withActive 63 (entryOf .cached 7#10 0#2 9#10) taking
    AcceptsRecord s ∧ (ops [63#8])[0].toNat = (63 : EntryIndex).val ∧ (s.activeEntry 63).valid = true ∧
      (s.activeEntry 63).kind = .cached ∧ (taking.activeEntry 63).valid = false ∧ (ops [1#8])[0] = 1#8 ∧
      1 ≤ (ops [250#8])[0].toNat ∧ (ops [250#8])[0].toNat ≤ 250 := by decide +kernel

theorem witness_WithdrawReports :
    let full := withQueue fullQueue [deferredOf 20] taking
    let flying := fun op => (inState (.header (txn op)))
    AcceptsRecord full ∧ full.sched.Wf ∧ item 0 .refresh 0#2 ∈ full.sched.queue ∧ deferredOf 20 ∈ full.sched.deferred ∧
      (∀ it ∈ full.sched.queue, it.entry ≠ 63) ∧ (∀ d ∈ full.sched.deferred, d.entry ≠ 63) ∧
      (flying (.refresh 63 .manual)).link.state.transaction = some (txn (.refresh 63 .manual)) ∧
      (flying (.publish 63 .retry 0#8 [])).link.state.transaction = some (txn (.publish 63 .retry 0#8 [])) ∧
      (flying (.relay 63)).link.state.transaction = some (txn (.relay 63)) ∧
      AcceptsRecord (flying (.relay 63)) ∧ (flying (.relay 63)).sched.Wf ∧
      (ops [63#8])[0].toNat = (63 : EntryIndex).val := by decide +kernel

/-! ## Witnesses: branch link controller -/

theorem witness_HeaderSentLeavesHeader :
    ∀ op ∈ [TransactionOp.refresh 63 .demand, .relay 63, .publish 63 .retry 0#8 [], .sleep],
      (inState (.header (txn op))).power = .running ∧ (inState (.header (txn op))).link.state = .header (txn op) ∧
        (inState (.header (txn op))).link.mode = .normal ∧ ReadsBack (txn op).headerSent {} :=
  fun _ _ => ⟨rfl, rfl, rfl, readsBack_default _⟩

theorem witness_LineEventsTakeOutcome :
    let t := txn (.refresh 63 .demand)
    let inLoop := (inMode .loopback (inState (.replyWait t))).mapLink fun c =>
      { c with responder := some [1#8, 2#8, 3#8, 4#8] }
    let relay := relaying (.stillOpen 0#8 []) false (.forward none [] false)
    (inState (.header t)).link.mode = .normal ∧ (inState (.dataOut t)).link.state = .dataOut t ∧
      Transmission.differsAt differingLine t.headerSent = some 0 ∧
      Transmission.differsAt differsInH0 t.headerSent = some (t.breakLength.bits + 2) ∧
      Transmission.differsAt differingLine (charactersLevels (txn .sleep).published) = some 0 ∧
      (inState (.replyWait t)).link.state = .replyWait t ∧ [1#8, 2#8, 3#8, 4#8].length = dataBytes t.length ∧
      inLoop.link.mode = .loopback ∧ inLoop.link.responder = some [1#8, 2#8, 3#8, 4#8] ∧
      relay.link.relay = some (idleContext (.stillOpen 0#8 []) false) ∧
      relay.link.state = .replyWait (txn (.relay 5)) ∧
      ({ idleContext .ended false with received := [1#8, 2#8, 3#8, 4#8] } : RelayContext).received.length =
        (idleContext .ended false).entry.bytes ∧
      (taking.hearReply 4 [(false, 160), (true, 6)]).2 = [.character (.framing 0#8)] ∧
      WindowOver 4 0 [(true, 1888)] ∧ ¬ WindowOver 4 0 [(true, 1887)] ∧ taking.link.sinceH1 = 0 ∧
      HearsEarly taking 4 [(true, 1734), (false, 154)] [] ∧
      (taking.hearBranch [(false, 10)]).1.midCharacter = true ∧ Receiver.atRest.midCharacter = false := by
  decide +kernel

/-- The lines of LineEventsTakeOutcome and RelayedCharactersReachTrunk: characters that fit into the reply window are
all heard as reply characters on the branch, and every transmission reads back as sent on a line that follows it. -/
theorem witness_branch_lines (n : Nat) (data : List Byte) (h : 160 * data.length ≤ 16 * replyWindow n) :
    taking.hearReply n (charactersWave data) = (Receiver.atRest, goodCharacters data) ∧
      ReadsBack (charactersLevels data) {} := by
  refine ⟨?_, readsBack_default _⟩
  have e : withinWindow n taking.link.sinceH1 (charactersWave data) = sixteenths (charactersLevels data) := by
    rw [withinWindow, List.take_of_length_le, levels_charactersWave]
    rw [length_levels_charactersWave]
    exact h
  rw [State.hearReply, e, Receiver.hearReply, if_neg (by decide +kernel)]
  exact Receiver.hear_characters .branch data

/-- Replies on the branch and their window of 118 bit times for 4 data bytes (R10, R11): the chapter's example of a reply
that runs out of time; the window at its end, and not before; a character begun 20 sixteenths before the end of H1 is no
reply character (log 28). -/
theorem test_window_of_a_reply :
    let t := txn (.refresh 63 .demand)
    let s := inState (.replyWait t)
    let late := (true, 80) :: [1#8, 2#8, 3#8, 4#8, 5#8].flatMap fun b => characterWave b ++ [(true, 320)]
    let outcome := fun (u : State) line first => (u.refreshReception t ⟨line, first⟩).map fun e => e.outcome
    let stray := s.setBranchReceiver (s.link.receiver.hear .branch [(false, 20)]).1
    outcome s late false = some .shortReply ∧ outcome s [(true, 1888)] false = some .noReply ∧
      outcome s [] false = none ∧ outcome s [(true, 1887)] true = none ∧
      outcome s [(true, 1800), (false, 88)] false = some .shortReply ∧
      outcome s [(true, 1728), (false, 160)] true = some .framing ∧
      outcome s [(true, 1734), (false, 154)] true = some .shortReply ∧
      outcome s [(true, 1734), (false, 154)] false = some .framing ∧
      (stray.hearBranch [(false, 20), (true, 1868)]).2 = [.character (.good 0xFE#8)] ∧
      outcome stray [(false, 20), (true, 1868)] false = some .noReply := by decide +kernel

theorem witness_OutcomeMovesScoreAndState :
    ((withScore 112#8 (inState (.header (txn .sleep)))).takeOutcome (txn .sleep) [] .lineFault).link.score = 128#8 ∧
      ((withScore 111#8 (inState (.header (txn .sleep)))).takeOutcome (txn .sleep) [] .lineFault).link.score = 127#8 ∧
      ((withScore 250#8 (inState (.header (txn .sleep)))).takeOutcome (txn .sleep) [] .lineFault).link.score = 255#8 ∧
      ((inState (.header (txn .sleep))).takeOutcome (txn .sleep) [] .success).link.score = 0#8 ∧
      ((holding 0x15#8 taking).mapRoute fun r => { r with commitPending := true }).route.commitPending = true ∧
      (holding 0x15#8 taking).agent.slot = some { code := 0x15#8, tag := 7#8 } ∧ (txn .sleep).op = .sleep ∧
      (holding 0x50#8 (inState (.header (txn .sleep)))).agent.slot = some { code := 0x50#8, tag := 7#8 } ∧
      (inState (.header (txn .sleep))).link.state ≠ .quarantine ∧
      (inState (.header (txn .sleep))).route.commitPending = false := by decide +kernel

theorem witness_RefreshOutcomeOnRecord :
    let e := { entryOf .cached 7#10 1#2 9#10 with storePolicy := .hold, silentLimit := 1#4 }
    let s := (withActive 5 e (inState (.replyWait (txn (.refresh 5 .manual))))).setRecord 5
      (freshRecord [1#8, 2#8, 3#8, 4#8])
    s.route.commitPending = false ∧ (s.activeEntry 5).storePolicy = .hold ∧ (s.record 5).state = .fresh ∧
      (s.record 5).served = 0#8 ∧ (s.activeEntry 5).silentLimit ≤ satSucc (s.record 5).fails ∧
      (taking.activeEntry 5).storePolicy ≠ .hold := by decide +kernel

theorem witness_PublishOutcomeOnRecord :
    let t := txn (.publish 5 .downlink 0#8 [1#8, 2#8, 3#8, 4#8])
    let s := (withActive 5 { entryOf .downlink 7#10 1#2 9#10 with silentLimit := 1#4 } (inState (.dataOut t))).setRecord 5
      { freshRecord [1#8, 2#8, 3#8, 4#8] with pending := true }
    s.link.state.transaction = some t ∧ s.route.commitPending = false ∧ (s.record 5).pending = true ∧
      (s.activeEntry 5).silentLimit ≤ satSucc (s.record 5).fails ∧
      (let r := { s.record 5 with version := 1#8 };
        ((s.setRecord 5 r).takeOutcome t [] .success).record 5 = r ∧
          ((s.setRecord 5 r).takeOutcome t [] .success).link.state ≠ .quarantine) := by decide +kernel

theorem witness_RelayOutcomeOnBothSides :
    let s := relaying (.stillOpen 9#8 []) false (.forward none [] false)
    s.link.relay = some (idleContext (.stillOpen 9#8 []) false) ∧ s.route.commitPending = false ∧
      (idleContext (.stillOpen 9#8 []) false).entry.masked = false ∧ (idleContext .ended true).entry.masked = true ∧
      (idleContext .ended true).trunkSide = .ended ∧ s.trunk.port = .forward none [] false ∧
      (relaying (.stillOpen 9#8 []) true (.forward (some (.data 1#8)) [.data 2#8] false)).trunk.port =
        .forward (some (.data 1#8)) [.data 2#8] false ∧
      (idleContext (.stillOpen 9#8 [.data 1#8]) false).trunkSide = .stillOpen 9#8 [.data 1#8] ∧
      (s.activeEntry 5).storePolicy ≠ .hold := by decide +kernel

theorem witness_GapEndBeginsWork :
    let s := inState (.gap 3#2)
    s.power = .running ∧ s.link.state = .gap 3#2 ∧ s.link.sleepFramePending = false ∧ s.slotHeldBy 0x51#8 = false ∧
      (s.mapLink fun c => { c with sleepFramePending := true }).link.sleepFramePending = true ∧
      (holding 0x51#8 s).agent.slot = some { code := 0x51#8, tag := 7#8 } := by decide +kernel

theorem witness_QuarantineReleased :
    AcceptsRecord (inState .quarantine) ∧ (inState .quarantine).link.state = .quarantine ∧
      taking.link.state ≠ .quarantine ∧
      ((inState .quarantine).mapLink fun c => { c with sampling := true }).link.sampling = true := by decide +kernel

theorem witness_SetLineWritesSixSettings :
    let o := ops [3#8, 1#8, 1#8, 255#8, 20#8, 255#8]
    let l : LineSettings :=
      { rate := 3#2, breakLength := .bits17, policy := .hold, qhold := 255#8, wakeLen := 20#8, settleLen := 255#8 }
    AcceptsRecord taking ∧ o[0].toNat = l.rate.toNat ∧ o[3] = l.qhold ∧ o[4] = l.wakeLen ∧ o[5] = l.settleLen ∧
      l.qhold ≠ 0#8 ∧ 1 ≤ l.wakeLen.toNat ∧ l.wakeLen.toNat ≤ 20 ∧ l.settleLen ≠ 0#8 ∧
      (inState (.dataOut (txn .sleep))).link.state.inTransaction = true ∧ AcceptsRecord (inState .quarantine) ∧
      (inState .quarantine).link.state.inTransaction = false ∧
      (inState .quarantine).link.line.policy ≠ l.policy := by decide +kernel

theorem slotInv_of_all {s : State}
    (h1 : s.agent.slot.all (fun sl => decide (s.agent.result.code = sl.code ∧ s.agent.result.tag = sl.tag ∧
      s.agent.result.outcome = .pending ∧ sl.code ∈ [0x15#8, 0x50#8, 0x51#8, 0x60#8, 0x61#8])) = true)
    (h2 : (s.agent.slot = none → s.agent.result.outcome ≠ .pending) ∧
      (s.slotHeldBy 0x15#8 = true ↔ s.route.commitPending = true) ∧
      (s.slotHeldBy 0x60#8 = true ↔ s.config.store.isSaving = true) ∧
      (s.slotHeldBy 0x61#8 = true ↔ s.config.store = .loading) ∧
      (s.route.commitPending = true → s.link.state.inTransaction = true)) : SlotInv s :=
  ⟨forall_mem_of_all h1, h2⟩

theorem witness_ResetBranchReturnsLink :
    taking.power = .running ∧ taking.trunk.port.capturesCommand = true ∧ SlotInv taking ∧
      SlotInv (holding 0x50#8 (inState .asleep)) ∧ SlotInv (holding 0x51#8 (inState .wakeSettle)) ∧
      SlotInv ((holding 0x15#8 (inState (.header (txn (.refresh 5 .manual))))).mapRoute fun r =>
        { r with commitPending := true }) ∧
      (∃ asleep steps, (inState (.wakeOut true 4#8 2#2)).link.state = .wakeOut asleep steps 2#2) ∧
      (∃ x, (inState (.header (txn .sleep))).link.state.transaction = some x ∧ x.rate = 1#2) ∧
      (inState (.header (txn .sleep))).link.state.inTransaction = true ∧
      (inState .asleep).link.state.inTransaction = false :=
  ⟨by decide +kernel, by decide +kernel, slotInv_of_all (by decide +kernel) (by decide +kernel),
    slotInv_of_all (by decide +kernel) (by decide +kernel), slotInv_of_all (by decide +kernel) (by decide +kernel),
    slotInv_of_all (by decide +kernel) (by decide +kernel), ⟨_, _, rfl⟩, ⟨_, rfl, rfl⟩, rfl, rfl⟩

/-! ## Witnesses: sleep, wake, loopback, store, relays -/

theorem witness_SleepBranchByState :
    (∀ l ∈ [LinkState.idle, .gap 0#2, .header (txn .sleep), .asleep, .quarantine, .wakeSettle],
      AcceptsRecord (inState l) ∧ (inState l).link.mode = .normal ∧ (inState l).link.state = l) ∧
      (inMode .loopback taking).link.mode = .loopback ∧ AcceptsRecord (inMode .loopback taking) := by decide +kernel

theorem witness_WakeBranchAndItsPulse :
    (∀ l ∈ [LinkState.asleep, .idle, .wakeSettle, .header (txn .sleep), .gap 0#2, .quarantine],
      AcceptsRecord (inState l) ∧ (inState l).link.mode = .normal ∧ (inState l).link.state = l) ∧
      ∀ score ∈ [0#8, 111#8, 112#8, 127#8], ∀ b : Bool,
        let s := holding 0x51#8 (withScore score (inState (.wakeOut b 20#8 3#2)))
        s.power = .running ∧ s.link.state = .wakeOut b 20#8 3#2 ∧ s.link.mode = .normal ∧ s.link.score.toNat < 128 ∧
          s.agent.slot = some { code := 0x51#8, tag := 7#8 } ∧
          Transmission.completes { during := [(false, 320)] } (pulseLevels 20#8) = true ∧
          Transmission.differsAt { during := [(false, 304), (true, 10)] } (pulseLevels 20#8) = some 19 := by
  decide +kernel

/-- For every line of a transmission some receiver has heard it, and for every line of a pulse. -/
theorem witness_HearsFrame_HearsPulse (s : State) (before : Wave) (during : List Bool) :
    (∃ r, HearsFrame s s.link.branchRate (Wave.levels before) during r) ∧
      ∃ r low, HearsPulse s s.link.branchRate (Wave.levels before) during r low :=
  ⟨⟨_, (hearsFrame_iff s _ _ _ _ rfl).2 rfl⟩, _, _, (hearsPulse_iff s _ before during _ _ rfl).2 rfl⟩

/-- A new branch rate waits for the next transaction (R3, R125). At 19200 bit/s a low is a wake from 47 sixteenths of a
bit time on, at 9600 bit/s from 24 on: after a write of rate code 0 in IDLE, and before the header of the transaction
begun at it, it is still 47; behind that header, with the gap begun, 24. A load in HEADER changes nothing of that. -/
theorem test_new_rate_waits_for_transaction :
    let slow := { defaultLine with rate := 0#2 }
    let written := (inState .idle).writeLine slow
    let begun := written.setLinkState (.header { txn (.refresh 5 .manual) with rate := 0#2 })
    let loaded := (inState (.header (txn (.refresh 5 .manual)))).applyLoad { contents with line := slow }
    let gap := match exec (.branchLineFault) begun with
      | .next t => t
      | _ => State.reset
    (written.hearsWake [(true, 5)] 46 = false ∧ written.hearsWake [(true, 5)] 47 = true) ∧
      (begun.noWakeBefore { before := [(true, 5), (false, 46), (true, 1)] } = true ∧
        begun.noWakeBefore { before := [(true, 5), (false, 47), (true, 1)] } = false) ∧
      (loaded.noWakeBefore { before := [(true, 5), (false, 46), (true, 1)] } = true ∧
        loaded.link.branchRate = 1#2 ∧ loaded.link.line.rate = 0#2) ∧
      gap.link.state = .gap 0#2 ∧ gap.hearsWake [(true, 5)] 23 = false ∧ gap.hearsWake [(true, 5)] 24 = true := by
  decide +kernel

/-- No character is split between two rates (R3): one that a node has under way when a transaction begins at another
rate is given up (log 29), and goes on where the rate is the same. -/
theorem test_character_not_split_between_rates :
    let t := { txn (.refresh 5 .manual) with rate := 0#2 }
    let heard := fun written => ((inState (.header t)).mapLink fun c => { c with receiverRate := written }).hearFrame
      [false, false] [false]
    (heard 1#2).link.receiver.phase = .waiting ∧ (heard 0#2).link.receiver.phase = .character 3 [] := by
  decide +kernel

/-- In WAKE_OUT the branch receiver goes on receiving (R112): at 9600 bit/s one step of 250 µs is 2.4 bit times, so 39
sixteenths of a bit time begin in it, of which the start bit and the first data bit are sampled whole. -/
theorem test_pulse_is_received :
    answers (.wakePulseEnd { before := [(true, 32)] })
        ((inState (.wakeOut false 1#8 0#2)).mapLink fun c => { c with line := { c.line with rate := 0#2 } })
        ((inState (.gap 0#2)).mapLink fun c =>
          { c with
            line := { c.line with rate := 0#2 }
            receiverRate := 0#2
            receiver := { high := false, lasted := 39, phase := .character 39 (List.replicate 6 false) } }) = true := by
  decide +kernel

/-- Lows of 150 µs to 10 ms at 19200 bit/s last 47 to 3072 sixteenths of a bit time; at 9600 bit/s, 24 to 1536 (R18). -/
theorem test_wake_lengths :
    (∀ low ∈ [47, 3072], WakeLong (low * sixteenthLength 1#2)) ∧
      (∀ low ∈ [46, 3073], ¬ WakeLong (low * sixteenthLength 1#2)) ∧
      (∀ low ∈ [24, 1536], WakeLong (low * sixteenthLength 0#2)) ∧
      ∀ low ∈ [23, 1537], ¬ WakeLong (low * sixteenthLength 0#2) := by decide +kernel

/-- A low that a node begins in ASLEEP 10 sixteenths before the relay's pulse, and that ends behind it, is a wake if its
whole length is that of one: at 19200 bit/s the pulse of 1 ms takes 308 sixteenths, so 2754 more make 10 ms (R145). A low
that begins in the pulse is none. -/
theorem test_wake_across_pulse :
    let pulsed := fun before => match exec (.wakePulseEnd { before := before }) (inState (.wakeOut true 4#8 1#2)) with
      | .next t => t
      | _ => State.reset
    (pulsed [(true, 8), (false, 10)]).link.state = .wakeSettle ∧
      (pulsed [(true, 8), (false, 10)]).hearsWake [] 0 = true ∧
      (pulsed [(true, 8), (false, 10)]).hearsWake [] 2754 = true ∧
      (pulsed [(true, 8), (false, 10)]).hearsWake [] 2755 = false ∧ (pulsed [(true, 8)]).hearsWake [] 60 = false := by
  decide +kernel

theorem wakeOn_of_wakesOn {s : State} {levels : List Bool} (h : s.wakesOn levels = true) : WakeOn s levels :=
  ((State.wakesOn_iff s levels).1 h).2

theorem not_wakeOn_of_wakesOn {s : State} {levels : List Bool} (h : s.link.mode = .normal ∧ s.wakesOn levels = false) :
    ¬ WakeOn s levels := fun hw => by
  rw [(State.wakesOn_iff s levels).2 ⟨h.1, hw⟩] at h
  exact absurd h.2 (by simp)

theorem witness_NodeWakeByState :
    (∀ l ∈ [LinkState.asleep, .wakeSettle, .idle, .gap 0#2, .quarantine, .header (txn .sleep), .wakeOut true 1#8 1#2],
        (inState l).power = .running ∧ (inState l).link.mode = .normal ∧ (inState l).link.state = l) ∧
      WakeLong (47 * 6) ∧ LowOutside taking (Wave.levels [(true, 5)] ++ List.replicate 47 false) (47 * 6) ∧
      ¬ WakeOn taking (Wave.levels [(true, 5)]) ∧
      ¬ WakeOn taking (Wave.levels ([(true, 5)] ++ [(false, 46), (true, 1)])) ∧
      WakeOn taking (Wave.levels [(true, 5), (false, 47), (true, 2)]) :=
  ⟨by decide +kernel, by decide +kernel, (State.lowOutside_eq_some_iff _ _ _).1 (by decide +kernel),
    not_wakeOn_of_wakesOn (by decide +kernel), not_wakeOn_of_wakesOn (by decide +kernel),
    wakeOn_of_wakesOn (by decide +kernel)⟩

/-- A low that a node began while the relay was sending is no wake, however long it goes on (R18): here the rest of it
lasts 60 sixteenths behind a publication's bit error. The same low, begun in the gap, is one. -/
theorem test_low_begun_in_frame_is_no_wake :
    let t := txn (.publish 5 .downlink 0#8 [0xFF#8, 2#8, 3#8, 4#8])
    let after := State.setLinkState (.gap 1#2) ((inState (.dataOut t)).cutOnBranch
      { during := [(false, 16), (true, 10), (false, 16)] } 1)
    let cut := (inState (.dataOut t)).cutOnBranch { during := [(false, 16), (true, 8), (false, 2)] } 1
    cut.link.receiver.high = false ∧
      (State.setLinkState (.gap 1#2) cut).hearsWake [] 60 = false ∧
      after.hearsWake [] 60 = true ∧ (inState .asleep).hearsWake [] 60 = true := by
  decide +kernel

/-- A start finds a low on the branch that has no beginning: it is no wake (log 19). -/
theorem test_low_at_start_is_no_wake : State.reset.hearsWake [] 60 = false := by decide +kernel

theorem witness_LoopbackEntryAndExit :
    let key := fun k => taking.mapAgent fun g => { g with keyState := k }
    AcceptsRecord (key .key1) ∧ (key .key1).agent.keyState = .key1 ∧ AcceptsRecord (key .key2) ∧
      (key .key2).agent.keyState = .key2 ∧ (key .key2).link.state = .idle ∧ (key .key2).sched.queue = [] ∧
      (ops [0x3C#8])[0] = 0x3C#8 ∧ (ops [0xC3#8])[0] = 0xC3#8 ∧ (ops [0x5A#8])[0] = 0x5A#8 ∧
      AcceptsRecord (inMode .loopback (inState (.gap 0#2))) ∧ AcceptsRecord (inMode .loopback (inState .idle)) ∧
      (inMode .loopback (inState (.dataOut (txn .sleep)))).link.state.inTransaction = true := by decide +kernel

theorem witness_SaveConfigAndItsCompletion :
    let s := holding 0x60#8 (withStore (.saving contents 3#16) taking)
    AcceptsRecord taking ∧ ¬ EditHeld taking ∧ EditHeld (withStore .loading taking) ∧ s.power = .running ∧
      s.config.store = .saving contents 3#16 ∧ s.agent.slot = some { code := 0x60#8, tag := 7#8 } := by decide +kernel

theorem witness_LoadReplacesEditBank :
    let s := holding 0x61#8 (withStore .loading (taking.mapConfig fun c => { c with image := .written contents 5#16 }))
    AcceptsRecord taking ∧ ¬ EditHeld taking ∧ taking.config.store = .invalid ∧ AcceptsRecord (withStore .valid taking) ∧
      ¬ EditHeld (withStore .valid taking) ∧ EditHeld (withStore .loading taking) ∧ s.power = .running ∧
      s.config.store = .loading ∧ s.config.image = .written contents 5#16 ∧
      s.agent.slot = some { code := 0x61#8, tag := 7#8 } := by decide +kernel

theorem witness_RelayedCharactersReachTrunk :
    let s := relaying (.stillOpen 9#8 [.data 1#8]) false (.forward none [] false)
    let busy := relaying (.stillOpen 9#8 [.data 1#8]) false (.forward (some (.data 3#8)) [.data 2#8] false)
    let inLoop := (inMode .loopback s).mapLink fun c => { c with responder := some [1#8, 2#8, 3#8, 4#8] }
    s.power = .running ∧ s.link.state = .replyWait (txn (.relay 5)) ∧
      s.link.relay = some (idleContext (.stillOpen 9#8 [.data 1#8]) false) ∧
      (idleContext (.stillOpen 9#8 [.data 1#8]) false).received.length <
        (idleContext (.stillOpen 9#8 [.data 1#8]) false).entry.bytes ∧
      s.link.mode = .normal ∧ inLoop.link.mode = .loopback ∧ inLoop.link.responder = some [1#8, 2#8, 3#8, 4#8] ∧
      s.trunk.port = .forward none [] false ∧ busy.trunk.port = .forward (some (.data 3#8)) [.data 2#8] false ∧
      (relaying (.stillOpen 9#8 []) false (.forward (some (.check 1#8)) [] true)).trunk.port =
        .forward (some (.check 1#8)) [] true ∧
      (taking.collidesOnTrunk [3#8] differingLine).isSome = true ∧
      (taking.hearReply 4 (characterWave 1#8)).2 = [.character (.good 1#8)] := by decide +kernel

/-- A character handed while another is being sent waits, and is begun when that one ends (R61). -/
theorem test_handed_character_waits :
    let relay := fun held port => relaying (.stillOpen 9#8 held) false port
    answers (.forwardCharacterHandoff) (relay [.data 1#8] (.forward (some (.data 3#8)) [] false))
        (relay [] (.forward (some (.data 3#8)) [.data 1#8] false)) = true ∧
      answers (.forwardedCharacterFinished) (relay [] (.forward (some (.data 3#8)) [.data 1#8] false))
        (relay [] (.forward (some (.data 1#8)) [] false)) = true := by decide +kernel

/-! ## Witnesses: invariants -/

/-- A relay at work: a CACHED entry in flight, a DOWNLINK entry with PENDING queued behind it, and a tick to come. -/
def atWork : State :=
  let s := withActive 5 (entryOf .cached 290#10 1#2 40#10)
    (withActive 6 (entryOf .downlink 291#10 0#2 41#10) (inState (.replyWait (txn (.refresh 5 .manual)))))
  ((withQueue [item 6 .publish 0#2] [] s).setRecord 6 { freshRecord [1#8, 2#8] with pending := true }).setPending [.tick]

theorem witness_StepKeepsQueueWellFormed : atWork.sched.Wf ∧ atWork.pending = [.tick] := by decide +kernel

theorem witness_StepKeepsSlotAndResult : SlotInv atWork ∧ atWork.pending = [.tick] :=
  ⟨slotInv_of_all (by decide +kernel) (by decide +kernel), by decide +kernel⟩

theorem encodable_atWork : EncodableInv atWork :=
  ⟨by decide +kernel, by decide +kernel, forall_mem_of_all (by decide +kernel), forall_mem_of_all (by decide +kernel)⟩

theorem witness_StepKeepsEntriesEncodable : EncodableInv atWork ∧ atWork.pending = [.tick] :=
  ⟨encodable_atWork, by decide +kernel⟩

theorem witness_StepKeepsPendingPublicationsOwed : Inv atWork ∧ ∃ t, step atWork = .next t :=
  ⟨⟨by decide +kernel, by decide +kernel, by decide +kernel, witness_StepKeepsSlotAndResult.1, encodable_atWork,
    ⟨by decide +kernel, by decide +kernel, forall_mem_of_all (by decide +kernel), forall_mem_of_all (by decide +kernel)⟩,
    ⟨by decide +kernel, by decide +kernel, by decide +kernel, forall_mem_of_all (by decide +kernel),
      forall_mem_of_all (by decide +kernel), by decide +kernel⟩,
    fun _ i h => Or.inl ((by decide +kernel :
      ∀ i : EntryIndex, (atWork.record i).pending = true → atWork.sched.queued i = true) i h)⟩, ⟨_, rfl⟩⟩

end Sys2Proof.Tests
end

/-! PROOFS. Route table and banks (chapter 2): how a COMMAND record that is executed answers, what the operand readers
make of operand bytes, the lookup of R33 to R36, and the commands SET_POINTERS, WRITE_ENTRY, WRITE_MASK, COPY_ACTIVE,
CLEAR_EDIT and COMMIT. -/

namespace Sys2Proof.Machine

/-! ## A COMMAND record that is executed (R152, R155) -/

theorem AcceptsRecord.refusesRecord {s : State} (h : AcceptsRecord s) (code : Byte) : s.refusesRecord code = false := by
  obtain ⟨-, -, hslot⟩ := h
  simp [State.refusesRecord, hslot]

/-- An outcome other than PENDING leaves the slot alone (R152, step 4). -/
theorem State.recordAnswer_receiveRecord {code tag : Byte} {a : Answer} (h : a.outcome ≠ .pending) (s : State) :
    s.receiveRecord.recordAnswer code tag a = executed code tag a.outcome a.data s := by
  simp only [State.recordAnswer, if_neg h]
  rfl

theorem State.recordAnswer_receiveRecord_pending (code tag : Byte) (s : State) :
    s.receiveRecord.recordAnswer code tag (Answer.plain .pending) = executedPending code tag s :=
  rfl

/-- A COMMAND row whose record is accepted answers what its owner does on the received record, with the owner's answer
in RESULT. -/
theorem recordAnswers_of_owner {code tag : Byte} {ops : Operands} {row : HeardOperands → Instr}
    {owner : State → State × Answer} {s t : State} {a : Answer} (hs : AcceptsRecord s)
    (hrow : ∀ line u, exec (row ⟨ops, line⟩) u = .next (takeCommand code tag ⟨ops, line⟩ owner u))
    (howner : owner s.receiveRecord = (t, a)) : RecordAnswers code tag ops row s (t.recordAnswer code tag a) := by
  intro line u heard
  have ⟨hrun, hport⟩ : u.power = .running ∧ u.trunk.port.capturesCommand = true := by
    obtain ⟨hrun, hport, -⟩ := hs
    obtain ⟨r, -, rfl⟩ := heard
    exact ⟨hrun, hport⟩
  rw [hrow, takeCommand, takeCommandThen_heard hrun hport heard, takeRecord, hs.refusesRecord, howner]
  rfl

/-- The owner's change does not touch what receiving the record touches, and its outcome is final. -/
theorem recordAnswers_executed {code tag : Byte} {ops : Operands} {row : HeardOperands → Instr}
    {owner : State → State × Answer} {s t : State} {a : Answer} (hs : AcceptsRecord s)
    (hrow : ∀ line u, exec (row ⟨ops, line⟩) u = .next (takeCommand code tag ⟨ops, line⟩ owner u))
    (howner : owner s.receiveRecord = (t.receiveRecord, a)) (ha : a.outcome ≠ .pending) :
    RecordAnswers code tag ops row s (executed code tag a.outcome a.data t) := by
  rw [← State.recordAnswer_receiveRecord ha]
  exact recordAnswers_of_owner hs hrow howner

theorem recordAnswers_executedPending {code tag : Byte} {ops : Operands} {row : HeardOperands → Instr}
    {owner : State → State × Answer} {s t : State} (hs : AcceptsRecord s)
    (hrow : ∀ line u, exec (row ⟨ops, line⟩) u = .next (takeCommand code tag ⟨ops, line⟩ owner u))
    (howner : owner s.receiveRecord = (t.receiveRecord, Answer.plain .pending)) :
    RecordAnswers code tag ops row s (executedPending code tag t) := by
  rw [← State.recordAnswer_receiveRecord_pending]
  exact recordAnswers_of_owner hs hrow howner

/-! ## What the six rows hand to the agent -/

theorem exec_setPointers (tag : Byte) (ops : Operands) (line : Wave) (u : State) :
    exec (.setPointers tag ⟨ops, line⟩) u =
      .next (takeCommand 0x10#8 tag ⟨ops, line⟩
        (withOperand (pointerOperands ops) fun p t => (t.setPointers p, Answer.plain .done)) u) :=
  rfl

theorem exec_writeEntry (tag : Byte) (ops : Operands) (line : Wave) (u : State) :
    exec (.writeEntry tag ⟨ops, line⟩) u =
      .next (takeCommand 0x11#8 tag ⟨ops, line⟩
        (withOperand (entryOperands ops) fun x => editCommand (State.setEditEntry x.1 x.2)) u) :=
  rfl

theorem exec_writeMask (tag : Byte) (ops : Operands) (line : Wave) (u : State) :
    exec (.writeMask tag ⟨ops, line⟩) u =
      .next (takeCommand 0x12#8 tag ⟨ops, line⟩
        (withOperand (maskOperands ops) fun x => editCommand (State.setEditMask x.1 x.2)) u) :=
  rfl

theorem exec_copyActive (tag : Byte) (ops : Operands) (line : Wave) (u : State) :
    exec (.copyActive tag ⟨ops, line⟩) u =
      .next (takeCommand 0x13#8 tag ⟨ops, line⟩
        (editCommand (State.mapRoute fun r => r.setEdit r.activeContents)) u) :=
  rfl

theorem exec_clearEdit (tag : Byte) (ops : Operands) (line : Wave) (u : State) :
    exec (.clearEdit tag ⟨ops, line⟩) u =
      .next (takeCommand 0x14#8 tag ⟨ops, line⟩ (editCommand (State.mapRoute (RouteTable.setEdit clearedBank))) u) :=
  rfl

theorem exec_commit (tag : Byte) (ops : Operands) (line : Wave) (u : State) :
    exec (.commit tag ⟨ops, line⟩) u = .next (takeCommand 0x15#8 tag ⟨ops, line⟩ commitOwner u) :=
  rfl

/-! ## Owners that read operands -/

theorem withOperand_some {α : Type} {operand : Option α} {x : α} (h : operand = some x)
    (owner : α → State → State × Answer) (s : State) : withOperand operand owner s = owner x s := by
  rw [h, withOperand]

theorem withOperand_none {α : Type} {operand : Option α} (h : operand = none)
    (owner : α → State → State × Answer) (s : State) :
    withOperand operand owner s = (s, Answer.plain .badOperand) := by
  rw [h, withOperand]

/-! ## Operand bytes (R175) -/

/-- The operand bytes are numbered from byte 2 of the record. -/
theorem opByte_eq_getElem (ops : Operands) (k : Nat) (h : k < 14) : opByte ops (k + 2) = ops[k] := by
  simp [opByte, List.getD_eq_getElem?_getD, h]

theorem opBytes_eq_take_drop (ops : Operands) (k n : Nat) (h : k + n ≤ 14) :
    opBytes ops (k + 2) n = (ops.toList.drop k).take n := by
  apply List.ext_getElem
  · simp [opBytes]
    omega
  · intro j hj _
    have hj' : j < n := by simpa [opBytes] using hj
    simp [opBytes, Nat.add_right_comm k 2 j, opByte_eq_getElem ops (k + j) (by omega)]

theorem opWord_eq_append (ops : Operands) (k : Nat) (h : k + 1 < 14) : opWord ops (k + 2) = ops[k + 1] ++ ops[k] := by
  rw [opWord, opByte_eq_getElem ops k (by omega), Nat.add_right_comm, opByte_eq_getElem ops (k + 1) h, word16Of]

theorem entryIndex?_eq_some {b : Byte} {i : EntryIndex} (h : b.toNat = i.val) : entryIndex? b = some i := by
  simp [entryIndex?, h]

theorem entryIndex?_eq_none {b : Byte} (h : 63 < b.toNat) : entryIndex? b = none :=
  dif_neg (by omega)

theorem groupIndex?_eq_some {b : Byte} {g : GroupIndex} (h : b.toNat = g.val) : groupIndex? b = some g := by
  simp [groupIndex?, h]

theorem groupIndex?_eq_none {b : Byte} (h : 15 < b.toNat) : groupIndex? b = none :=
  dif_neg (by omega)

theorem channel?_eq_some {w : Word16} {c : Channel} (h : w.toNat = c.toNat) : channel? w = some c := by
  have hw : w.setWidth 10 = c := BitVec.eq_of_toNat_eq (by simp [h, Nat.mod_eq_of_lt c.isLt])
  rw [channel?, if_pos (by omega), hw]

theorem channel?_eq_none {w : Word16} (h : 1023 < w.toNat) : channel? w = none :=
  if_neg (by omega)

theorem writeIndex?_eq_some {b : Byte} {w : Fin 65} (h : b.toNat = w.val) : writeIndex? b = some w := by
  simp [writeIndex?, h]

theorem writeIndex?_eq_none {b : Byte} (h : 64 < b.toNat) : writeIndex? b = none :=
  dif_neg (by omega)

theorem roleOfCode_eq_none {b : Byte} (h : 1 < b.toNat) : roleOfCode b = none := by
  have h0 : b ≠ 0#8 := by rintro rfl; simp at h
  have h1 : b ≠ 1#8 := by rintro rfl; simp at h
  rw [roleOfCode, if_neg h0, if_neg h1]

theorem halfOfCode_eq_none {b : Byte} (h : 1 < b.toNat) : halfOfCode b = none := by
  have h0 : b ≠ 0#8 := by rintro rfl; simp at h
  have h1 : b ≠ 1#8 := by rintro rfl; simp at h
  rw [halfOfCode, if_neg h0, if_neg h1]

/-! ## Lookup (R33 to R36) -/

theorem inOwnBlock_iff (unit : BitVec 3) (c : Channel) :
    inOwnBlock unit c = true ↔ 960 + 8 * unit.toNat ≤ c.toNat ∧ c.toNat ≤ 967 + 8 * unit.toNat := by
  rw [inOwnBlock, Bool.and_eq_true, decide_eq_true_iff, decide_eq_true_iff, blockBase]
  omega

theorem ManagementChannel.lengthCode_eq (k : ManagementChannel) :
    k.lengthCode = if k = .status ∨ k = .ident then 2#2 else 3#2 := by
  cases k <;> rfl

theorem Bank.covers_iff (b : Bank) (i : EntryIndex) (c : Channel) :
    (b.entry i).covers (b.maskFor i) c = true ↔ b.Matches i c := by
  cases hm : (b.entry i).masked <;> simp [Entry.covers, Bank.Matches, hm]

/-- The search ends at the lowest index that matches (R34). -/
theorem Bank.firstMatch_eq_some {b : Bank} {c : Channel} {i : EntryIndex} (hi : b.Matches i c)
    (hj : ∀ j < i, ¬ b.Matches j c) : b.firstMatch c = some i := by
  rw [Bank.firstMatch, entryIndices, List.find?_eq_some_iff_getElem]
  refine ⟨(b.covers_iff i c).2 hi, i.val, by simp, by simp, fun k hk => ?_⟩
  have hne := hj ⟨k, hk.trans i.isLt⟩ hk
  simpa [← b.covers_iff] using hne

theorem Bank.firstMatch_eq_none {b : Bank} {c : Channel} (h : ∀ i, ¬ b.Matches i c) : b.firstMatch c = none := by
  rw [Bank.firstMatch, List.find?_eq_none]
  intro i _
  rw [b.covers_iff]
  exact h i

theorem State.lookup_own {s : State} {c : Channel} (h : inOwnBlock s.agent.unit c = true) (l : LengthCode) :
    s.lookup c l =
      if l = (managementChannel (c.toNat - blockBase s.agent.unit)).lengthCode then
        .management (managementChannel (c.toNat - blockBase s.agent.unit))
      else .ownMismatch := by
  simp only [State.lookup, if_pos h]

theorem State.lookup_unrouted {s : State} {c : Channel} (h : ¬ inOwnBlock s.agent.unit c = true)
    (hn : s.route.activeContents.firstMatch c = none) (l : LengthCode) : s.lookup c l = .unrouted := by
  simp only [State.lookup, if_neg h, hn]

theorem State.lookup_entry {s : State} {c : Channel} {i : EntryIndex} (h : ¬ inOwnBlock s.agent.unit c = true)
    (hi : s.route.activeContents.firstMatch c = some i) (l : LengthCode) :
    s.lookup c l =
      if (s.activeEntry i).length = l then
        .entry i (s.activeEntry i) (s.route.activeContents.maskFor i)
          ((s.activeEntry i).relayChannel (s.route.activeContents.maskFor i) c)
      else .entryMismatch i := by
  simp only [State.lookup, if_neg h, hi]
  rfl

/-- Settles O16: the branches of the lookup, the search of the active bank being `Bank.firstMatch`. -/
theorem lookupFindsFirstMatch : Obligations.LookupFindsFirstMatch := by
  unfold Obligations.LookupFindsFirstMatch
  intro c l s
  refine ⟨fun own => ?_, fun notOwn => ?_, by decide⟩
  · rw [State.lookup_own ((inOwnBlock_iff _ _).2 own), ManagementChannel.lengthCode_eq]
    rfl
  · rw [← inOwnBlock_iff] at notOwn
    refine ⟨fun i hi hfirst => ?_, fun hnone => ?_⟩
    · rw [State.lookup_entry notOwn (Bank.firstMatch_eq_some hi hfirst)]
      exact ⟨fun hl => if_pos hl, fun hl => if_neg hl⟩
    · exact State.lookup_unrouted notOwn (Bank.firstMatch_eq_none hnone) l

/-! ## SET_POINTERS (R24) -/

/-- All five operands in range (R24). -/
theorem pointerOperands_eq_some {ops : Operands} {p : PointerOperands} (hbank : roleOfCode ops[0] = some p.bank)
    (hread : entryIndex? ops[1] = some p.readIndex) (hwrite : writeIndex? ops[2] = some p.writeIndex)
    (hrecord : entryIndex? ops[3] = some p.recordIndex) (hhalf : halfOfCode ops[4] = some p.recordHalf) :
    pointerOperands ops = some p := by
  rw [pointerOperands, opByte_eq_getElem ops 0 (by omega), opByte_eq_getElem ops 1 (by omega),
    opByte_eq_getElem ops 2 (by omega), opByte_eq_getElem ops 3 (by omega), opByte_eq_getElem ops 4 (by omega),
    hbank, hread, hwrite, hrecord, hhalf]

/-- One operand out of range is enough (R24). -/
theorem pointerOperands_eq_none {ops : Operands}
    (h : 1 < ops[0].toNat ∨ 63 < ops[1].toNat ∨ 64 < ops[2].toNat ∨ 63 < ops[3].toNat ∨ 1 < ops[4].toNat) :
    pointerOperands ops = none := by
  rw [pointerOperands, opByte_eq_getElem ops 0 (by omega), opByte_eq_getElem ops 1 (by omega),
    opByte_eq_getElem ops 2 (by omega), opByte_eq_getElem ops 3 (by omega), opByte_eq_getElem ops 4 (by omega)]
  obtain h | h | h | h | h := h
  · rw [roleOfCode_eq_none h]
  · simp [entryIndex?_eq_none h]
  · simp [writeIndex?_eq_none h]
  · simp [entryIndex?_eq_none h]
  · simp [halfOfCode_eq_none h]

/-- Settles O24: the operands are read before anything changes (`pointerOperands`). -/
theorem setPointersSetsAllFive : Obligations.SetPointersSetsAllFive := by
  unfold Obligations.SetPointersSetsAllFive
  intro tag ops s hs
  refine ⟨fun bank i w r half hbank hi hw hr hhalf => ?_, fun hbad => ?_⟩
  · have hrole : roleOfCode ops[0] = some bank := by rw [hbank]; cases bank <;> rfl
    have hcode : halfOfCode ops[4] = some half := by rw [hhalf]; cases half <;> rfl
    have hops : pointerOperands ops = some ⟨bank, i, w, r, half⟩ :=
      pointerOperands_eq_some hrole (entryIndex?_eq_some hi) (writeIndex?_eq_some hw) (entryIndex?_eq_some hr) hcode
    exact recordAnswers_executed (t := s.setPointers ⟨bank, i, w, r, half⟩) (a := Answer.plain .done) hs
      (exec_setPointers tag ops) (withOperand_some hops _ _) (by decide)
  · exact recordAnswers_executed (a := Answer.plain .badOperand) hs (exec_setPointers tag ops)
      (withOperand_none (pointerOperands_eq_none hbad) _ _) (by decide)

/-! ## The edit bank (R25 to R29) -/

theorem StoreState.isBusy_iff (st : StoreState) : st.isBusy = true ↔ st.isSaving = true ∨ st = .loading := by
  cases st <;> simp [StoreState.isBusy, StoreState.isSaving]

theorem State.editHeld_iff (s : State) : s.editHeld = true ↔ EditHeld s := by
  rw [State.editHeld, Bool.or_eq_true, StoreState.isBusy_iff]

theorem State.editHeld_receiveRecord (s : State) : s.receiveRecord.editHeld = s.editHeld := by
  simp [State.editHeld]

theorem editCommand_held {s : State} (h : EditHeld s) (change : State → State) :
    editCommand change s.receiveRecord = (s.receiveRecord, Answer.plain .busy) := by
  rw [editCommand, State.editHeld_receiveRecord, if_pos (s.editHeld_iff.2 h)]

theorem editCommand_free {s : State} (h : ¬ EditHeld s) (change : State → State) :
    editCommand change s.receiveRecord = (change s.receiveRecord, Answer.plain .done) := by
  rw [editCommand, State.editHeld_receiveRecord, if_neg (mt s.editHeld_iff.1 h)]

/-- An edit command with good operands, or with none to check, while the edit bank is held (R25). -/
theorem recordAnswers_edit_held {code tag : Byte} {ops : Operands} {row : HeardOperands → Instr}
    {owner : State → State × Answer} {change : State → State} {s : State} (hs : AcceptsRecord s)
    (hrow : ∀ line u, exec (row ⟨ops, line⟩) u = .next (takeCommand code tag ⟨ops, line⟩ owner u))
    (howner : ∀ u, owner u = editCommand change u) (h : EditHeld s) :
    RecordAnswers code tag ops row s (executed code tag .busy [] s) :=
  recordAnswers_executed (a := Answer.plain .busy) hs hrow ((howner _).trans (editCommand_held h change)) (by decide)

/-- The same while the edit bank is not held: the change alone, with DONE (R25). -/
theorem recordAnswers_edit_free {code tag : Byte} {ops : Operands} {row : HeardOperands → Instr}
    {owner : State → State × Answer} {change : State → State} {s : State} (hs : AcceptsRecord s)
    (hrow : ∀ line u, exec (row ⟨ops, line⟩) u = .next (takeCommand code tag ⟨ops, line⟩ owner u))
    (howner : ∀ u, owner u = editCommand change u) (hchange : change s.receiveRecord = (change s).receiveRecord)
    (h : ¬ EditHeld s) : RecordAnswers code tag ops row s (executed code tag .done [] (change s)) :=
  recordAnswers_executed (a := Answer.plain .done) hs hrow
    ((howner _).trans ((editCommand_free h change).trans (by rw [hchange]))) (by decide)

theorem entryOperands_eq (ops : Operands) :
    entryOperands ops =
      (entryIndex? ops[0]).bind fun i => (decodeEntry ((ops.toList.drop 1).take 10)).map fun e => (i, e) := by
  rw [entryOperands, opByte_eq_getElem ops 0 (by omega), opBytes_eq_take_drop ops 1 10 (by omega)]
  cases entryIndex? ops[0] <;> cases decodeEntry ((ops.toList.drop 1).take 10) <;> rfl

theorem maskOperands_eq (ops : Operands) :
    maskOperands ops = (groupIndex? ops[0]).bind fun g => (channel? (ops[2] ++ ops[1])).map fun m => (g, m) := by
  rw [maskOperands, opByte_eq_getElem ops 0 (by omega), opWord_eq_append ops 1 (by omega)]
  cases groupIndex? ops[0] <;> cases channel? (ops[2] ++ ops[1]) <;> rfl

theorem entryOperands_eq_none {ops : Operands}
    (h : 63 < ops[0].toNat ∨ decodeEntry ((ops.toList.drop 1).take 10) = none) : entryOperands ops = none := by
  rw [entryOperands_eq]
  obtain h | h := h
  · rw [entryIndex?_eq_none h, Option.bind_none]
  · rw [h]
    cases entryIndex? ops[0] <;> rfl

theorem maskOperands_eq_none {ops : Operands}
    (h : 15 < ops[0].toNat ∨ 1023 < (ops[2] ++ ops[1] : Word16).toNat) : maskOperands ops = none := by
  rw [maskOperands_eq]
  obtain h | h := h
  · rw [groupIndex?_eq_none h, Option.bind_none]
  · simp [channel?_eq_none h]

theorem clearedBank_isCleared : clearedBank.IsCleared :=
  ⟨fun i => by simp [Bank.entry, clearedBank, clearedEntry, Vector.get_eq_getElem],
    fun i => by simp [Bank.maskFor, clearedBank, Vector.get_eq_getElem]⟩

/-- Settles O25: each of the four is an `editCommand` that maps the route table, behind its operand check. -/
theorem editCommandsChangeEditBank : Obligations.EditCommandsChangeEditBank := by
  unfold Obligations.EditCommandsChangeEditBank
  intro tag ops i e g m s hs
  refine ⟨fun hi he => ?writeEntry, fun hg hm => ?writeMask, fun free => ?free, fun held => ?held,
    fun bad => ?badEntry, fun bad => ?badMask⟩
  case writeEntry =>
    have hops : entryOperands ops = some (i, e) := by
      rw [entryOperands_eq, entryIndex?_eq_some hi, he, Option.bind_some, Option.map_some]
    have howner := withOperand_some hops fun x => editCommand (State.setEditEntry x.1 x.2)
    exact ⟨recordAnswers_edit_free hs (exec_writeEntry tag ops) howner rfl,
      recordAnswers_edit_held hs (exec_writeEntry tag ops) howner⟩
  case writeMask =>
    have hops : maskOperands ops = some (g, m) := by
      rw [maskOperands_eq, groupIndex?_eq_some hg, channel?_eq_some hm, Option.bind_some, Option.map_some]
    have howner := withOperand_some hops fun x => editCommand (State.setEditMask x.1 x.2)
    exact ⟨recordAnswers_edit_free hs (exec_writeMask tag ops) howner rfl,
      recordAnswers_edit_held hs (exec_writeMask tag ops) howner⟩
  case free =>
    exact ⟨recordAnswers_edit_free hs (exec_copyActive tag ops) (fun _ => rfl) rfl free, clearedBank,
      clearedBank_isCleared, recordAnswers_edit_free hs (exec_clearEdit tag ops) (fun _ => rfl) rfl free⟩
  case held =>
    exact ⟨recordAnswers_edit_held hs (exec_copyActive tag ops) (fun _ => rfl) held,
      recordAnswers_edit_held hs (exec_clearEdit tag ops) (fun _ => rfl) held⟩
  case badEntry =>
    exact recordAnswers_executed (a := Answer.plain .badOperand) hs (exec_writeEntry tag ops)
      (withOperand_none (entryOperands_eq_none bad) _ _) (by decide)
  case badMask =>
    exact recordAnswers_executed (a := Answer.plain .badOperand) hs (exec_writeMask tag ops)
      (withOperand_none (maskOperands_eq_none bad) _ _) (by decide)

/-! ## COMMIT (R38) -/

/-- Applying a commit touches neither the port nor the agent. -/
theorem State.applyCommit_receiveRecord (s : State) : s.receiveRecord.applyCommit = s.applyCommit.receiveRecord := by
  have hrecords : ∀ t : State,
      t.receiveRecord.recordsAtCommit s.route.activeContents =
        (t.recordsAtCommit s.route.activeContents).receiveRecord :=
    fun t => t.mapRecords_receiveRecord _
  have hsched : ∀ t : State,
      t.receiveRecord.schedAtCommit s.route.activeContents =
        (t.schedAtCommit s.route.activeContents).receiveRecord := fun _ => rfl
  rw [State.applyCommit, State.applyCommit, ← hsched, ← hrecords]
  rfl

/-- The result data of COMMIT with DONE (R41, R176). -/
theorem State.applyCommit_commitData (s : State) :
    s.applyCommit.commitData = s.route.activeBank.other.code :: word16Bytes (s.route.commitCount + 1#16) :=
  rfl

theorem commitOwner_offends {s : State} {i : EntryIndex} {r : Byte}
    (h : s.route.editContents.validate s.agent.unit = some (i, r)) :
    commitOwner s.receiveRecord =
      (s.receiveRecord, { outcome := .badTable, data := [BitVec.ofNat 8 i.val, r] }) := by
  simp [commitOwner, h]

/-- COMMIT on an edit bank that passes validation: the last three steps of R38. -/
theorem commitOwner_valid {s : State} (h : s.route.editContents.validate s.agent.unit = none) :
    commitOwner s.receiveRecord =
      if s.config.store.isBusy then (s.receiveRecord, Answer.plain .busy)
      else if s.link.state.inTransaction then
        ((s.mapRoute fun r => { r with commitPending := true }).receiveRecord, Answer.plain .pending)
      else (s.applyCommit.receiveRecord, { outcome := .done, data := s.applyCommit.commitData }) := by
  have hdata : s.applyCommit.receiveRecord.commitData = s.applyCommit.commitData := rfl
  simp only [commitOwner, State.receiveRecord_route, State.receiveRecord_agent_unit, h, State.receiveRecord_config,
    State.receiveRecord_link, State.applyCommit_receiveRecord, hdata]
  rfl

/-- Settles O27: the four steps of R38, as `commitOwner` takes them on the received record. -/
theorem commitDecides : Obligations.CommitDecides := by
  unfold Obligations.CommitDecides
  intro tag ops s hs
  refine ⟨fun i r offends => ?badTable, fun valid => ⟨fun busy => ?busy, fun notBusy =>
    ⟨fun inTransaction => ?pending, fun notInTransaction => ?done⟩⟩⟩
  case badTable =>
    exact recordAnswers_executed hs (exec_commit tag ops) (commitOwner_offends offends) nofun
  case busy =>
    have howner := commitOwner_valid valid
    rw [if_pos ((StoreState.isBusy_iff _).2 busy)] at howner
    exact recordAnswers_executed hs (exec_commit tag ops) howner nofun
  case pending =>
    have howner := commitOwner_valid valid
    rw [if_neg (mt (StoreState.isBusy_iff _).1 notBusy), if_pos inTransaction] at howner
    exact recordAnswers_executedPending hs (exec_commit tag ops) howner
  case done =>
    have howner := commitOwner_valid valid
    rw [if_neg (mt (StoreState.isBusy_iff _).1 notBusy), if_neg (by simp [notInTransaction]),
      State.applyCommit_commitData] at howner
    have hcode : s.route.activeBank.other.code = match s.route.activeBank with | .a => 1#8 | .b => 0#8 := by
      cases s.route.activeBank <;> rfl
    rw [hcode] at howner
    exact recordAnswers_executed hs (exec_commit tag ops) howner nofun

end Sys2Proof.Machine

/-! PROOFS. Branch queue and poll scheduler (chapter 5): how a request is judged (R92), and the command WITHDRAW (R102). -/

namespace Sys2Proof.Machine

/-! ## Where an entry's work stands (R90, R91) -/

theorem Scheduler.queued_iff {q : Scheduler} {e : EntryIndex} : q.queued e = true ↔ ∃ it ∈ q.queue, it.entry = e := by
  simp [Scheduler.queued]

theorem Scheduler.isDeferred_iff {q : Scheduler} {e : EntryIndex} :
    q.isDeferred e = true ↔ ∃ d ∈ q.deferred, d.entry = e := by
  simp [Scheduler.isDeferred]

/-- Where no two elements of a list have the same key, a search by key finds the one that is there. -/
theorem find?_eq_some_of_nodup_map {α β : Type} [DecidableEq β] {key : α → β} {l : List α} {x : α} {e : β}
    (hnodup : (l.map key).Nodup) (hx : x ∈ l) (he : key x = e) : (l.find? fun y => key y == e) = some x := by
  obtain ⟨y, hy⟩ : ∃ y, (l.find? fun y => key y == e) = some y :=
    Option.isSome_iff_exists.1 (List.find?_isSome.2 ⟨x, hx, beq_iff_eq.2 he⟩)
  obtain ⟨hkey, -⟩ := List.find?_eq_some_iff_append.1 hy
  rw [hy, List.inj_on_of_nodup_map hnodup (List.mem_of_find?_eq_some hy) hx ((beq_iff_eq.1 hkey).trans he.symm)]

theorem Scheduler.itemFor_eq_some {q : Scheduler} {it : QueueItem} {e : EntryIndex} (hwf : q.Wf) (hit : it ∈ q.queue)
    (he : it.entry = e) : q.itemFor e = some it := by
  obtain ⟨-, hnodup, -⟩ := hwf
  exact find?_eq_some_of_nodup_map hnodup hit he

theorem Scheduler.itemFor_eq_none {q : Scheduler} {e : EntryIndex} (h : ∀ it ∈ q.queue, it.entry ≠ e) :
    q.itemFor e = none := by
  simpa [Scheduler.itemFor] using h

theorem Scheduler.elementFor_eq_some {q : Scheduler} {d : DeferredElement} {e : EntryIndex} (hwf : q.Wf)
    (hd : d ∈ q.deferred) (he : d.entry = e) : q.elementFor e = some d := by
  obtain ⟨-, -, hascending, -⟩ := hwf
  exact find?_eq_some_of_nodup_map (hascending.imp fun h => ne_of_lt h) hd he

theorem Scheduler.elementFor_eq_none {q : Scheduler} {e : EntryIndex} (h : ∀ d ∈ q.deferred, d.entry ≠ e) :
    q.elementFor e = none := by
  simpa [Scheduler.elementFor] using h

/-! ## The step of R92 that decides a request -/

theorem LinkState.isQuarantine_iff {l : LinkState} : l.isQuarantine = true ↔ l = .quarantine := by
  cases l <;> simp [LinkState.isQuarantine]

theorem State.disposition_eq_dropped {s : State} {origin : Origin} (e : EntryIndex)
    (h : s.link.state = .quarantine ∧ origin ≠ .periodic) : s.disposition e origin = .dropped := by
  rw [State.disposition, if_pos (by rwa [LinkState.isQuarantine_iff])]

/-- Past step 1 the queue and the deferred set decide. -/
theorem State.disposition_of_kept {s : State} {origin : Origin} (e : EntryIndex)
    (h : ¬ (s.link.state = .quarantine ∧ origin ≠ .periodic)) :
    s.disposition e origin =
      if s.sched.queued e then .merged
      else if s.sched.isDeferred e then .mergedDeferred
      else if s.sched.queue.length < 16 then .queued
      else .deferred := by
  rw [State.disposition, if_neg (by rwa [LinkState.isQuarantine_iff])]
  rfl

/-- Inserting into the deferred set leaves the others in their order. -/
theorem insertDeferred_eq_append (d : DeferredElement) (l : List DeferredElement) :
    ∃ before after, l = before ++ after ∧ insertDeferred d l = before ++ d :: after := by
  induction l with
  | nil => exact ⟨[], [], rfl, rfl⟩
  | cons x rest ih =>
    by_cases hle : d.entry ≤ x.entry
    · exact ⟨[], x :: rest, rfl, if_pos hle⟩
    · obtain ⟨before, after, hrest, hinsert⟩ := ih
      exact ⟨x :: before, after, congrArg (x :: ·) hrest, (if_neg hle).trans (congrArg (x :: ·) hinsert)⟩

/-- Settles O33: each step that does not apply is struck from the disposition in turn. -/
theorem requestJudgedInOrder : Obligations.RequestJudgedInOrder := by
  unfold Obligations.RequestJudgedInOrder
  intro e op origin s
  refine ⟨fun dropped => ?_, fun kept => ?_⟩
  · rw [State.request, State.disposition_eq_dropped e dropped]
    rfl
  have judged := State.disposition_of_kept e kept
  refine ⟨fun queued => ?_, fun notQueued => ?_⟩
  · rw [State.request, judged, if_pos (Scheduler.queued_iff.2 queued)]
    rfl
  rw [if_neg (by simpa [Scheduler.queued_iff] using notQueued)] at judged
  refine ⟨fun isDeferred => ?_, fun notDeferred => ?_⟩
  · rw [State.request, judged, if_pos (Scheduler.isDeferred_iff.2 isDeferred)]
  rw [if_neg (by simpa [Scheduler.isDeferred_iff] using notDeferred)] at judged
  refine ⟨fun room => ?_, fun full => ?_⟩
  · rw [State.request, judged, if_pos room]
    rfl
  · obtain ⟨before, after, hsplit, hinsert⟩ :=
      insertDeferred_eq_append { entry := e, op := op, origin := origin } s.sched.deferred
    refine ⟨before, after, hsplit, ?_⟩
    rw [State.request, judged, if_neg (Nat.not_lt.2 full), ← hinsert]
    rfl

/-! ## WITHDRAW (R102) -/

theorem exec_withdraw (tag : Byte) (ops : Operands) (line : Wave) (u : State) :
    exec (.withdraw tag ⟨ops, line⟩) u =
      .next (takeCommand 0x31#8 tag ⟨ops, line⟩ (withOperand (entryIndex? (opByte ops 2)) withdrawOwner) u) :=
  rfl

/-- Clearing PENDING and removing work come in either order. -/
theorem State.withdrawn_eq (e : EntryIndex) (op : QueueOp) (s : State) :
    s.withdrawn e op =
      (if op = .publish then s.setRecord e { s.record e with pending := false } else s).removeWork fun j => j == e := by
  cases op <;> rfl

theorem State.withdrawn_receiveRecord (e : EntryIndex) (op : QueueOp) (s : State) :
    s.receiveRecord.withdrawn e op = (s.withdrawn e op).receiveRecord := by
  cases op <;> rfl

theorem TransactionOp.inFlightFor_eq_none {e : EntryIndex} {op : TransactionOp} (h : op.entry? ≠ some e) :
    op.inFlightFor e = none := by
  cases op with
  | refresh j o => exact if_neg (mt (congrArg some) h)
  | publish j o v d => exact if_neg (mt (congrArg some) h)
  | relay j => exact if_neg (mt (congrArg some) h)
  | sleep => rfl

theorem withdrawOwner_item {s : State} {e : EntryIndex} {it : QueueItem} (h : s.sched.itemFor e = some it) :
    withdrawOwner e s.receiveRecord =
      ((s.withdrawn e it.op).receiveRecord,
        { outcome := .done
          data :=
            [BitVec.ofNat 8 e.val, 0#8, it.op.code, it.origin.code, it.cls.setWidth 8, lowByte it.seq,
              highByte it.seq] }) := by
  rw [withdrawOwner, State.receiveRecord_sched, h, ← State.withdrawn_receiveRecord]
  rfl

theorem withdrawOwner_element {s : State} {e : EntryIndex} {d : DeferredElement} (hqueue : s.sched.itemFor e = none)
    (h : s.sched.elementFor e = some d) :
    withdrawOwner e s.receiveRecord =
      ((s.withdrawn e d.op).receiveRecord,
        { outcome := .done, data := [BitVec.ofNat 8 e.val, 1#8, d.op.code, d.origin.code, 0#8, 0#8, 0#8] }) := by
  rw [withdrawOwner, State.receiveRecord_sched, hqueue, h, ← State.withdrawn_receiveRecord]
  rfl

theorem withdrawOwner_inFlight {s : State} {e : EntryIndex} {t : Transaction} {codes : Byte × Byte}
    (hqueue : s.sched.itemFor e = none) (hdeferred : s.sched.elementFor e = none)
    (ht : s.link.state.transaction = some t) (h : t.op.inFlightFor e = some codes) :
    withdrawOwner e s.receiveRecord =
      (s.receiveRecord, { outcome := .inFlight, data := [BitVec.ofNat 8 e.val, 0#8, codes.1, codes.2] }) := by
  rw [withdrawOwner, State.receiveRecord_sched, hqueue, hdeferred, State.receiveRecord_link, ht, Option.bind_some, h]

theorem withdrawOwner_notFound {s : State} {e : EntryIndex} (hqueue : s.sched.itemFor e = none)
    (hdeferred : s.sched.elementFor e = none) (h : ∀ t ∈ s.link.state.transaction, t.op.entry? ≠ some e) :
    withdrawOwner e s.receiveRecord =
      (s.receiveRecord, { outcome := .notFound, data := [BitVec.ofNat 8 e.val] }) := by
  have hnone : (s.link.state.transaction.bind fun t => t.op.inFlightFor e) = none :=
    Option.bind_eq_none_iff.2 fun t ht => TransactionOp.inFlightFor_eq_none (h t ht)
  rw [withdrawOwner, State.receiveRecord_sched, hqueue, hdeferred, State.receiveRecord_link, hnone]

/-- A WITHDRAW whose operand is an entry index answers what its owner does on the received record. -/
theorem recordAnswers_withdraw {tag : Byte} {ops : Operands} {e : EntryIndex} {s t : State} {a : Answer}
    (hs : AcceptsRecord s) (he : ops[0].toNat = e.val) (howner : withdrawOwner e s.receiveRecord = (t.receiveRecord, a))
    (ha : a.outcome ≠ .pending) :
    RecordAnswers 0x31#8 tag ops (.withdraw tag) s (executed 0x31#8 tag a.outcome a.data t) := by
  have hindex : entryIndex? (opByte ops 2) = some e := by
    rw [opByte_eq_getElem ops 0 (by omega), entryIndex?_eq_some he]
  exact recordAnswers_executed hs (exec_withdraw tag ops) ((withOperand_some hindex _ _).trans howner) ha

/-- Settles O38: Wf makes the item or element of an entry the one that the owner finds; otherwise the in-flight
descriptor decides. -/
theorem withdrawReports : Obligations.WithdrawReports := by
  unfold Obligations.WithdrawReports
  refine ⟨fun tag ops e s hs he hwf => ⟨fun it hit hentry => ?item, fun d hd hentry => ?element,
    fun notQueued notDeferred => ?neither⟩, fun tag ops s hs hbad => ?badOperand⟩
  case item =>
    dsimp only
    rw [← State.withdrawn_eq]
    exact recordAnswers_withdraw hs he (withdrawOwner_item (Scheduler.itemFor_eq_some hwf hit hentry)) nofun
  case element =>
    have hqueue : s.sched.itemFor e = none := by
      obtain ⟨-, -, -, hdisjoint, -⟩ := hwf
      exact Scheduler.itemFor_eq_none fun it hit => hentry ▸ hdisjoint d hd it hit
    dsimp only
    rw [← State.withdrawn_eq]
    exact recordAnswers_withdraw hs he
      (withdrawOwner_element hqueue (Scheduler.elementFor_eq_some hwf hd hentry)) nofun
  case neither =>
    have hqueue := Scheduler.itemFor_eq_none notQueued
    have hdeferred := Scheduler.elementFor_eq_none notDeferred
    have inFlight : ∀ t codes, s.link.state.transaction = some t → t.op.inFlightFor e = some codes →
        RecordAnswers 0x31#8 tag ops (.withdraw tag) s
          (executed 0x31#8 tag .inFlight [BitVec.ofNat 8 e.val, 0#8, codes.1, codes.2] s) := fun t codes ht h =>
      recordAnswers_withdraw hs he (withdrawOwner_inFlight hqueue hdeferred ht h) nofun
    refine ⟨fun t o ht hop => inFlight t (0#8, o.code) ht ?_, fun t o v d ht hop => inFlight t (1#8, o.code) ht ?_,
      fun t ht hop => inFlight t (2#8, 0#8) ht ?_, fun other => ?notFound⟩
    case notFound => exact recordAnswers_withdraw hs he (withdrawOwner_notFound hqueue hdeferred other) nofun
    all_goals rw [hop]; exact if_pos rfl
  case badOperand =>
    have hindex : entryIndex? (opByte ops 2) = none := by
      rw [opByte_eq_getElem ops 0 (by omega), entryIndex?_eq_none hbad]
    exact recordAnswers_executed (a := Answer.plain .badOperand) hs (exec_withdraw tag ops)
      (withOperand_none hindex _ _) nofun

end Sys2Proof.Machine

/-! PROOFS. Management agent (chapter 9): a COMMAND record that is refused while the pending-command slot is held
(R152, step 2, and R154). -/

namespace Sys2Proof.Machine

/-! ## The row of a COMMAND record -/

/-- Every COMMAND row hands its record to the agent, which takes it with some owner (R152, step 3) and something that
follows RESULT (a start, for RESTART; nothing otherwise). -/
theorem exec_eq_takeCommandThen {c : Instr} {code tag : Byte} {heard : HeardOperands} (hwf : c.wellFormed = true)
    (hrecord : recordOfCommand c = some (code, tag, heard)) (u : State) :
    ∃ owner after, exec c u = .next (takeCommandThen code tag heard owner after u) := by
  cases c with
  | unknownCommand code' tag' heard' =>
    have hunknown : isCommandCode code' = false := by simpa [Instr.wellFormed] using hwf
    have hexec : exec (.unknownCommand code' tag' heard') u = execUnknownCommand code' tag' heard' u := rfl
    cases hrecord
    rw [hexec, execUnknownCommand, hunknown]
    exact ⟨_, id, rfl⟩
  | restart tag' heard' straps =>
    cases hrecord
    exact ⟨_, State.restarted straps, rfl⟩
  | nop | clearFlags | clearCounters | setPointers | writeEntry | writeMask | copyActive | clearEdit | commit
  | writeRecord | flushRecord | refreshNow | withdraw | setOrder | setTick | setLine | releaseLink | resetBranch
  | sleepBranch | wakeBranch | testKey | testExit | saveConfig | loadConfig =>
    cases hrecord
    exact ⟨_, id, rfl⟩
  | _ => cases hrecord

/-- Hearing a record changes the trunk receiver alone: whether the relay listens and what the port receives stay. -/
theorem HearsRecord.power_port {u s : State} {code tag : Byte} {ops : Operands} {line : Wave}
    (h : HearsRecord u code tag ops line s) : u.power = s.power ∧ u.trunk.port = s.trunk.port := by
  obtain ⟨r, -, rfl⟩ := h
  exact ⟨rfl, rfl⟩

/-! ## Refusing a record (R152, R154) -/

/-- A held slot refuses every record but RESET_BRANCH, and that one too where none of COMMIT, SLEEP_BRANCH and
WAKE_BRANCH holds it (R152, step 2). -/
theorem RefusesRecord.refusesRecord {s : State} {code : Byte} (h : RefusesRecord s code) :
    s.refusesRecord code = true := by
  obtain ⟨-, -, sl, hslot, hexcept⟩ := h
  rw [State.refusesRecord, hslot]
  by_cases hreset : code = 0x42#8
  · obtain ⟨hcommit, hsleep, hwake⟩ := hexcept hreset
    simp [Code.commit, Code.sleepBranch, Code.wakeBranch, hcommit, hsleep, hwake]
  · simp [Code.resetBranch, hreset]

/-- Whatever the command's owner, a refused record never reaches it. -/
theorem takeRecord_refused {s : State} {code : Byte} (h : s.refusesRecord code = true) (tag : Byte)
    (owner : State → State × Answer) (after : State → State) :
    takeRecord code tag owner after s = s.receiveRecord.refuseRecord tag := by
  rw [takeRecord, if_pos h]

/-- Settles O21: the record heard is taken, the slot refuses it, and the agent writes the refusal. -/
theorem recordRefusedWhileSlotHeld : Obligations.RecordRefusedWhileSlotHeld := by
  unfold Obligations.RecordRefusedWhileSlotHeld
  intro c code tag ops line u s hwf hrecord heard hs
  obtain ⟨owner, after, hexec⟩ := exec_eq_takeCommandThen hwf hrecord u
  have ⟨hrun, hport⟩ : u.power = .running ∧ u.trunk.port.capturesCommand = true := by
    obtain ⟨hpower, hsame⟩ := HearsRecord.power_port heard
    obtain ⟨hrun, hport, -⟩ := hs
    exact ⟨hpower.trans hrun, hsame ▸ hport⟩
  rw [hexec, takeCommandThen_heard hrun hport heard, takeRecord_refused (RefusesRecord.refusesRecord hs)]
  rfl

end Sys2Proof.Machine

/-! PROOFS. The invariants hold of a relay at rest, and all of them together are not kept by every step. -/

namespace Sys2Proof.Machine

/-- Settles O56: the links of the invariant are small finite facts, but for the records and the entries, which are
all alike. -/
theorem resetSatisfiesInvariants : Obligations.ResetSatisfiesInvariants := by
  unfold Obligations.ResetSatisfiesInvariants
  have hwf : State.reset.sched.Wf := by decide
  have hlink : LinkInv State.reset := by decide
  have hslot : SlotInv State.reset := ⟨nofun, by decide, by decide, by decide, by decide, by decide⟩
  have hbank : clearedBank.Encodable := by decide +kernel
  have hrefreshable : clearedBank.Refreshable := by decide +kernel
  have hrecords : ∀ i : EntryIndex, (State.reset.record i).Fits (State.reset.activeEntry i) := by decide +kernel
  have hdelivery : DeliveryInv State.reset := by
    intro _ i
    revert i
    decide +kernel
  exact ⟨hwf, fun _ => rfl, hlink, hslot, ⟨hbank, hbank, nofun, nofun⟩, ⟨hrefreshable, nofun, nofun, nofun⟩,
    ⟨hrecords, nofun, nofun, nofun, nofun, rfl⟩, hdelivery⟩

/-- A refresh of entry 0 in REPLY_WAIT, in LOOPBACK, whose responder has formed no reply: no run reaches it, and no
invariant excludes it. -/
def unansweredLoopback : State :=
  { State.reset with
    route :=
      { State.reset.route with
        bankA :=
          { clearedBank with entries := clearedBank.entries.set 0 { clearedEntry with valid := true, kind := .cached } } }
    link :=
      { State.reset.link with
        mode := .loopback
        state :=
          .replyWait
            { op := .refresh 0 .periodic, branchChannel := 0#10, length := 0#2, rate := defaultLine.rate,
              breakLength := .bits13 } }
    pending := [.branchReplyEnd { line := [] }] }

theorem inv_unansweredLoopback : Inv unansweredLoopback := by
  have hlink : LinkInv unansweredLoopback := by decide
  have hslot : SlotInv unansweredLoopback := ⟨nofun, by decide, by decide, by decide, by decide, by decide⟩
  have hencodable : unansweredLoopback.route.bankA.Encodable ∧ unansweredLoopback.route.bankB.Encodable := by
    decide +kernel
  have hrefreshable : unansweredLoopback.route.activeContents.Refreshable := by decide +kernel
  have hrecords : ∀ i : EntryIndex, (unansweredLoopback.record i).Fits (unansweredLoopback.activeEntry i) := by
    decide +kernel
  have htransaction : ∀ t ∈ unansweredLoopback.link.state.transaction, unansweredLoopback.transactionFits t = true := by
    rintro t ⟨⟩
    decide +kernel
  have hdelivery : DeliveryInv unansweredLoopback := by
    have hnone : ∀ i, (unansweredLoopback.record i).pending = false := by decide +kernel
    intro _ i hi
    rw [hnone i] at hi
    cases hi
  exact ⟨by decide, nofun, hlink, hslot, ⟨hencodable.1, hencodable.2, nofun, nofun⟩, ⟨hrefreshable, nofun, nofun, nofun⟩,
    ⟨hrecords, nofun, nofun, htransaction, nofun, rfl⟩, hdelivery⟩

/-- Refutes O60: in LOOPBACK the end of the reply hands on whatever the responder formed (R148), and nothing in the
invariants gives that the length of the entry; here the empty reply makes record 0 FRESH with no data. -/
theorem not_stepKeepsPendingPublicationsOwed : ¬ Obligations.StepKeepsPendingPublicationsOwed := by
  unfold Obligations.StepKeepsPendingPublicationsOwed
  intro h
  obtain ⟨t, hstep, hempty⟩ : ∃ t, step unansweredLoopback = .next t ∧ ¬ (t.record 0).Fits (t.activeEntry 0) :=
    ⟨_, rfl, by decide +kernel⟩
  obtain ⟨-, -, -, -, -, -, ⟨hrecords, -⟩, -⟩ := h _ t inv_unansweredLoopback hstep
  exact hempty (hrecords 0)

end Sys2Proof.Machine

/-! PROOFS. What a command can do: every row answers the next state, by one of the effects listed here, and a COMMAND
record that is taken changes what its owner changes. The invariants of the queue, of the slot and of the table follow
effect by effect. -/

namespace Sys2Proof.Machine

/-! ## What carrying out a COMMAND record can do (R152, step 4) -/

/-- What the owner of the command with this code leaves of the state it is handed, with its answer. Only the seven
pending outcomes are tied to their code. -/
inductive Carried (code : Byte) (s : State) : State → Answer → Prop
  | answered {a : Answer} (ha : a.outcome ≠ .pending) : Carried code s s a
  | agentWritten (flags : Word16) (counters : Counters) (k : KeyState) {a : Answer} (ha : a.outcome ≠ .pending) :
      Carried code s (s.mapAgent fun g => { g with flags := flags, counters := counters, keyState := k }) a
  | pointersSet (p : PointerOperands) : Carried code s (s.setPointers p) (Answer.plain .done)
  | edited (b : Bank) (hb : EncodableInv s → b.Encodable) :
      Carried code s (s.mapRoute (RouteTable.setEdit b)) (Answer.plain .done)
  | committed {a : Answer} (ha : a.outcome ≠ .pending) : Carried code s s.applyCommit a
  | commitWaits (hcode : code = 0x15#8) (h : s.link.state.inTransaction = true) :
      Carried code s (s.mapRoute fun r => { r with commitPending := true }) (Answer.plain .pending)
  | stored (st : RecordStore) {a : Answer} (ha : a.outcome ≠ .pending) : Carried code s (s.mapStore fun _ => st) a
  | requested (st : RecordStore) (i : EntryIndex) (op : QueueOp) (origin : Origin) {a : Answer}
      (ha : a.outcome ≠ .pending) :
      Carried code s ((s.mapStore fun _ => st).request i op origin).takeOffered a
  | workRemoved (st : RecordStore) (gone : EntryIndex → Bool) {a : Answer} (ha : a.outcome ≠ .pending) :
      Carried code s ((s.mapStore fun _ => st).removeWork gone) a
  | scheduled (tickPeriod : Byte) (order : OrderMode) :
      Carried code s (s.mapSched fun q => { q with tickPeriod := tickPeriod, order := order }) (Answer.plain .done)
  | lineWritten (l : LineSettings) : Carried code s (s.writeLine l) (Answer.plain .done)
  | released : Carried code s s.releaseQuarantine (Answer.plain .done)
  | sleepBegun (hcode : code = 0x50#8) : Carried code s s.beginSleepFrame (Answer.plain .pending)
  | sleepWaits (hcode : code = 0x50#8) :
      Carried code s (s.mapLink fun c => { c with sleepFramePending := true }) (Answer.plain .pending)
  | pulseBegun (hcode : code = 0x51#8) (fromAsleep : Bool) :
      Carried code s (s.beginPulse fromAsleep) (Answer.plain .pending)
  | wakeAwaited (hcode : code = 0x51#8) : Carried code s s (Answer.plain .pending)
  | loopbackEntered {a : Answer} (ha : a.outcome ≠ .pending) :
      Carried code s (s.mapLink fun c => { c with mode := .loopback, outsideLow := none }) a
  | loopbackLeft :
      Carried code s (s.mapLink fun c => { c with mode := .normal, state := .idle }).takeOffered (Answer.plain .done)
  | saveBegun (hcode : code = 0x60#8) : Carried code s s.beginSave (Answer.plain .pending)
  | loadBegun (hcode : code = 0x61#8) :
      Carried code s (s.mapConfig fun c => { c with store := .loading }) (Answer.plain .pending)

/-- The owner of the command with this code does no more than `Carried` lists. -/
def CarriesOut (code : Byte) (owner : State → State × Answer) : Prop :=
  ∀ s, Carried code s (owner s).1 (owner s).2

theorem carriesOut_withOperand {α : Type} {code : Byte} {operand : Option α} {owner : α → State → State × Answer}
    (h : ∀ x, operand = some x → CarriesOut code (owner x)) : CarriesOut code (withOperand operand owner) := by
  intro s
  cases hx : operand with
  | none => exact .answered nofun
  | some x => exact h x hx s

theorem carriesOut_editCommand {code : Byte} {change : State → State}
    (h : ∀ s, ∃ b, (EncodableInv s → b.Encodable) ∧ change s = s.mapRoute (RouteTable.setEdit b)) :
    CarriesOut code (editCommand change) := by
  intro s
  obtain ⟨b, hb, hchange⟩ := h s
  rw [editCommand]
  split
  · exact .answered nofun
  · rw [hchange]
    exact .edited b hb

/-! ## Banks within their encoding (R20, R174) -/

theorem decodeEntry_silentLimit {bytes : List Byte} {e : Entry} (h : decodeEntry bytes = some e) :
    e.silentLimit ≠ 0#4 := by
  unfold decodeEntry at h
  split at h
  · split at h
    · split at h
      next hbits =>
        obtain ⟨-, -, -, hlimit⟩ := hbits
        cases h
        exact hlimit
      next => cases h
    · cases h
  · cases h

theorem Bank.entry_set (b : Bank) (i j : EntryIndex) (e : Entry) :
    ({ b with entries := b.entries.set i.val e i.isLt } : Bank).entry j = if i = j then e else b.entry j := by
  simp only [Bank.entry, Vector.get_eq_getElem, Vector.getElem_set, Fin.ext_iff]

theorem Bank.Encodable.setEntry {b : Bank} (hb : b.Encodable) (i : EntryIndex) {e : Entry} (he : e.silentLimit ≠ 0#4) :
    ({ b with entries := b.entries.set i.val e i.isLt } : Bank).Encodable := by
  intro j
  rw [Bank.entry_set]
  split
  · exact he
  · exact hb j

theorem clearedBank_encodable : clearedBank.Encodable := by
  intro i
  obtain ⟨hentry, -⟩ := clearedBank_isCleared
  rw [hentry i]
  decide

theorem RouteTable.bankOf_encodable {r : RouteTable} (ha : r.bankA.Encodable) (hb : r.bankB.Encodable) (id : BankId) :
    (r.bankOf id).Encodable := by
  cases id
  · exact ha
  · exact hb

theorem EncodableInv.bankOf {s : State} (h : EncodableInv s) (id : BankId) : (s.route.bankOf id).Encodable := by
  obtain ⟨ha, hb, -⟩ := h
  exact RouteTable.bankOf_encodable ha hb id

/-! ## The owners of the commands -/

theorem carriesOut_writeEntry (code : Byte) (ops : Operands) :
    CarriesOut code (withOperand (entryOperands ops) fun x => editCommand (State.setEditEntry x.1 x.2)) := by
  refine carriesOut_withOperand fun x hx => carriesOut_editCommand fun s => ⟨_, fun hs => ?_, rfl⟩
  have hlimit : x.2.silentLimit ≠ 0#4 := by
    rw [entryOperands_eq] at hx
    obtain ⟨i, -, hx⟩ := Option.bind_eq_some_iff.1 hx
    obtain ⟨e, he, rfl⟩ := Option.map_eq_some_iff.1 hx
    exact decodeEntry_silentLimit he
  exact Bank.Encodable.setEntry (hs.bankOf _) x.1 hlimit

theorem carriesOut_writeMask (code : Byte) (ops : Operands) :
    CarriesOut code (withOperand (maskOperands ops) fun x => editCommand (State.setEditMask x.1 x.2)) :=
  carriesOut_withOperand fun x _ => carriesOut_editCommand fun s =>
    ⟨{ s.route.editContents with masks := s.route.editContents.masks.set x.1.val x.2 x.1.isLt },
      fun hs => hs.bankOf s.route.activeBank.other, rfl⟩

theorem carriesOut_commit : CarriesOut 0x15#8 commitOwner := by
  intro s
  unfold commitOwner
  split
  · exact .answered nofun
  · split
    · exact .answered nofun
    · split
      next inTransaction => exact .commitWaits rfl inTransaction
      next => exact .committed nofun

theorem carried_managementCapture (code : Byte) (i : EntryIndex) (data : List Byte) (s : State)
    (staging : Option Staging) :
    Carried code s ((s.mapStore fun st => { st with staging := staging }).managementCapture i data).1
      ((s.mapStore fun st => { st with staging := staging }).managementCapture i data).2 := by
  unfold State.managementCapture
  dsimp only
  split
  · exact .requested
      (((s.mapStore fun st => { st with staging := staging }).captureInto i data .management).setPendingMark i
        true).store i .publish .manual nofun
  · exact .stored ((s.mapStore fun st => { st with staging := staging }).captureInto i data .management).store nofun

theorem carried_writeRecordPart (code : Byte) (ops : Operands) (staged : Option (List Byte)) (i : EntryIndex)
    (p : RecordPart) (s : State) (staging : Option Staging) :
    Carried code s (writeRecordPart ops staged i p (s.mapStore fun st => { st with staging := staging })).1
      (writeRecordPart ops staged i p (s.mapStore fun st => { st with staging := staging })).2 := by
  have refused : Carried code s (s.mapStore fun st => { st with staging := staging }) (Answer.plain .badState) :=
    .stored { s.store with staging := staging } nofun
  unfold writeRecordPart
  split
  · cases p with
    | whole => exact carried_managementCapture code i _ s staging
    | firstHalf => exact .stored { s.store with staging := some { index := i, bytes := opBytes ops 4 8 } } nofun
    | secondHalf =>
      cases staged with
      | none => exact refused
      | some first => exact carried_managementCapture code i _ s staging
  · exact refused

/-- Emptying the staging buffer writes it, or leaves it as it is. -/
theorem State.emptyStaging_eq (ops : Operands) (s : State) :
    ∃ staging, s.emptyStaging ops = s.mapStore fun st => { st with staging := staging } := by
  unfold State.emptyStaging
  split
  · exact ⟨none, rfl⟩
  · exact ⟨s.store.staging, rfl⟩

theorem carriesOut_writeRecord (code : Byte) (ops : Operands) : CarriesOut code (writeRecordOwner ops) := by
  intro s
  obtain ⟨staging, hstaging⟩ := s.emptyStaging_eq ops
  rw [writeRecordOwner, hstaging]
  cases recordOperands ops with
  | none => exact .stored { s.store with staging := staging } nofun
  | some x => exact carried_writeRecordPart code ops _ x.1 x.2 s staging

theorem State.mapRecords_eq (f : EntryIndex → Record → Record) (s : State) :
    s.mapRecords f = s.mapStore fun _ => (s.mapRecords f).store := by
  unfold State.mapRecords
  generalize (fun st : RecordStore => { st with records := Vector.ofFn fun i => f i (st.records.get i) }) = g
  rfl

theorem carriesOut_flushRecord (code : Byte) (ops : Operands) :
    CarriesOut code (withOperand (flushOperand ops) fun named t => (t.flush named, Answer.plain .done)) := by
  refine carriesOut_withOperand fun named _ s => ?_
  dsimp only
  rw [State.flush, State.mapRecords_eq]
  exact .workRemoved _ named nofun

theorem carriesOut_refreshNow (code : Byte) (i : EntryIndex) : CarriesOut code (refreshNowOwner i) := by
  intro s
  unfold refreshNowOwner
  split
  · exact .requested s.store i .refresh .manual nofun
  · exact .answered nofun

theorem carried_withdrawn (code : Byte) (e : EntryIndex) (op : QueueOp) (s : State) {a : Answer}
    (ha : a.outcome ≠ .pending) : Carried code s (s.withdrawn e op) a := by
  rw [State.withdrawn_eq]
  split
  · exact .workRemoved (s.setRecord e { s.record e with pending := false }).store _ ha
  · exact .workRemoved s.store _ ha

theorem carriesOut_withdraw (code : Byte) (e : EntryIndex) : CarriesOut code (withdrawOwner e) := by
  intro s
  unfold withdrawOwner
  split
  · exact carried_withdrawn code e _ s nofun
  · split
    · exact carried_withdrawn code e _ s nofun
    · split
      · exact .answered nofun
      · exact .answered nofun

theorem carriesOut_setLine (code : Byte) (ops : Operands) :
    CarriesOut code (withOperand (lineOperands ops) fun l t =>
      if t.link.state.inTransaction then (t, Answer.plain .busy) else (t.writeLine l, Answer.plain .done)) := by
  refine carriesOut_withOperand fun l _ s => ?_
  split
  · exact .answered nofun
  · exact .lineWritten l

theorem carriesOut_releaseLink (code : Byte) :
    CarriesOut code fun t =>
      if t.link.state.isQuarantine then (t.releaseQuarantine, Answer.plain .done) else (t, Answer.plain .badState) := by
  intro s
  dsimp only
  split
  · dsimp only
    exact .released
  · exact .answered nofun

theorem carriesOut_sleepBranch : CarriesOut 0x50#8 sleepOwner := by
  intro s
  unfold sleepOwner
  split
  case h_2 => exact .sleepBegun rfl
  case h_3 | h_4 | h_5 | h_6 => exact .sleepWaits rfl
  all_goals exact .answered nofun

theorem carriesOut_wakeBranch : CarriesOut 0x51#8 wakeOwner := by
  intro s
  unfold wakeOwner
  split
  case h_2 | h_3 => exact .pulseBegun rfl _
  case h_4 => exact .wakeAwaited rfl
  all_goals exact .answered nofun

/-- No key is answered PENDING (R146). -/
theorem keyStep_outcome {k k' : KeyState} {key : Byte} {o : CommandOutcome} (h : keyStep k key = some (k', o)) :
    o ≠ .pending := by
  have houtcome : o = .keyAccepted ∨ o = .keyRestart := by
    unfold keyStep at h
    split at h
    · exact .inl (by simpa using (congrArg (fun x => x.map Prod.snd) h).symm)
    · split at h
      · exact .inr (by simpa using (congrArg (fun x => x.map Prod.snd) h).symm)
      · split at h
        · exact .inl (by simpa using (congrArg (fun x => x.map Prod.snd) h).symm)
        · exact .inr (by simpa using (congrArg (fun x => x.map Prod.snd) h).symm)
      · split at h
        · cases h
        · exact .inr (by simpa using (congrArg (fun x => x.map Prod.snd) h).symm)
  obtain rfl | rfl := houtcome <;> nofun

theorem carriesOut_testKey (code : Byte) (k : KeyState) (key : Byte) : CarriesOut code (testKeyOwner k key) := by
  intro s
  unfold testKeyOwner
  split
  next k' o hkey => exact .agentWritten s.agent.flags s.agent.counters k' (keyStep_outcome hkey)
  next =>
    unfold enterLoopback
    split
    · exact .loopbackEntered nofun
    · exact .answered nofun

theorem carriesOut_testExit (code : Byte) : CarriesOut code testExitOwner := by
  intro s
  unfold testExitOwner
  split
  case h_2 | h_3 => exact .loopbackLeft
  all_goals exact .answered nofun

theorem carriesOut_saveConfig :
    CarriesOut 0x60#8 fun t =>
      if t.editHeld then (t, Answer.plain .busy) else (t.beginSave, Answer.plain .pending) := by
  intro s
  dsimp only
  split
  · exact .answered nofun
  · exact .saveBegun rfl

theorem carriesOut_loadConfig : CarriesOut 0x61#8 loadOwner := by
  intro s
  unfold loadOwner
  split
  · exact .answered nofun
  · split
    case h_2 => exact .loadBegun rfl
    all_goals exact .answered nofun

end Sys2Proof.Machine

namespace Sys2Proof.Machine

/-! ## What a command can do -/

/-- What a command can leave of a state, row by row. A row of the branch line leaves the branch receiver somewhere first,
a row of the trunk line the trunk receiver. -/
inductive Effect (s : State) : State → Prop
  | nothing : Effect s s
  | power (p : Power) : Effect s (s.setPower p)
  | started (cause : ResetCause) (straps : Straps) : Effect s (s.start cause straps)
  | startEnded : Effect s ((s.setPower .running).mapSched fun q => { q with runningPeriod := q.tickPeriod })
  | breakTaken (r : Receiver) :
      Effect s ((s.breakEnds.setReceiver r).mapTrunk fun t => { t with stamp := s.sched.tickCount, port := .header })
  | headerTaken (r : Receiver) (j : HeaderJudgement) (since : Nat) : Effect s ((s.setReceiver r).takeHeader j since)
  | served (r : Receiver) (source : ServeSource) : Effect s (((s.setReceiver r).reportServed source).setPort .passive)
  | serveCollided (r : Receiver) : Effect s (((s.setReceiver r).setFlag .trunkCollision).setPort .passive)
  | captureEnded (r : Receiver) : Effect s ((s.setReceiver r).setPort .passive)
  | downlinkCaptured (r : Receiver) (i : EntryIndex) (copy : Entry) (data : List Byte) :
      Effect s (((s.setReceiver r).setPort .passive).downlinkCaptured i copy data)
  | streamWritten (r : Receiver) (data : List Byte) :
      Effect s (((s.setReceiver r).setPort .passive).streamWritten data)
  | command (code tag : Byte) (ops : HeardOperands) (owner : State → State × Answer) (hcode : code ≠ 0x42#8)
      (h : CarriesOut code owner) : Effect s (takeCommand code tag ops owner s)
  | branchReset (tag : Byte) (ops : HeardOperands) (branch : Transmission) (data : State → List Byte) :
      Effect s (takeCommand 0x42#8 tag ops (fun t =>
        ((t.hearFrameCut branch).resetBranch.takeOffered, { outcome := .done, data := data t })) s)
  | restart (tag : Byte) (ops : HeardOperands) (straps : Straps) :
      Effect s (takeCommandThen 0x62#8 tag ops (fun t => (t, Answer.plain .done)) (State.restarted straps) s)
  | saved (c : ImageContents) (count : Word16) (hstore : s.config.store = .saving c count) :
      Effect s ((s.mapConfig fun g =>
        { g with image := .written c c.integrityWord, store := .valid }).finishPending Code.saveConfig
          { outcome := .done, data := word16Bytes c.integrityWord ++ word16Bytes count })
  | saveFailed (c : ImageContents) (count : Word16) (hstore : s.config.store = .saving c count) :
      Effect s (((s.mapConfig fun g => { g with image := .unmatched, store := .invalid }).setFlag
        .storeFailed).finishPending Code.saveConfig (Answer.plain .storeFailed))
  | loaded (c : ImageContents) (word : Word16) (hstore : s.config.store = .loading)
      (himage : s.config.image = .written c word) :
      Effect s (((s.applyLoad c).mapConfig fun g => { g with store := .valid }).finishPending Code.loadConfig
        { outcome := .done, data := word16Bytes word })
  | handedOn (x : RelayContext) (p : PortState) : Effect s ((s.setRelay (some x)).setPort p)
  | relayedOk (r : Receiver) : Effect s ((((s.setReceiver r).count .relayedOk).setPort .passive).endTrunkSide)
  | forwardCollided (r : Receiver) :
      Effect s ((((s.setReceiver r).setFlag .trunkCollision).setPort .passive).endTrunkSide)
  | forwardEnded (r : Receiver) : Effect s (((s.setReceiver r).setPort .passive).endTrunkSide)
  | forwardNext (r : Receiver) (p : PortState) : Effect s ((s.setReceiver r).setPort p)
  | characterReceived (r : Receiver) (since : Nat) (x : RelayContext) :
      Effect s ((s.receiveReply r since).setRelay (some x))
  | headerSent (r : Receiver) (t : Transaction) (hstate : s.link.state = .header t) :
      Effect s ((s.setBranchReceiver r).headerSent t)
  | outcome (r : Receiver) (t : Transaction) (data : List Byte) (o : BranchOutcome)
      (hstate : s.link.state.transaction = some t) : Effect s ((s.setBranchReceiver r).takeOutcome t data o)
  | gapEnded (rate : RateCode) (hstate : s.link.state = .gap rate) : Effect s s.gapEnds
  | woken (r : Receiver) : Effect s ((s.setBranchReceiver r).setFlag .branchWake)
  | wokenAsleep (r : Receiver) (hstate : s.link.state = .asleep) :
      Effect s ((s.setBranchReceiver r).setFlag .branchWake).beginSettle
  | pulseEnded (r : Receiver) (low : Option Nat) (fromAsleep : Bool) (steps : Byte) (rate : RateCode)
      (hstate : s.link.state = .wakeOut fromAsleep steps rate) :
      Effect s (((s.setBranchReceiver r).mapLink fun c => { c with outsideLow := low }).pulseEnds fromAsleep rate)
  | pulseFailed (r : Receiver) (low : Option Nat) (fromAsleep : Bool) (steps : Byte) (rate : RateCode)
      (hstate : s.link.state = .wakeOut fromAsleep steps rate) :
      Effect s (((s.setBranchReceiver r).mapLink fun c => { c with outsideLow := low }).pulseFails fromAsleep rate)
  | ticked : Effect s s.ticked
  | countdownExpired (i : EntryIndex) : Effect s (s.countdownExpires i).takeOffered
  | holdExpired : Effect s s.holdExpires
  | sampled (high : Bool) (hstate : s.link.state.isQuarantine = true) : Effect s (s.decideSample high)
  | settleExpired (hstate : s.link.state.isSettling = true) : Effect s s.settleExpires.takeOffered

/-- A command answers the next state, one of those that `Effect` lists. -/
def Answers (s : State) (o : Host.Outcome State Fault Refusal) : Prop :=
  ∃ t, o = .next t ∧ Effect s t

theorem Effect.answers {s t : State} (h : Effect s t) : Answers s (.next t) :=
  ⟨t, rfl, h⟩

theorem CarriesOut.answers {code tag : Byte} {ops : HeardOperands} {owner : State → State × Answer}
    (h : CarriesOut code owner) (s : State) (hcode : code ≠ 0x42#8 := by decide) :
    Answers s (.next (takeCommand code tag ops owner s)) :=
  (Effect.command code tag ops owner hcode h).answers

/-! ## The rows of the supply and of the trunk -/

theorem answers_powerOn (straps : Straps) (s : State) : Answers s (execPowerOn straps s) := by
  unfold execPowerOn
  split
  · exact (Effect.started .powerOn straps).answers
  · exact (Effect.power _).answers
  all_goals exact Effect.nothing.answers

theorem answers_resetNAssert (s : State) : Answers s (execResetNAssert s) := by
  unfold execResetNAssert
  split <;> exact (Effect.power _).answers

theorem answers_resetNRelease (straps : Straps) (s : State) : Answers s (execResetNRelease straps s) := by
  unfold execResetNRelease
  split
  · exact (Effect.power _).answers
  · exact (Effect.started _ straps).answers
  all_goals exact Effect.nothing.answers

theorem answers_powerLoss (s : State) : Answers s (execPowerLoss s) := by
  unfold execPowerLoss
  split <;> exact (Effect.power _).answers

theorem answers_startSequenceComplete (s : State) : Answers s (execStartSequenceComplete s) := by
  unfold execStartSequenceComplete
  split
  · exact Effect.startEnded.answers
  all_goals exact Effect.nothing.answers

theorem answers_trunkBreak (line : Wave) (s : State) : Answers s (execTrunkBreak s line) := by
  unfold execTrunkBreak
  split
  · exact (Effect.breakTaken _).answers
  · exact Effect.nothing.answers

theorem effect_hearHeader (line : Wave) (s : State) : Effect s (s.hearHeader line) := by
  unfold State.hearHeader
  split
  · exact .headerTaken _ _ _
  · exact .nothing

theorem answers_trunkHeaderError (delimiter header : Wave) (s : State) :
    Answers s (execTrunkHeaderError delimiter header s) := by
  unfold execTrunkHeaderError
  split
  · exact (effect_hearHeader _ s).answers
  · exact Effect.nothing.answers

theorem answers_trunkValidHeader (delimiter header : Wave) (s : State) :
    Answers s (execTrunkValidHeader delimiter header s) :=
  answers_trunkHeaderError delimiter header s

theorem State.sentOnTrunk_receiver {s t : State} {values : List Byte} {sent : Transmission}
    (h : s.sentOnTrunk values sent = some t) : ∃ r, t = s.setReceiver r := by
  unfold State.sentOnTrunk at h
  split at h
  · exact ⟨_, (Option.some.inj h).symm⟩
  · cases h

theorem State.collidesOnTrunk_receiver {s t : State} {values : List Byte} {sent : Transmission}
    (h : s.collidesOnTrunk values sent = some t) : ∃ r, t = s.setReceiver r := by
  obtain ⟨-, r, -, rfl⟩ := State.collidesOnTrunk_eq_some_iff.1 h
  exact ⟨r, rfl⟩

theorem answers_serveComplete (sent : Transmission) (s : State) : Answers s (execServeComplete s sent) := by
  unfold execServeComplete
  split
  · split
    next hsent =>
      obtain ⟨r, rfl⟩ := State.sentOnTrunk_receiver hsent
      exact (Effect.served r _).answers
    next => exact Effect.nothing.answers
  · exact Effect.nothing.answers

theorem answers_trunkServeBitError (sent : Transmission) (s : State) : Answers s (execTrunkServeBitError s sent) := by
  unfold execTrunkServeBitError
  split
  · split
    next hcut =>
      obtain ⟨r, rfl⟩ := State.collidesOnTrunk_receiver hcut
      exact (Effect.serveCollided r).answers
    next => exact Effect.nothing.answers
  · exact Effect.nothing.answers

theorem effect_endCapture {s : State} {f : State → State} (r : Receiver) (verdict : Option BranchOutcome)
    (hf : Effect s (f ((s.setReceiver r).setPort .passive))) : Effect s (s.endCapture verdict r f) := by
  obtain ⟨-, h⟩ | ⟨-, h⟩ | ⟨-, h⟩ := s.endCapture_cases verdict r f <;> rw [h]
  · exact .nothing
  · exact hf
  · exact .captureEnded r

theorem answers_captureFailed (ending : ReplyEnd) (s : State) : Answers s (execCaptureFailed ending s) := by
  unfold execCaptureFailed
  split
  · dsimp only
    split
    · exact Effect.nothing.answers
    · exact (effect_endCapture _ _ (.captureEnded _)).answers
  · exact Effect.nothing.answers

theorem answers_downlinkCapture (line : Wave) (s : State) : Answers s (execDownlinkCapture line s) := by
  unfold execDownlinkCapture
  split
  · exact (effect_endCapture _ _ (.downlinkCaptured _ _ _ _)).answers
  · exact Effect.nothing.answers

theorem answers_streamWrite (line : Wave) (s : State) : Answers s (execStreamWrite line s) := by
  unfold execStreamWrite
  split
  · exact (effect_endCapture _ _ (.streamWritten _ _)).answers
  · exact Effect.nothing.answers

theorem answers_unknownCommand (code tag : Byte) (ops : HeardOperands) (s : State) :
    Answers s (execUnknownCommand code tag ops s) := by
  have howner : CarriesOut code fun t => (t, Answer.plain .badCommand) := fun _ => .answered nofun
  unfold execUnknownCommand
  split
  · exact Effect.nothing.answers
  next hunknown =>
    refine howner.answers s fun hcode => hunknown ?_
    rw [hcode]
    decide

/-! ## The rows of the configuration store -/

theorem answers_saveComplete (verified : Bool) (s : State) : Answers s (execSaveComplete verified s) := by
  unfold execSaveComplete
  split
  next c count _ hstore =>
    split
    · exact (Effect.saved c count hstore).answers
    · exact (Effect.saveFailed c count hstore).answers
  next => exact Effect.nothing.answers

theorem answers_loadComplete (s : State) : Answers s (execLoadComplete s) := by
  unfold execLoadComplete
  split
  next c word _ hstore himage =>
    exact (Effect.loaded c word hstore himage).answers
  next => exact Effect.nothing.answers

/-! ## The rows of a relay -/

theorem State.hearLoopback_receiveReply (levels : List Bool) (s : State) :
    ∃ r, s.hearLoopback levels = s.receiveReply r s.link.sinceH1 := by
  unfold State.hearLoopback
  generalize (s.link.receiver.hearLevels .branch (sixteenths levels)).1 = r
  exact ⟨r, rfl⟩

theorem State.replyCharacter_receiveReply {s t : State} {n k : Nat} {line : Wave} {b : Byte}
    (h : s.replyCharacter n k line = some (b, t)) : ∃ r since, t = s.receiveReply r since := by
  unfold State.replyCharacter at h
  split at h
  · split at h
    · cases h
      exact ⟨_, _, rfl⟩
    · cases h
  · cases h
    obtain ⟨r, hr⟩ := s.hearLoopback_receiveReply (characterLevels (s.link.responderByte k))
    exact ⟨r, _, hr⟩

theorem answers_relayCharacterReceived (line : Wave) (s : State) : Answers s (execRelayCharacterReceived line s) := by
  unfold execRelayCharacterReceived
  split
  · split
    · split
      next hheard =>
        obtain ⟨r, since, rfl⟩ := State.replyCharacter_receiveReply hheard
        exact (Effect.characterReceived r since _).answers
      next => exact Effect.nothing.answers
    · exact Effect.nothing.answers
  · exact Effect.nothing.answers

theorem answers_forwardCharacterHandoff (s : State) : Answers s (execForwardCharacterHandoff s) := by
  unfold execForwardCharacterHandoff
  split
  · split
    · exact (Effect.handedOn _ _).answers
    all_goals exact Effect.nothing.answers
  · exact Effect.nothing.answers

theorem answers_relayTrunkComplete (sent : Transmission) (s : State) : Answers s (execRelayTrunkComplete s sent) := by
  unfold execRelayTrunkComplete
  split
  · split
    next hsent =>
      obtain ⟨r, rfl⟩ := State.sentOnTrunk_receiver hsent
      exact (Effect.relayedOk r).answers
    next => exact Effect.nothing.answers
  · exact Effect.nothing.answers

theorem answers_trunkForwardBitError (sent : Transmission) (s : State) :
    Answers s (execTrunkForwardBitError s sent) := by
  unfold execTrunkForwardBitError
  split
  · split
    next hcut =>
      obtain ⟨r, rfl⟩ := State.collidesOnTrunk_receiver hcut
      exact (Effect.forwardCollided r).answers
    next => exact Effect.nothing.answers
  · exact Effect.nothing.answers

theorem answers_forwardedCharacterFinished (sent : Transmission) (s : State) :
    Answers s (execForwardedCharacterFinished s sent) := by
  unfold execForwardedCharacterFinished
  split
  · split
    next hsent =>
      obtain ⟨r, rfl⟩ := State.sentOnTrunk_receiver hsent
      split
      · exact (Effect.forwardNext r _).answers
      · exact (Effect.forwardEnded r).answers
      · exact (Effect.forwardNext r _).answers
    next => exact Effect.nothing.answers
  · exact Effect.nothing.answers

/-! ## The rows of the branch -/

theorem State.sentOnBranch_receiver {s t : State} {sent : List Bool} {x : Transmission}
    (h : s.sentOnBranch sent x = some t) : ∃ r, t = s.setBranchReceiver r := by
  unfold State.sentOnBranch at h
  split at h
  · exact ⟨_, (Option.some.inj h).symm⟩
  · cases h

theorem State.pulseSent_receiver {s t : State} {steps : Byte} {x : Transmission} (h : s.pulseSent steps x = some t) :
    ∃ r low, t = (s.setBranchReceiver r).mapLink fun c => { c with outsideLow := low } := by
  unfold State.pulseSent at h
  split at h
  · exact ⟨_, _, (Option.some.inj h).symm⟩
  · cases h

theorem State.pulseCut_receiver {s t : State} {steps : Byte} {x : Transmission} (h : s.pulseCut steps x = some t) :
    ∃ r low, t = (s.setBranchReceiver r).mapLink fun c => { c with outsideLow := low } := by
  unfold State.pulseCut at h
  split at h
  · exact ⟨_, _, (Option.some.inj h).symm⟩
  · cases h

theorem answers_branchLineFault (sent : Transmission) (s : State) : Answers s (execBranchLineFault s sent) := by
  unfold execBranchLineFault
  split
  next t _ hstate =>
    split
    · split
      · exact (Effect.outcome _ t [] .lineFault (by rw [hstate]; rfl)).answers
      · exact Effect.nothing.answers
    · exact Effect.nothing.answers
  next => exact Effect.nothing.answers

theorem answers_branchBitError (sent : Transmission) (s : State) : Answers s (execBranchBitError s sent) := by
  unfold execBranchBitError
  split
  next t _ hstate =>
    split
    · split
      · exact Effect.nothing.answers
      · exact (Effect.outcome _ t [] .bitError (by rw [hstate]; rfl)).answers
    · exact Effect.nothing.answers
  next t _ hstate =>
    split
    · exact (Effect.outcome _ t [] .bitError (by rw [hstate]; rfl)).answers
    · exact Effect.nothing.answers
  next => exact Effect.nothing.answers

theorem answers_branchHeaderSent (sent : Transmission) (s : State) : Answers s (execBranchHeaderSent s sent) := by
  unfold execBranchHeaderSent
  split
  next t _ hstate =>
    split
    next hsent =>
      obtain ⟨r, rfl⟩ := State.sentOnBranch_receiver hsent
      exact (Effect.headerSent r t hstate).answers
    next => exact Effect.nothing.answers
  next => exact Effect.nothing.answers

theorem State.refreshReception_receiver {s : State} {t : Transaction} {ending : ReplyEnd} {e : BranchReception}
    (h : s.refreshReception t ending = some e) : ∃ r, e.after = s.setBranchReceiver r := by
  unfold State.refreshReception at h
  split at h
  · obtain ⟨o, -, rfl⟩ := Option.map_eq_some_iff.1 h
    exact ⟨_, rfl⟩
  · cases h
    exact ⟨_, rfl⟩

theorem State.relayReception_receiver {s : State} {x : RelayContext} {ending : ReplyEnd} {e : BranchReception}
    (h : s.relayReception x ending = some e) : ∃ r, e.after = s.setBranchReceiver r := by
  unfold State.relayReception at h
  split at h
  · dsimp only at h
    generalize (if ending.windowFirst then s.earlyReply x.entry.bytes ending.line
      else (s.hearReply x.entry.bytes ending.line).2) = counted at h
    split at h
    · cases h
    · obtain ⟨o, -, rfl⟩ := Option.map_eq_some_iff.1 h
      exact ⟨_, rfl⟩
  · split at h
    · cases h
      exact ⟨_, rfl⟩
    · cases h

theorem effect_replyEnds {s : State} {t : Transaction} {e : Option BranchReception}
    (hstate : s.link.state.transaction = some t)
    (he : ∀ x, e = some x → ∃ r, x.after = s.setBranchReceiver r) : Effect s (s.replyEnds t e) := by
  cases e with
  | none => exact .nothing
  | some x =>
    obtain ⟨r, hafter⟩ := he x rfl
    rw [State.replyEnds, hafter]
    exact .outcome r t x.data x.outcome hstate

theorem answers_branchReplyEnd (ending : ReplyEnd) (s : State) : Answers s (execBranchReplyEnd ending s) := by
  unfold execBranchReplyEnd
  split
  next t _ hstate =>
    have htransaction : s.link.state.transaction = some t := by rw [hstate]; rfl
    split
    · exact (effect_replyEnds htransaction fun _ => State.refreshReception_receiver).answers
    · exact (effect_replyEnds htransaction fun _ => State.relayReception_receiver).answers
    all_goals exact Effect.nothing.answers
  next => exact Effect.nothing.answers

theorem answers_publishDataSent (sent : Transmission) (s : State) : Answers s (execPublishDataSent s sent) := by
  unfold execPublishDataSent
  split
  next t _ hstate =>
    split
    next hsent =>
      obtain ⟨r, rfl⟩ := State.sentOnBranch_receiver hsent
      exact (Effect.outcome r t [] .success (by rw [hstate]; rfl)).answers
    next => exact Effect.nothing.answers
  next => exact Effect.nothing.answers

theorem answers_gapEnd (s : State) : Answers s (execGapEnd s) := by
  unfold execGapEnd
  split
  next rate _ hstate => exact (Effect.gapEnded rate hstate).answers
  next => exact Effect.nothing.answers

theorem answers_branchWakeDetected (before : Wave) (low : Nat) (s : State) :
    Answers s (execBranchWakeDetected before low s) := by
  unfold execBranchWakeDetected
  dsimp only
  split
  next hstate => exact (Effect.wokenAsleep _ hstate).answers
  iterate 4 exact (Effect.woken _).answers
  exact Effect.nothing.answers

theorem answers_wakePulseEnd (sent : Transmission) (s : State) : Answers s (execWakePulseEnd s sent) := by
  unfold execWakePulseEnd
  split
  next fromAsleep steps rate _ hstate =>
    split
    next hsent =>
      obtain ⟨r, low, rfl⟩ := State.pulseSent_receiver hsent
      exact (Effect.pulseEnded r low fromAsleep steps rate hstate).answers
    next => exact Effect.nothing.answers
  next => exact Effect.nothing.answers

theorem answers_wakePulseFault (sent : Transmission) (s : State) : Answers s (execWakePulseFault s sent) := by
  unfold execWakePulseFault
  split
  next fromAsleep steps rate _ hstate =>
    split
    next hcut =>
      obtain ⟨r, low, rfl⟩ := State.pulseCut_receiver hcut
      exact (Effect.pulseFailed r low fromAsleep steps rate hstate).answers
    next => exact Effect.nothing.answers
  next => exact Effect.nothing.answers

/-! ## The rows of time -/

theorem answers_tick (s : State) : Answers s (execTick s) := by
  unfold execTick
  split
  · exact Effect.ticked.answers
  · exact Effect.nothing.answers

theorem answers_refreshCountdownExpiry (i : EntryIndex) (s : State) : Answers s (execRefreshCountdownExpiry i s) := by
  unfold execRefreshCountdownExpiry
  split
  · exact (Effect.countdownExpired i).answers
  · exact Effect.nothing.answers

theorem answers_quarantineHoldExpiry (s : State) : Answers s (execQuarantineHoldExpiry s) := by
  unfold execQuarantineHoldExpiry
  split
  · exact Effect.holdExpired.answers
  · exact Effect.nothing.answers

theorem answers_quarantineSample (a b c : Bool) (s : State) : Answers s (execQuarantineSample a b c s) := by
  unfold execQuarantineSample
  split
  next h =>
    obtain ⟨⟨-, hstate⟩, -⟩ := by simpa only [Bool.and_eq_true] using h
    exact (Effect.sampled _ hstate).answers
  next => exact Effect.nothing.answers

theorem answers_settleExpiry (s : State) : Answers s (execSettleExpiry s) := by
  unfold execSettleExpiry
  split
  next h =>
    obtain ⟨⟨-, hstate⟩, -⟩ := by simpa only [Bool.and_eq_true] using h
    exact (Effect.settleExpired hstate).answers
  next => exact Effect.nothing.answers

/-! ## Every command -/

/-- Every command answers a next state, by one of the effects. -/
theorem exec_answers (c : Instr) (s : State) : Answers s (exec c s) := by
  cases c with
  | powerOn straps => exact answers_powerOn straps s
  | resetNAssert => exact answers_resetNAssert s
  | resetNRelease straps => exact answers_resetNRelease straps s
  | trunkBreak line => exact answers_trunkBreak line s
  | trunkHeaderError delimiter header => exact answers_trunkHeaderError delimiter header s
  | trunkValidHeader delimiter header => exact answers_trunkValidHeader delimiter header s
  | serveComplete sent => exact answers_serveComplete sent s
  | trunkServeBitError sent => exact answers_trunkServeBitError sent s
  | captureFailed ending => exact answers_captureFailed ending s
  | downlinkCapture line => exact answers_downlinkCapture line s
  | streamWrite line => exact answers_streamWrite line s
  | unknownCommand code tag ops => exact answers_unknownCommand code tag ops s
  | nop tag ops =>
    have howner : CarriesOut 0x01#8 fun t => (t, { outcome := .done, data := word16Bytes t.trunk.stamp }) :=
      fun _ => .answered nofun
    exact howner.answers s
  | clearFlags tag ops =>
    have howner : CarriesOut 0x02#8 fun t =>
        (t.mapAgent fun g => { g with flags := g.flags &&& ~~~ opWord ops.bytes 2 },
          { outcome := .done, data := word16Bytes t.agent.flags }) :=
      fun u => .agentWritten (u.agent.flags &&& ~~~ opWord ops.bytes 2) u.agent.counters u.agent.keyState nofun
    exact howner.answers s
  | clearCounters tag ops =>
    have howner : CarriesOut 0x03#8 fun t =>
        (t.mapAgent fun g => { g with counters := Counters.zero }, Answer.plain .done) :=
      fun u => .agentWritten u.agent.flags Counters.zero u.agent.keyState nofun
    exact howner.answers s
  | setPointers tag ops =>
    have howner : CarriesOut 0x10#8
        (withOperand (pointerOperands ops.bytes) fun p t => (t.setPointers p, Answer.plain .done)) :=
      carriesOut_withOperand fun p _ _ => .pointersSet p
    exact howner.answers s
  | writeEntry tag ops => exact (carriesOut_writeEntry 0x11#8 ops.bytes).answers s
  | writeMask tag ops => exact (carriesOut_writeMask 0x12#8 ops.bytes).answers s
  | copyActive tag ops =>
    have howner : CarriesOut 0x13#8 (editCommand fun t => t.mapRoute fun r => r.setEdit r.activeContents) :=
      carriesOut_editCommand fun u => ⟨u.route.activeContents, fun hu => hu.bankOf _, rfl⟩
    exact howner.answers s
  | clearEdit tag ops =>
    have howner : CarriesOut 0x14#8 (editCommand fun t => t.mapRoute (RouteTable.setEdit clearedBank)) :=
      carriesOut_editCommand fun _ => ⟨clearedBank, fun _ => clearedBank_encodable, rfl⟩
    exact howner.answers s
  | commit tag ops => exact carriesOut_commit.answers s
  | writeRecord tag ops => exact (carriesOut_writeRecord 0x20#8 ops.bytes).answers s
  | flushRecord tag ops => exact (carriesOut_flushRecord 0x21#8 ops.bytes).answers s
  | refreshNow tag ops => exact (carriesOut_withOperand fun i _ => carriesOut_refreshNow 0x30#8 i).answers s
  | withdraw tag ops => exact (carriesOut_withOperand fun i _ => carriesOut_withdraw 0x31#8 i).answers s
  | setOrder tag ops =>
    have howner : CarriesOut 0x32#8 (withOperand (orderOperand ops.bytes) fun m t =>
        (t.mapSched fun q => { q with order := m }, Answer.plain .done)) :=
      carriesOut_withOperand fun m _ u => .scheduled u.sched.tickPeriod m
    exact howner.answers s
  | setTick tag ops =>
    have howner : CarriesOut 0x33#8 (withOperand (tickOperand ops.bytes) fun p t =>
        (t.mapSched fun q => { q with tickPeriod := p }, Answer.plain .done)) :=
      carriesOut_withOperand fun p _ u => .scheduled p u.sched.order
    exact howner.answers s
  | setLine tag ops => exact (carriesOut_setLine 0x40#8 ops.bytes).answers s
  | releaseLink tag ops => exact (carriesOut_releaseLink 0x41#8).answers s
  | resetBranch tag ops branch =>
    exact (Effect.branchReset tag ops branch fun t =>
      endedCommand t.agent.slot (t.hearFrameCut branch).resetBranch).answers
  | sleepBranch tag ops => exact carriesOut_sleepBranch.answers s
  | wakeBranch tag ops => exact carriesOut_wakeBranch.answers s
  | testKey tag ops => exact (carriesOut_testKey 0x52#8 s.agent.keyState (opByte ops.bytes 2)).answers s
  | testExit tag ops => exact (carriesOut_testExit 0x53#8).answers s
  | saveConfig tag ops => exact carriesOut_saveConfig.answers s
  | saveComplete verified => exact answers_saveComplete verified s
  | loadConfig tag ops => exact carriesOut_loadConfig.answers s
  | loadComplete => exact answers_loadComplete s
  | restart tag ops straps => exact (Effect.restart tag ops straps).answers
  | forwardCharacterHandoff => exact answers_forwardCharacterHandoff s
  | relayTrunkComplete sent => exact answers_relayTrunkComplete sent s
  | trunkForwardBitError sent => exact answers_trunkForwardBitError sent s
  | branchLineFault sent => exact answers_branchLineFault sent s
  | branchBitError sent => exact answers_branchBitError sent s
  | branchHeaderSent sent => exact answers_branchHeaderSent sent s
  | relayCharacterReceived line => exact answers_relayCharacterReceived line s
  | branchReplyEnd ending => exact answers_branchReplyEnd ending s
  | publishDataSent sent => exact answers_publishDataSent sent s
  | gapEnd => exact answers_gapEnd s
  | tick => exact answers_tick s
  | refreshCountdownExpiry index => exact answers_refreshCountdownExpiry index s
  | quarantineHoldExpiry => exact answers_quarantineHoldExpiry s
  | quarantineSample first second third => exact answers_quarantineSample first second third s
  | branchWakeDetected before low => exact answers_branchWakeDetected before low s
  | wakePulseEnd sent => exact answers_wakePulseEnd sent s
  | wakePulseFault sent => exact answers_wakePulseFault sent s
  | settleExpiry => exact answers_settleExpiry s
  | powerLoss => exact answers_powerLoss s
  | forwardedCharacterFinished sent => exact answers_forwardedCharacterFinished sent s
  | startSequenceComplete => exact answers_startSequenceComplete s

/-- An invariant that waiting commands do not touch and that every effect keeps, every step keeps. -/
theorem step_keeps {P : State → Prop} (hpending : ∀ s q, P s → P (s.setPending q))
    (heffect : ∀ s t, P s → Effect s t → P t) {s t : State} (hs : P s) (h : step s = .next t) : P t := by
  unfold step at h
  split at h
  · cases h
    exact hs
  next c rest _ =>
    obtain ⟨u, hu, he⟩ := exec_answers c (s.setPending rest)
    rw [hu] at h
    cases h
    exact heffect _ _ (hpending s rest hs) he

end Sys2Proof.Machine

/-! PROOFS. What taking a header can do, and the four ways in which a COMMAND row goes on. -/

namespace Sys2Proof.Machine

/-! ## What taking a header can do (R49, R50, R51) -/

/-- A state with other flags and counters, another time since H1 and another port state. -/
def State.noted (flags : Word16) (counters : Counters) (since : Nat) (p : PortState) (s : State) : State :=
  (s.mapAgent fun g => { g with flags := flags, counters := counters }).mapTrunk fun t =>
    { t with sinceH1 := since, port := p }

/-- That state is one noted from `s`. -/
def Noted (s t : State) : Prop :=
  ∃ flags counters since p, t = s.noted flags counters since p

theorem Noted.refl (s : State) : Noted s s :=
  ⟨s.agent.flags, s.agent.counters, s.trunk.sinceH1, s.trunk.port, rfl⟩

theorem Noted.count {s t : State} (h : Noted s t) (c : Counter) : Noted s (t.count c) := by
  obtain ⟨f, k, n, p, rfl⟩ := h
  exact ⟨f, k.raise c, n, p, rfl⟩

theorem Noted.setFlag {s t : State} (h : Noted s t) (x : Flag) : Noted s (t.setFlag x) := by
  obtain ⟨f, k, n, p, rfl⟩ := h
  exact ⟨f ||| x.mask, k, n, p, rfl⟩

theorem Noted.setPort {s t : State} (h : Noted s t) (q : PortState) : Noted s (t.setPort q) := by
  obtain ⟨f, k, n, p, rfl⟩ := h
  exact ⟨f, k, n, q, rfl⟩

theorem Noted.setSinceH1 {s t : State} (h : Noted s t) (m : Nat) : Noted s (t.setSinceH1 m) := by
  obtain ⟨f, k, n, p, rfl⟩ := h
  exact ⟨f, k, m, p, rfl⟩

theorem Noted.serveRecord {s t : State} (h : Noted s t) (i : EntryIndex) (e : Entry) (h0 h1 : Byte) :
    Noted s (t.serveRecord i e h0 h1) := by
  unfold State.serveRecord
  split
  · exact h.setPort _
  · exact h.setPort _

/-- What taking a header can leave: the state noted; behind a demand check, the item that an IDLE link takes; or an
admitted relay (R51, R74, R128). -/
inductive HeaderTaken (s : State) : State → Prop
  | noted {t : State} (h : Noted s t) : HeaderTaken s t
  | offered {t : State} (h : Noted s t) : HeaderTaken s t.takeOffered
  | demanded {t : State} (h : Noted s t) (i : EntryIndex) :
      HeaderTaken s (t.request i .refresh .demand).takeOffered
  | admitted {t : State} (h : Noted s t) (hidle : s.link.state.isIdle = true) (i : EntryIndex) (e : Entry)
      (channel : Channel) (h0 h1 : Byte) : HeaderTaken s (t.admitRelay i e channel h0 h1)

theorem Noted.headerTaken_demandCheck {s t : State} (h : Noted s t) (i : EntryIndex) (e : Entry) :
    HeaderTaken s (t.demandCheck i e).takeOffered := by
  unfold State.demandCheck
  split
  · exact .demanded h i
  · exact .offered h

theorem Noted.headerTaken_dispatchManagement {s t : State} (h : Noted s t) (k : ManagementChannel) (h0 h1 : Byte) :
    HeaderTaken s (t.dispatchManagement k h0 h1) := by
  cases k <;> exact .noted (h.setPort _)

theorem Noted.headerTaken_fallback {s t : State} (h : Noted s t) (i : EntryIndex) (e : Entry) (h0 h1 : Byte) :
    HeaderTaken s (if e.masked then t.setPort .passive
      else ((if e.fallback then t.serveRecord i e h0 h1 else t.setPort .passive).demandCheck i e).takeOffered) := by
  split
  · exact .noted (h.setPort _)
  · split
    · exact (h.serveRecord i e h0 h1).headerTaken_demandCheck i e
    · exact (h.setPort _).headerTaken_demandCheck i e

theorem Noted.headerTaken_refuseRelay {s t : State} (h : Noted s t) (i : EntryIndex) (e : Entry) (h0 h1 : Byte) :
    HeaderTaken s (t.refuseRelay i e h0 h1) := by
  have hrefused : Noted s ((t.count .relayRefused).setFlag .relayRefused) := (h.count _).setFlag _
  unfold State.refuseRelay
  dsimp only
  cases t.ratesDiffer with
  | false => exact hrefused.headerTaken_fallback i e h0 h1
  | true => exact (hrefused.setFlag .rateMismatch).headerTaken_fallback i e h0 h1

theorem Noted.link_eq {s t : State} (h : Noted s t) : t.link = s.link := by
  obtain ⟨f, k, n, p, rfl⟩ := h
  rfl

theorem Noted.headerTaken_requestRelay {s t : State} (h : Noted s t) (i : EntryIndex) (e : Entry) (channel : Channel)
    (h0 h1 : Byte) : HeaderTaken s (t.requestRelay i e channel h0 h1) := by
  unfold State.requestRelay
  split
  next hadmit =>
    obtain ⟨-, hidle⟩ := (Bool.and_eq_true _ _).mp hadmit
    exact .admitted h (h.link_eq ▸ hidle) i e channel h0 h1
  next => exact h.headerTaken_refuseRelay i e h0 h1

theorem Noted.headerTaken_dispatchEntry {s t : State} (h : Noted s t) (i : EntryIndex) (e : Entry) (channel : Channel)
    (h0 h1 : Byte) : HeaderTaken s (t.dispatchEntry i e channel h0 h1) := by
  unfold State.dispatchEntry
  cases e.kind with
  | blocked => exact .noted (h.setPort _)
  | localData => exact .noted (h.serveRecord i e h0 h1)
  | cached => exact (h.serveRecord i e h0 h1).headerTaken_demandCheck i e
  | relayed => exact h.headerTaken_requestRelay i e channel h0 h1
  | downlink => exact .noted (h.setPort _)

theorem Noted.headerFails {s t : State} (h : Noted s t) : Noted s t.headerFails :=
  ((h.count _).setFlag _).setPort _

theorem Noted.headerTaken_takeValidHeader {s t : State} (h : Noted s t) (h0 h1 : Byte) :
    HeaderTaken s (t.takeValidHeader h0 h1) := by
  have hcounted := h.count .headers
  unfold State.takeValidHeader
  dsimp only
  cases (t.count .headers).lookup (headerChannel h0 h1) (headerLength h1) with
  | management k => exact (hcounted.count .routed).headerTaken_dispatchManagement k h0 h1
  | entry i e mask channel => exact (hcounted.count .routed).headerTaken_dispatchEntry i e channel h0 h1
  | ownMismatch => exact .noted hcounted.headerFails
  | entryMismatch i => exact .noted hcounted.headerFails
  | unrouted => exact .noted (hcounted.setPort _)

theorem takeHeader_headerTaken (j : HeaderJudgement) (since : Nat) (s : State) : HeaderTaken s (s.takeHeader j since) := by
  cases j with
  | valid h0 h1 => exact ((Noted.refl s).setSinceH1 since).headerTaken_takeValidHeader h0 h1
  | framing => exact .noted (Noted.refl s).headerFails
  | headerCheck => exact .noted (Noted.refl s).headerFails

/-! ## The ways in which a COMMAND row goes on (R152) -/

/-- What holds of the state, of a reception that has failed, of a refused record and of a record taken, holds of what a
COMMAND row leaves. -/
theorem takeCommandThen_induction {P : State → Prop} {code tag : Byte} {ops : HeardOperands}
    {owner : State → State × Answer} {after : State → State} {s : State} (hquiet : P s)
    (hfailed : ∀ r, P ((s.setReceiver r).setPort .passive))
    (hrefused : ∀ r, P ((s.setReceiver r).receiveRecord.refuseRecord tag))
    (htaken : ∀ r, s.refusesRecord code = false →
      P (after ((owner (s.setReceiver r).receiveRecord).1.recordAnswer code tag
        (owner (s.setReceiver r).receiveRecord).2))) :
    P (takeCommandThen code tag ops owner after s) := by
  unfold takeCommandThen
  cases s.recordReception code tag ops with
  | notReceiving => exact hquiet
  | failed => exact hfailed _
  | handedOver =>
    dsimp only
    unfold takeRecord
    split
    · exact hrefused _
    next h => exact htaken _ (Bool.eq_false_iff.2 h)

end Sys2Proof.Machine

/-! PROOFS. The branch queue and the deferred set stay well-formed over every step (R90, R91). -/

namespace Sys2Proof.Machine

/-! ## The operations of the scheduler -/

/-- The parts of `Scheduler.Wf` that the refill asks for: what removing items and elements keeps. -/
def Scheduler.Sound (q : Scheduler) : Prop :=
  q.queue.length ≤ 16 ∧ (q.queue.map fun it => it.entry).Nodup ∧
    (q.deferred.map fun d => d.entry).Pairwise (fun a b => a < b) ∧
    ∀ d ∈ q.deferred, ∀ it ∈ q.queue, it.entry ≠ d.entry

/-- The invariant of the queue speaks of the items and the deferred elements alone. -/
theorem Scheduler.Wf.of_eq {p q : Scheduler} (h : p.Wf) (hqueue : q.queue = p.queue) (hdeferred : q.deferred = p.deferred) :
    q.Wf := by
  unfold Scheduler.Wf
  rw [hqueue, hdeferred]
  exact h

theorem Scheduler.Wf.withCountdowns {q : Scheduler} (h : q.Wf) (v : Vector Byte 64) :
    Scheduler.Wf { q with countdowns := v } :=
  h.of_eq rfl rfl

theorem Scheduler.Wf.sound {q : Scheduler} (h : q.Wf) : q.Sound := by
  obtain ⟨hlength, hnodup, hsorted, hdisjoint, -⟩ := h
  exact ⟨hlength, hnodup, hsorted, hdisjoint⟩

theorem Scheduler.Sound.filter {q : Scheduler} (h : q.Sound) (keepItem : QueueItem → Bool)
    (keepElement : DeferredElement → Bool) :
    Scheduler.Sound
      { q with queue := q.queue.filter keepItem, deferred := q.deferred.filter keepElement } := by
  obtain ⟨hlength, hnodup, hsorted, hdisjoint⟩ := h
  refine ⟨(List.length_filter_le _ _).trans hlength, hnodup.sublist (List.filter_sublist.map _),
    hsorted.sublist (List.filter_sublist.map _), fun d hd it hit => ?_⟩
  exact hdisjoint d (List.mem_of_mem_filter hd) it (List.mem_of_mem_filter hit)

theorem Scheduler.Sound.filter_queue {q : Scheduler} (h : q.Sound) (keepItem : QueueItem → Bool) :
    Scheduler.Sound { q with queue := q.queue.filter keepItem } := by
  have hfilter := h.filter keepItem fun _ => true
  rwa [List.filter_true] at hfilter

theorem Scheduler.wf_of_deferred_nil {q : Scheduler} (h : q.Sound) (hnil : q.deferred = []) : q.Wf := by
  obtain ⟨hlength, hnodup, hsorted, hdisjoint⟩ := h
  exact ⟨hlength, hnodup, hsorted, hdisjoint, fun h => absurd hnil h⟩

/-- The item appended is for an entry that has none. -/
theorem Scheduler.Sound.append {q : Scheduler} (h : q.Sound) {e : EntryIndex} (hroom : q.queue.length < 16)
    (hqueue : ∀ it ∈ q.queue, it.entry ≠ e) (hdeferred : ∀ d ∈ q.deferred, d.entry ≠ e) (op : QueueOp)
    (origin : Origin) (cls : BitVec 2) : (q.append e op origin cls).Sound := by
  obtain ⟨-, hnodup, hsorted, hdisjoint⟩ := h
  refine ⟨?_, ?_, hsorted, fun d hd it hit => ?_⟩
  · simp only [Scheduler.append, List.length_append, List.length_singleton]
    omega
  · simp only [Scheduler.append, List.map_append, List.map_cons, List.map_nil]
    refine List.nodup_append.2 ⟨hnodup, List.nodup_singleton e, fun a ha b hb => ?_⟩
    obtain ⟨it, hit, rfl⟩ := List.mem_map.1 ha
    exact List.mem_singleton.1 hb ▸ hqueue it hit
  · obtain hit | hit := List.mem_append.1 hit
    · exact hdisjoint d hd it hit
    · exact List.mem_singleton.1 hit ▸ (hdeferred d hd).symm

theorem Scheduler.refillFrom_wf (priority : EntryIndex → BitVec 2) (l : List DeferredElement) (q : Scheduler)
    (h : Scheduler.Sound { q with deferred := l }) : (Scheduler.refillFrom priority l q).Wf := by
  induction l generalizing q with
  | nil => exact Scheduler.wf_of_deferred_nil h rfl
  | cons d rest ih =>
    unfold Scheduler.refillFrom
    obtain ⟨hlength, hnodup, hsorted, hdisjoint⟩ := h
    split
    next hroom =>
      obtain ⟨hfirst, hrest⟩ := List.pairwise_cons.1 hsorted
      have hrestSound : Scheduler.Sound { q with deferred := rest } :=
        ⟨hlength, hnodup, hrest, fun x hx => hdisjoint x (List.mem_cons_of_mem d hx)⟩
      refine ih _ (hrestSound.append hroom (hdisjoint d List.mem_cons_self) (fun x hx => ?_) d.op d.origin _)
      exact (hfirst x.entry (List.mem_map_of_mem hx)).ne'
    next hfull =>
      refine ⟨hlength, hnodup, hsorted, hdisjoint, fun _ => ?_⟩
      simp only [queueCapacity] at hfull
      dsimp only at hlength ⊢
      omega

theorem Scheduler.refill_wf (priority : EntryIndex → BitVec 2) {q : Scheduler} (h : q.Sound) :
    (Scheduler.refill priority q).Wf :=
  Scheduler.refillFrom_wf priority q.deferred q h

theorem Scheduler.emptied_wf (q : Scheduler) : q.emptied.Wf :=
  ⟨Nat.zero_le 16, List.nodup_nil, List.Pairwise.nil, nofun, fun h => absurd rfl h⟩

theorem Scheduler.Wf.merge {q : Scheduler} (h : q.Wf) (e : EntryIndex) (c : BitVec 2) : (q.merge e c).Wf := by
  obtain ⟨hlength, hnodup, hsorted, hdisjoint, hfull⟩ := h
  have hentry : ∀ it : QueueItem,
      (if it.entry = e then { it with cls := higherClass it.cls c } else it).entry = it.entry := by
    intro it
    split <;> rfl
  refine ⟨?_, ?_, hsorted, fun d hd it hit => ?_, fun hd => ?_⟩
  · simpa only [Scheduler.merge, List.length_map] using hlength
  · simpa only [Scheduler.merge, List.map_map, Function.comp_def, hentry] using hnodup
  · obtain ⟨x, hx, rfl⟩ := List.mem_map.1 hit
    rw [hentry]
    exact hdisjoint d hd x hx
  · simpa only [Scheduler.merge, List.length_map] using hfull hd

theorem mem_insertDeferred {x d : DeferredElement} {l : List DeferredElement} :
    x ∈ insertDeferred d l ↔ x = d ∨ x ∈ l := by
  obtain ⟨before, after, rfl, hinsert⟩ := insertDeferred_eq_append d l
  rw [hinsert]
  simp only [List.mem_append, List.mem_cons]
  tauto

theorem insertDeferred_sorted {d : DeferredElement} {l : List DeferredElement} (hnew : ∀ x ∈ l, x.entry ≠ d.entry)
    (h : (l.map fun x => x.entry).Pairwise (fun a b => a < b)) :
    ((insertDeferred d l).map fun x => x.entry).Pairwise (fun a b => a < b) := by
  induction l with
  | nil => exact List.pairwise_singleton _ _
  | cons x rest ih =>
    obtain ⟨hx, hrest⟩ := List.pairwise_cons.1 h
    unfold insertDeferred
    split
    next hle =>
      have hlt : d.entry < x.entry := lt_of_le_of_ne hle (hnew x List.mem_cons_self).symm
      refine List.pairwise_cons.2 ⟨fun e he => ?_, h⟩
      obtain rfl | he := List.mem_cons.1 he
      · exact hlt
      · exact hlt.trans (hx e he)
    next hle =>
      refine List.pairwise_cons.2 ⟨fun e he => ?_, ih (fun y hy => hnew y (List.mem_cons_of_mem x hy)) hrest⟩
      obtain ⟨y, hy, rfl⟩ := List.mem_map.1 he
      obtain rfl | hy := mem_insertDeferred.1 hy
      · exact not_le.1 hle
      · exact hx y.entry (List.mem_map_of_mem hy)

theorem Scheduler.Wf.defer {q : Scheduler} (h : q.Wf) {e : EntryIndex} (hfull : ¬ q.queue.length < 16)
    (hqueue : ∀ it ∈ q.queue, it.entry ≠ e) (hdeferred : ∀ d ∈ q.deferred, d.entry ≠ e) (op : QueueOp)
    (origin : Origin) : (q.defer e op origin).Wf := by
  obtain ⟨hlength, hnodup, hsorted, hdisjoint, -⟩ := h
  refine ⟨hlength, hnodup, insertDeferred_sorted hdeferred hsorted, fun d hd it hit => ?_, fun _ => ?_⟩
  · obtain rfl | hd := mem_insertDeferred.1 hd
    · exact hqueue it hit
    · exact hdisjoint d hd it hit
  · show q.queue.length = 16
    omega

/-! ## The operations of the state -/

theorem State.request_wf {s : State} (h : s.sched.Wf) (e : EntryIndex) (op : QueueOp) (origin : Origin) :
    (s.request e op origin).sched.Wf := by
  have hqueue : s.sched.queued e ≠ true → ∀ it ∈ s.sched.queue, it.entry ≠ e := fun hnot it hit he =>
    hnot (Scheduler.queued_iff.2 ⟨it, hit, he⟩)
  have hdeferred : s.sched.isDeferred e ≠ true → ∀ d ∈ s.sched.deferred, d.entry ≠ e := fun hnot d hd he =>
    hnot (Scheduler.isDeferred_iff.2 ⟨d, hd, he⟩)
  unfold State.request State.disposition
  by_cases hdropped : s.link.state.isQuarantine = true ∧ origin ≠ .periodic
  · simpa only [if_pos hdropped, State.setFlag_sched] using h
  by_cases hmerged : s.sched.queued e = true
  · simpa only [if_neg hdropped, if_pos hmerged, State.mapSched_sched] using h.merge e _
  by_cases hmergedDeferred : s.sched.isDeferred e = true
  · simpa only [if_neg hdropped, if_neg hmerged, if_pos hmergedDeferred] using h
  by_cases hroom : s.sched.queue.length < queueCapacity
  · simp only [if_neg hdropped, if_neg hmerged, if_neg hmergedDeferred, if_pos hroom, State.mapSched_sched]
    have hnil : s.sched.deferred = [] := by
      obtain ⟨-, -, -, -, hfull⟩ := h
      by_contra hne
      have := hfull hne
      simp only [queueCapacity] at hroom
      omega
    exact Scheduler.wf_of_deferred_nil (h.sound.append hroom (hqueue hmerged) (hdeferred hmergedDeferred) op origin _) hnil
  · simp only [if_neg hdropped, if_neg hmerged, if_neg hmergedDeferred, if_neg hroom, State.setFlag_sched,
      State.mapSched_sched]
    exact h.defer hroom (hqueue hmerged) (hdeferred hmergedDeferred) op origin

theorem State.removeWork_wf {s : State} (h : s.sched.Wf) (gone : EntryIndex → Bool) : (s.removeWork gone).sched.Wf :=
  Scheduler.refill_wf _ (h.sound.filter _ _)

theorem State.takeOffered_wf {s : State} (h : s.sched.Wf) : s.takeOffered.sched.Wf := by
  unfold State.takeOffered
  split
  · split
    · exact Scheduler.refill_wf _ (h.sound.filter_queue _)
    · exact h
  · exact h

/-- What every step of a fold over entry indices keeps, the fold keeps. -/
theorem foldl_keeps {P : State → Prop} {f : State → EntryIndex → State} (hf : ∀ t i, P t → P (f t i))
    (l : List EntryIndex) {s : State} (hs : P s) : P (l.foldl f s) := by
  induction l generalizing s with
  | nil => exact hs
  | cons i rest ih => exact ih (hf s i hs)

theorem State.reOffer_wf {s : State} (h : s.sched.Wf) : s.reOffer.sched.Wf := by
  unfold State.reOffer
  refine foldl_keeps (P := fun t => t.sched.Wf) (fun t i ht => ?_) entryIndices h
  split
  · exact State.request_wf ht i .publish .retry
  · exact ht

theorem State.countdownExpires_wf {s : State} (h : s.sched.Wf) (i : EntryIndex) : (s.countdownExpires i).sched.Wf := by
  have hloaded : (s.setCountdown i (s.activeEntry i).refresh).sched.Wf := h
  unfold State.countdownExpires
  dsimp only
  split
  · exact hloaded
  · exact State.request_wf hloaded i .refresh .periodic

theorem State.tickCountdowns_wf {s : State} (h : s.sched.Wf) : s.tickCountdowns.sched.Wf := by
  unfold State.tickCountdowns
  refine foldl_keeps (P := fun t => t.sched.Wf) (fun t i ht => ?_) entryIndices h
  unfold State.tickCountdown
  split
  · exact State.countdownExpires_wf ht i
  · split
    · exact ht
    · exact ht

theorem State.releaseQuarantine_wf {s : State} (h : s.sched.Wf) : s.releaseQuarantine.sched.Wf := by
  unfold State.releaseQuarantine
  refine State.takeOffered_wf (State.reOffer_wf ?_)
  rw [State.mapLink_sched]
  exact h

theorem State.schedAtCommit_wf {s : State} (h : s.sched.Wf) (old : Bank) : (s.schedAtCommit old).sched.Wf := by
  unfold State.schedAtCommit
  rw [State.mapSched_sched]
  exact (Scheduler.refill_wf s.priorityOf (h.sound.filter _ _)).withCountdowns _

theorem State.applyCommit_wf {s : State} (h : s.sched.Wf) : s.applyCommit.sched.Wf := by
  unfold State.applyCommit
  refine State.schedAtCommit_wf ?_ s.route.activeContents
  rw [State.recordsAtCommit_sched, State.mapRoute_sched]
  exact h

theorem State.applyPendingCommit_wf {s : State} (h : s.sched.Wf) : s.applyPendingCommit.sched.Wf := by
  unfold State.applyPendingCommit
  split
  · rw [State.finishPending_sched]
    exact State.applyCommit_wf h
  · exact h

theorem State.enterQuarantine_wf (s : State) : s.enterQuarantine.sched.Wf := by
  unfold State.enterQuarantine
  rw [State.finishPending_sched, State.finishPending_sched]
  exact Scheduler.emptied_wf _

theorem State.publishOutcome_wf {s : State} (h : s.sched.Wf) (i : EntryIndex) (version : Byte) (o : BranchOutcome) :
    (s.publishOutcome i version o).sched.Wf := by
  have hreport : (s.publishReport i version o).sched.Wf := by
    rw [State.publishReport_sched]
    exact h
  unfold State.publishOutcome
  dsimp only
  split
  · exact State.request_wf hreport i .publish .retry
  · exact hreport

theorem State.handOn_wf {s : State} (h : s.sched.Wf) (op : TransactionOp) (data : List Byte) (o : BranchOutcome) :
    (s.handOn op data o).sched.Wf := by
  cases op with
  | refresh i origin =>
    exact h.of_eq (State.refreshOutcome_sched_queue i data o s) (State.refreshOutcome_sched_deferred i data o s)
  | publish i origin version _ => exact State.publishOutcome_wf h i version o
  | relay i => exact h.of_eq (State.relayOutcome_sched_queue o s) (State.relayOutcome_sched_deferred o s)
  | sleep =>
    show (s.sleepOutcome o).sched.Wf
    rw [State.sleepOutcome_sched]
    exact h

theorem State.leaveTransaction_wf {s : State} (h : s.sched.Wf) (t : Transaction) (o : BranchOutcome) :
    (s.leaveTransaction t o).sched.Wf := by
  unfold State.leaveTransaction
  split
  · exact s.enterQuarantine_wf
  · split
    · exact h
    · exact h

theorem State.takeOutcome_wf {s : State} (h : s.sched.Wf) (t : Transaction) (data : List Byte) (o : BranchOutcome) :
    (s.takeOutcome t data o).sched.Wf := by
  have hcounted : ((s.scoreOutcome o).countOutcome t.op o).sched.Wf := by
    rw [State.countOutcome_sched, State.scoreOutcome_sched]
    exact h
  have hhanded := State.handOn_wf hcounted t.op data o
  unfold State.takeOutcome
  refine State.leaveTransaction_wf (State.applyPendingCommit_wf ?_) t o
  rw [State.mapLink_sched]
  exact hhanded

theorem State.pulseFails_wf {s : State} (h : s.sched.Wf) (fromAsleep : Bool) (rate : RateCode) :
    (s.pulseFails fromAsleep rate).sched.Wf := by
  have hscored : ((s.scoreOutcome .lineFault).finishPending Code.wakeBranch (Answer.plain .linkFailed)).sched.Wf := by
    rw [State.finishPending_sched, State.scoreOutcome_sched]
    exact h
  unfold State.pulseFails
  dsimp only
  split
  · exact State.enterQuarantine_wf _
  · split
    · exact hscored
    · exact hscored

theorem State.segmentReset_wf (s : State) : s.segmentReset.sched.Wf := by
  unfold State.segmentReset
  rw [State.finishPending_sched, State.finishPending_sched, State.clearFailures_sched]
  exact Scheduler.emptied_wf _

theorem State.resetBranch_wf (s : State) : s.resetBranch.sched.Wf := by
  unfold State.resetBranch
  exact State.applyPendingCommit_wf (State.reOffer_wf s.segmentReset_wf)

theorem HeaderTaken.wf {s t : State} (h : HeaderTaken s t) (hs : s.sched.Wf) : t.sched.Wf := by
  have hnoted : ∀ {u : State}, Noted s u → u.sched.Wf := by
    rintro u ⟨f, k, n, p, rfl⟩
    exact hs
  cases h with
  | noted h => exact hnoted h
  | offered h => exact State.takeOffered_wf (hnoted h)
  | demanded h i => exact State.takeOffered_wf (State.request_wf (hnoted h) i .refresh .demand)
  | admitted h _ i e channel h0 h1 =>
    rw [State.admitRelay_sched]
    exact hnoted h

/-! ## The commands and the steps -/

theorem Carried.wf {code : Byte} {s t : State} {a : Answer} (h : Carried code s t a) (hs : s.sched.Wf) : t.sched.Wf := by
  cases h with
  | committed => exact State.applyCommit_wf hs
  | requested st i op origin => exact State.takeOffered_wf (State.request_wf (s := s.mapStore fun _ => st) hs i op origin)
  | workRemoved st gone => exact State.removeWork_wf (s := s.mapStore fun _ => st) hs gone
  | released => exact State.releaseQuarantine_wf hs
  | loopbackLeft => exact State.takeOffered_wf (s := s.mapLink fun c => { c with mode := .normal, state := .idle }) hs
  | _ => exact hs

theorem State.downlinkCaptured_wf {s : State} (h : s.sched.Wf) (i : EntryIndex) (copy : Entry) (data : List Byte) :
    (s.downlinkCaptured i copy data).sched.Wf := by
  have hcapture : (s.trunkCapture i copy data).sched.Wf := by
    rw [State.trunkCapture_sched]
    exact h
  unfold State.downlinkCaptured
  split
  · exact State.takeOffered_wf (State.request_wf hcapture i .publish .downlink)
  · exact hcapture

theorem State.streamWritten_sched (data : List Byte) (s : State) : (s.streamWritten data).sched = s.sched := by
  unfold State.streamWritten
  split
  · split
    · rfl
    · rfl
  · rfl

theorem State.reportServed_sched (source : ServeSource) (s : State) : (s.reportServed source).sched = s.sched := by
  cases source with
  | record i version => exact State.recordServed_sched i version s
  | _ => rfl

theorem State.ticked_wf {s : State} (h : s.sched.Wf) : s.ticked.sched.Wf := by
  unfold State.ticked
  refine State.takeOffered_wf (State.tickCountdowns_wf ?_)
  rw [State.ageRecords_sched, State.tickLink_sched]
  exact h

theorem State.gapEnds_wf {s : State} (h : s.sched.Wf) : s.gapEnds.sched.Wf := by
  unfold State.gapEnds
  split
  · exact h
  · refine State.takeOffered_wf ?_
    rw [State.finishPending_sched]
    exact h

theorem Effect.wf {s t : State} (h : Effect s t) (hs : s.sched.Wf) : t.sched.Wf := by
  cases h with
  | started cause straps => exact Scheduler.emptied_wf (s.start cause straps).sched
  | breakTaken r =>
    show s.breakEnds.sched.Wf
    rw [State.breakEnds_sched]
    exact hs
  | headerTaken r j since => exact (takeHeader_headerTaken j since (s.setReceiver r)).wf hs
  | served r source =>
    rw [State.setPort_sched, State.reportServed_sched]
    exact hs
  | downlinkCaptured r i copy data =>
    exact State.downlinkCaptured_wf (s := (s.setReceiver r).setPort .passive) hs i copy data
  | streamWritten r data =>
    rw [State.streamWritten_sched]
    exact hs
  | command code tag ops owner hcode howner =>
    refine takeCommandThen_induction (P := fun t => t.sched.Wf) hs (fun _ => hs) (fun _ => hs) fun r _ => ?_
    exact (howner (s.setReceiver r).receiveRecord).wf hs
  | branchReset tag ops branch data =>
    refine takeCommandThen_induction (P := fun t => t.sched.Wf) hs (fun _ => hs) (fun _ => hs) fun r _ => ?_
    dsimp only [id]
    rw [State.recordAnswer_sched]
    exact State.takeOffered_wf (State.resetBranch_wf _)
  | restart tag ops straps =>
    refine takeCommandThen_induction (P := fun t => t.sched.Wf) hs (fun _ => hs) (fun _ => hs) fun r _ => ?_
    exact Scheduler.emptied_wf (startState .restart straps s.config.image s.agent.result s.pending).sched
  | saved c count =>
    rw [State.finishPending_sched]
    exact hs
  | saveFailed c count =>
    rw [State.finishPending_sched]
    exact hs
  | loaded c word =>
    rw [State.finishPending_sched]
    exact hs
  | headerSent r t hstate =>
    unfold State.headerSent
    cases t.op <;> exact hs
  | outcome r t data o =>
    exact State.takeOutcome_wf (s := s.setBranchReceiver r) hs t data o
  | gapEnded => exact State.gapEnds_wf hs
  | pulseEnded r low fromAsleep steps rate =>
    unfold State.pulseEnds
    split <;> exact hs
  | pulseFailed r low fromAsleep steps rate =>
    exact State.pulseFails_wf (s := (s.setBranchReceiver r).mapLink fun c => { c with outsideLow := low }) hs fromAsleep rate
  | ticked => exact State.ticked_wf hs
  | countdownExpired i => exact State.takeOffered_wf (State.countdownExpires_wf hs i)
  | sampled high =>
    unfold State.decideSample
    split
    · exact State.releaseQuarantine_wf hs
    · exact hs
  | settleExpired =>
    refine State.takeOffered_wf ?_
    rw [State.settleExpires_sched]
    exact hs
  | _ => exact hs

/-- Settles O57: every effect of a command keeps the invariant of the queue. -/
theorem stepKeepsQueueWellFormed : Obligations.StepKeepsQueueWellFormed := by
  intro s s' hs hstep
  exact step_keeps (P := fun t => t.sched.Wf) (fun _ _ h => h) (fun _ _ h he => he.wf h) hs hstep

end Sys2Proof.Machine

/-! PROOFS. Every entry that the relay holds stays within its encoding over every step (R20, R174). -/

namespace Sys2Proof.Machine

/-- The invariant speaks of the two banks, the image and a save's snapshot alone. -/
theorem EncodableInv.of_eq {s t : State} (h : EncodableInv s) (hroute : t.route = s.route) (hconfig : t.config = s.config) :
    EncodableInv t := by
  unfold EncodableInv
  rw [hroute, hconfig]
  exact h

theorem EncodableInv.of_banks {s t : State} (h : EncodableInv s) (ha : t.route.bankA = s.route.bankA)
    (hb : t.route.bankB = s.route.bankB) (hconfig : t.config = s.config) : EncodableInv t := by
  unfold EncodableInv
  rw [ha, hb, hconfig]
  exact h

theorem EncodableInv.setEdit {s : State} (h : EncodableInv s) {b : Bank} (hb : b.Encodable) :
    EncodableInv (s.mapRoute (RouteTable.setEdit b)) := by
  obtain ⟨hbankA, hbankB, himage, hsnapshot⟩ := h
  unfold EncodableInv
  rw [State.mapRoute_route, State.mapRoute_config, RouteTable.setEdit]
  cases s.route.activeBank
  · exact ⟨hbankA, hb, himage, hsnapshot⟩
  · exact ⟨hb, hbankB, himage, hsnapshot⟩

/-- The configuration store written with an image and a store state whose entries are within their encoding. -/
theorem EncodableInv.mapConfig {s : State} (h : EncodableInv s) {f : ConfigStore → ConfigStore}
    (himage : ∀ c ∈ (f s.config).image.contents, c.bank.Encodable)
    (hsnapshot : ∀ c ∈ (f s.config).store.snapshot, c.bank.Encodable) : EncodableInv (s.mapConfig f) := by
  obtain ⟨ha, hb, -, -⟩ := h
  exact ⟨ha, hb, himage, hsnapshot⟩

theorem EncodableInv.applyCommit {s : State} (h : EncodableInv s) : EncodableInv s.applyCommit := by
  refine h.of_banks ?_ ?_ (State.applyCommit_config s)
  · rw [State.applyCommit_route_eq]
    rfl
  · rw [State.applyCommit_route_eq]
    rfl

theorem EncodableInv.applyPendingCommit {s : State} (h : EncodableInv s) : EncodableInv s.applyPendingCommit := by
  unfold State.applyPendingCommit
  split
  · exact h.applyCommit.of_eq (State.finishPending_route _ _ _) (State.finishPending_config _ _ _)
  · exact h

/-- A start finds its table in the image, or in the cleared bank. -/
theorem startContents_encodable {image : Image} (h : ∀ c ∈ image.contents, c.bank.Encodable) :
    (startContents image).bank.Encodable := by
  unfold startContents Image.validContents
  cases image with
  | unmatched => exact clearedBank_encodable
  | written c word =>
    dsimp only
    split
    · exact h c rfl
    · exact clearedBank_encodable

theorem startState_encodable (cause : ResetCause) (straps : Straps) {image : Image} (result : ResultRecord)
    (pending : List Instr) (h : ∀ c ∈ image.contents, c.bank.Encodable) :
    EncodableInv (startState cause straps image result pending) := by
  refine ⟨startContents_encodable h, startContents_encodable h, h, fun c hc => ?_⟩
  have hstore : (startState cause straps image result pending).config.store =
      if image.validContents.isSome then .valid else .invalid := rfl
  rw [hstore] at hc
  split at hc <;> cases hc

theorem HeaderTaken.encodable {s t : State} (h : HeaderTaken s t) (hs : EncodableInv s) : EncodableInv t := by
  have hnoted : ∀ {u : State}, Noted s u → EncodableInv u := by
    rintro u ⟨f, k, n, p, rfl⟩
    exact hs
  cases h with
  | noted h => exact hnoted h
  | offered h => exact (hnoted h).of_eq (State.takeOffered_route _) (State.takeOffered_config _)
  | @demanded u h i =>
    refine (hnoted h).of_eq ?_ ?_
    · rw [State.takeOffered_route, State.request_route]
    · rw [State.takeOffered_config, State.request_config]
  | admitted h => exact (hnoted h).of_eq (State.admitRelay_route _ _ _ _ _ _) (State.admitRelay_config _ _ _ _ _ _)

theorem Carried.encodable {code : Byte} {s t : State} {a : Answer} (h : Carried code s t a) (hs : EncodableInv s) :
    EncodableInv t := by
  cases h with
  | edited b hb => exact hs.setEdit (hb hs)
  | committed => exact hs.applyCommit
  | requested st i op origin =>
    refine hs.of_eq ?_ ?_
    · rw [State.takeOffered_route, State.request_route, State.mapStore_route]
    · rw [State.takeOffered_config, State.request_config, State.mapStore_config]
  | released => exact hs.of_eq (State.releaseQuarantine_route s) (State.releaseQuarantine_config s)
  | loopbackLeft => exact hs.of_eq (State.takeOffered_route _) (State.takeOffered_config _)
  | saveBegun =>
    refine hs.mapConfig nofun fun c hc => ?_
    cases hc
    exact hs.bankOf s.route.activeBank
  | loadBegun =>
    obtain ⟨-, -, himage, -⟩ := id hs
    exact hs.mapConfig himage nofun
  | _ => exact hs

theorem EncodableInv.streamWritten {s : State} (h : EncodableInv s) (data : List Byte) :
    EncodableInv (s.streamWritten data) := by
  unfold State.streamWritten
  split
  next e i hentry hindex =>
    split
    · exact h.setEdit (Bank.Encodable.setEntry (h.bankOf _) i (decodeEntry_silentLimit hentry))
    · exact h
  · exact h

theorem EncodableInv.downlinkCaptured {s : State} (h : EncodableInv s) (i : EntryIndex) (copy : Entry)
    (data : List Byte) : EncodableInv (s.downlinkCaptured i copy data) := by
  have hcapture : EncodableInv (s.trunkCapture i copy data) :=
    h.of_eq (State.trunkCapture_route i copy data s) (State.trunkCapture_config i copy data s)
  unfold State.downlinkCaptured
  split
  · refine hcapture.of_eq ?_ ?_
    · rw [State.takeOffered_route, State.request_route]
    · rw [State.takeOffered_config, State.request_config]
  · exact hcapture

theorem EncodableInv.reportServed {s : State} (h : EncodableInv s) (source : ServeSource) :
    EncodableInv (s.reportServed source) := by
  cases source with
  | record i version =>
    exact h.of_eq (State.recordServed_route i version s) (State.recordServed_config i version s)
  | _ => exact h

theorem EncodableInv.takeOutcome {s : State} (h : EncodableInv s) (t : Transaction) (data : List Byte)
    (o : BranchOutcome) : EncodableInv (s.takeOutcome t data o) := by
  unfold State.takeOutcome
  have hhanded : EncodableInv ((((s.scoreOutcome o).countOutcome t.op o).handOn t.op data o).mapLink fun c =>
      { c with responder := none }) := by
    refine h.of_eq ?_ ?_
    · rw [State.mapLink_route, State.handOn_route, State.countOutcome_route, State.scoreOutcome_route]
    · rw [State.mapLink_config, State.handOn_config, State.countOutcome_config, State.scoreOutcome_config]
  exact hhanded.applyPendingCommit.of_eq (State.leaveTransaction_route _ _ _) (State.leaveTransaction_config _ _ _)

theorem EncodableInv.gapEnds {s : State} (h : EncodableInv s) : EncodableInv s.gapEnds := by
  unfold State.gapEnds
  split
  · exact h
  · refine h.of_eq ?_ ?_
    · rw [State.takeOffered_route, State.finishPending_route, State.setLinkState_route]
    · rw [State.takeOffered_config, State.finishPending_config, State.setLinkState_config]

theorem EncodableInv.pulseFails {s : State} (h : EncodableInv s) (fromAsleep : Bool) (rate : RateCode) :
    EncodableInv (s.pulseFails fromAsleep rate) := by
  have hscored : EncodableInv ((s.scoreOutcome .lineFault).finishPending Code.wakeBranch (Answer.plain .linkFailed)) := by
    refine h.of_eq ?_ ?_
    · rw [State.finishPending_route, State.scoreOutcome_route]
    · rw [State.finishPending_config, State.scoreOutcome_config]
  unfold State.pulseFails
  dsimp only
  split
  · exact hscored.of_eq (State.enterQuarantine_route _) (State.enterQuarantine_config _)
  · split
    · exact hscored
    · exact hscored

theorem EncodableInv.hearFrameCut {s : State} (h : EncodableInv s) (branch : Transmission) :
    EncodableInv (s.hearFrameCut branch) := by
  unfold State.hearFrameCut
  split <;> exact h

theorem EncodableInv.resetBranch {s : State} (h : EncodableInv s) : EncodableInv s.resetBranch := by
  have habandoned : EncodableInv s.abandonTransaction := by
    unfold State.abandonTransaction
    split
    · split
      · exact h.of_eq (State.abandonRelay_route s) (State.abandonRelay_config s)
      all_goals exact h
    · exact h
  have hreset : EncodableInv s.segmentReset := by
    unfold State.segmentReset
    refine habandoned.of_eq ?_ ?_
    · rw [State.finishPending_route, State.finishPending_route, State.clearFailures_route, State.mapSched_route,
        State.mapLink_route]
    · rw [State.finishPending_config, State.finishPending_config, State.clearFailures_config, State.mapSched_config,
        State.mapLink_config]
  unfold State.resetBranch
  exact (hreset.of_eq (State.reOffer_route _) (State.reOffer_config _)).applyPendingCommit

theorem Effect.encodable {s t : State} (h : Effect s t) (hs : EncodableInv s) : EncodableInv t := by
  obtain ⟨-, -, himage, hsnapshot⟩ := id hs
  cases h with
  | started cause straps => exact startState_encodable cause straps _ s.pending himage
  | breakTaken r =>
    refine hs.of_eq ?_ ?_
    · show s.breakEnds.route = s.route
      unfold State.breakEnds
      split <;> rfl
    · show s.breakEnds.config = s.config
      unfold State.breakEnds
      split <;> rfl
  | headerTaken r j since => exact (takeHeader_headerTaken j since (s.setReceiver r)).encodable hs
  | served r source => exact EncodableInv.reportServed (s := s.setReceiver r) hs source
  | downlinkCaptured r i copy data =>
    exact EncodableInv.downlinkCaptured (s := (s.setReceiver r).setPort .passive) hs i copy data
  | streamWritten r data => exact EncodableInv.streamWritten (s := (s.setReceiver r).setPort .passive) hs data
  | command code tag ops owner hcode howner =>
    refine takeCommandThen_induction hs (fun _ => hs) (fun _ => hs) fun r _ => ?_
    exact (howner (s.setReceiver r).receiveRecord).encodable hs
  | branchReset tag ops branch data =>
    refine takeCommandThen_induction hs (fun _ => hs) (fun _ => hs) fun r _ => ?_
    have hheard : EncodableInv ((s.setReceiver r).receiveRecord.hearFrameCut branch) :=
      EncodableInv.hearFrameCut (s := (s.setReceiver r).receiveRecord) hs branch
    refine hheard.resetBranch.of_eq ?_ ?_
    · dsimp only [id]
      rw [State.recordAnswer_route, State.takeOffered_route]
    · dsimp only [id]
      rw [State.recordAnswer_config, State.takeOffered_config]
  | restart tag ops straps =>
    refine takeCommandThen_induction hs (fun _ => hs) (fun _ => hs) fun r _ => ?_
    exact startState_encodable .restart straps _ s.pending himage
  | saved c count hstore =>
    have hwritten : EncodableInv (s.mapConfig fun g =>
        { g with image := .written c c.integrityWord, store := .valid }) := by
      refine hs.mapConfig (fun c' hc' => ?_) nofun
      cases hc'
      exact hsnapshot c (by rw [hstore]; rfl)
    exact hwritten.of_eq (State.finishPending_route _ _ _) (State.finishPending_config _ _ _)
  | saveFailed c count hstore =>
    refine EncodableInv.of_eq (hs.mapConfig (f := fun g => { g with image := .unmatched, store := .invalid }) nofun nofun)
      ?_ ?_
    · rw [State.finishPending_route, State.setFlag_route]
    · rw [State.finishPending_config, State.setFlag_config]
  | loaded c word hstore hstored =>
    have hbank : c.bank.Encodable := himage c (by rw [hstored]; rfl)
    have hloaded : EncodableInv (s.applyLoad c) := hs.setEdit hbank
    exact EncodableInv.of_eq (hloaded.mapConfig (f := fun g => { g with store := .valid }) himage nofun)
      (State.finishPending_route _ _ _) (State.finishPending_config _ _ _)
  | headerSent r t hstate =>
    unfold State.headerSent
    split <;> exact hs
  | outcome r t data o => exact EncodableInv.takeOutcome (s := s.setBranchReceiver r) hs t data o
  | gapEnded => exact hs.gapEnds
  | pulseEnded r low fromAsleep steps rate =>
    unfold State.pulseEnds
    split <;> exact hs
  | pulseFailed r low fromAsleep steps rate =>
    exact EncodableInv.pulseFails (s := (s.setBranchReceiver r).mapLink fun c => { c with outsideLow := low }) hs
      fromAsleep rate
  | ticked =>
    unfold State.ticked
    refine hs.of_eq ?_ ?_
    · rw [State.takeOffered_route, State.tickCountdowns_route, State.ageRecords_route, State.tickLink_route,
        State.mapSched_route]
    · rw [State.takeOffered_config, State.tickCountdowns_config, State.ageRecords_config, State.tickLink_config,
        State.mapSched_config]
  | countdownExpired i =>
    refine hs.of_eq ?_ ?_
    · rw [State.takeOffered_route, State.countdownExpires_route]
    · rw [State.takeOffered_config, State.countdownExpires_config]
  | sampled high =>
    unfold State.decideSample
    split
    · exact hs.of_eq (State.releaseQuarantine_route s) (State.releaseQuarantine_config s)
    · exact hs
  | settleExpired =>
    refine hs.of_eq ?_ ?_
    · rw [State.takeOffered_route, State.settleExpires_route]
    · rw [State.takeOffered_config, State.settleExpires_config]
  | _ => exact hs

/-- Settles O59: every effect of a command keeps the entries within their encoding. -/
theorem stepKeepsEntriesEncodable : Obligations.StepKeepsEntriesEncodable := by
  intro s s' hs hstep
  exact step_keeps (P := EncodableInv) (fun _ _ h => h) (fun _ _ h he => he.encodable h) hs hstep

end Sys2Proof.Machine

/-! PROOFS. RESULT, the slot, the pending commit and the store state agree over every step (R153, R162). -/

namespace Sys2Proof.Machine

/-! ## The invariant apart from the link -/

theorem State.slotHeldBy_iff {s : State} {code : Byte} :
    s.slotHeldBy code = true ↔ ∃ sl, s.agent.slot = some sl ∧ sl.code = code := by
  unfold State.slotHeldBy
  cases s.agent.slot with
  | none => simp
  | some sl => simp

theorem State.slotHeldBy_unique {s : State} {a b : Byte} (ha : s.slotHeldBy a = true) (hb : s.slotHeldBy b = true) :
    a = b := by
  obtain ⟨sl, hsl, rfl⟩ := State.slotHeldBy_iff.1 ha
  obtain ⟨sl', hsl', rfl⟩ := State.slotHeldBy_iff.1 hb
  rw [hsl] at hsl'
  rw [Option.some.inj hsl']

/-- `SlotInv` without the clause about the link. -/
def SlotCore (s : State) : Prop :=
  (∀ sl ∈ s.agent.slot,
      s.agent.result.code = sl.code ∧ s.agent.result.tag = sl.tag ∧ s.agent.result.outcome = .pending ∧
        sl.code ∈ [0x15#8, 0x50#8, 0x51#8, 0x60#8, 0x61#8]) ∧
    (s.agent.slot = none → s.agent.result.outcome ≠ .pending) ∧
    (s.slotHeldBy 0x15#8 = true ↔ s.route.commitPending = true) ∧
    (s.slotHeldBy 0x60#8 = true ↔ s.config.store.isSaving = true) ∧
    (s.slotHeldBy 0x61#8 = true ↔ s.config.store = .loading)

theorem slotInv_iff {s : State} :
    SlotInv s ↔ SlotCore s ∧ (s.route.commitPending = true → s.link.state.inTransaction = true) := by
  unfold SlotInv SlotCore
  tauto

theorem SlotInv.core {s : State} (h : SlotInv s) : SlotCore s :=
  (slotInv_iff.1 h).1

/-- The slot, RESULT, the pending commit and the store state are the same in both states. -/
def SameSlot (s t : State) : Prop :=
  t.agent.slot = s.agent.slot ∧ t.agent.result = s.agent.result ∧
    t.route.commitPending = s.route.commitPending ∧ t.config.store = s.config.store

theorem SlotCore.of_same {s t : State} (h : SlotCore s) (hsame : SameSlot s t) : SlotCore t := by
  obtain ⟨hslot, hresult, hcommit, hstore⟩ := hsame
  unfold SlotCore State.slotHeldBy
  rw [hslot, hresult, hcommit, hstore]
  exact h

/-- Where the invariant holds and the link keeps a transaction on the branch, what leaves the slot alone keeps it. -/
theorem SlotInv.of_same {s t : State} (h : SlotInv s) (hsame : SameSlot s t)
    (hlink : s.link.state.inTransaction = true → t.link.state.inTransaction = true) : SlotInv t := by
  obtain ⟨hcore, hcommit⟩ := slotInv_iff.1 h
  refine slotInv_iff.2 ⟨hcore.of_same hsame, fun hpending => hlink (hcommit ?_)⟩
  obtain ⟨-, -, heq, -⟩ := hsame
  rwa [← heq]

/-- A state without a transaction on the branch has no commit pending. -/
theorem SlotInv.not_pending {s : State} (h : SlotInv s) (hlink : s.link.state.inTransaction = false) :
    s.route.commitPending = false := by
  obtain ⟨-, hcommit⟩ := slotInv_iff.1 h
  by_contra hpending
  rw [hcommit (by simpa using hpending)] at hlink
  cases hlink

theorem SlotCore.inv_of_not_pending {s : State} (h : SlotCore s) (hpending : s.route.commitPending = false) :
    SlotInv s :=
  slotInv_iff.2 ⟨h, fun h => by rw [hpending] at h; cases h⟩

/-- With nothing in progress the slot is empty. -/
theorem slotCore_of_free {s : State} (hslot : s.agent.slot = none) (hresult : s.agent.result.outcome ≠ .pending)
    (hcommit : s.route.commitPending = false) (hsaving : s.config.store.isSaving = false)
    (hloading : s.config.store ≠ .loading) : SlotCore s := by
  unfold SlotCore State.slotHeldBy
  rw [hslot, hcommit, hsaving]
  refine ⟨nofun, fun _ => hresult, ?_, ?_, ?_⟩ <;> simp [hloading]

/-- With the slot empty nothing is in progress. -/
theorem SlotCore.free {s : State} (h : SlotCore s) (hslot : s.agent.slot = none) :
    s.route.commitPending = false ∧ s.config.store.isSaving = false ∧ s.config.store ≠ .loading := by
  obtain ⟨-, -, hcommit, hsaving, hloading⟩ := h
  have hheld : ∀ code, s.slotHeldBy code ≠ true := by
    intro code hheld
    obtain ⟨sl, hsl, -⟩ := State.slotHeldBy_iff.1 hheld
    rw [hslot] at hsl
    cases hsl
  exact ⟨Bool.eq_false_iff.2 fun h => hheld _ (hcommit.2 h), Bool.eq_false_iff.2 fun h => hheld _ (hsaving.2 h),
    fun h => hheld _ (hloading.2 h)⟩

/-- While one command holds the slot, nothing that belongs to another is in progress. -/
theorem SlotCore.commit_of_held {s : State} (h : SlotCore s) {code : Byte} (hheld : s.slotHeldBy code = true)
    (hcode : code ≠ 0x15#8) : s.route.commitPending = false := by
  obtain ⟨-, -, hcommit, -, -⟩ := h
  exact Bool.eq_false_iff.2 fun hpending => hcode (State.slotHeldBy_unique hheld (hcommit.2 hpending))

theorem SlotCore.saving_of_held {s : State} (h : SlotCore s) {code : Byte} (hheld : s.slotHeldBy code = true)
    (hcode : code ≠ 0x60#8) : s.config.store.isSaving = false := by
  obtain ⟨-, -, -, hsaving, -⟩ := h
  exact Bool.eq_false_iff.2 fun hstore => hcode (State.slotHeldBy_unique hheld (hsaving.2 hstore))

theorem SlotCore.loading_of_held {s : State} (h : SlotCore s) {code : Byte} (hheld : s.slotHeldBy code = true)
    (hcode : code ≠ 0x61#8) : s.config.store ≠ .loading := by
  obtain ⟨-, -, -, -, hloading⟩ := h
  exact fun hstore => hcode (State.slotHeldBy_unique hheld (hloading.2 hstore))

/-! ## The final outcome of a pending command (R153) -/

theorem State.finishPending_of_held {s : State} {code : Byte} (h : s.slotHeldBy code = true) (a : Answer) :
    s.finishPending code a =
      s.mapAgent fun g => { g with slot := none, result := { g.result with outcome := a.outcome, data := a.data } } :=
  if_pos h

theorem State.finishPending_of_not_held {s : State} {code : Byte} (h : s.slotHeldBy code ≠ true) (a : Answer) :
    s.finishPending code a = s :=
  if_neg h

/-- A command whose own state has gone completes: nothing is left in progress. -/
theorem slotCore_finishPending_of_held {s : State} {code : Byte} {a : Answer} (ha : a.outcome ≠ .pending)
    (hheld : s.slotHeldBy code = true) (hcommit : s.route.commitPending = false)
    (hsaving : s.config.store.isSaving = false) (hloading : s.config.store ≠ .loading) :
    SlotCore (s.finishPending code a) := by
  rw [State.finishPending_of_held hheld]
  exact slotCore_of_free rfl ha hcommit hsaving hloading

/-- SLEEP_BRANCH or WAKE_BRANCH completes, if it holds the slot. -/
theorem SlotCore.finishPending {s : State} (h : SlotCore s) {code : Byte} (hcode : code = 0x50#8 ∨ code = 0x51#8)
    {a : Answer} (ha : a.outcome ≠ .pending) : SlotCore (s.finishPending code a) := by
  by_cases hheld : s.slotHeldBy code = true
  · refine slotCore_finishPending_of_held ha hheld (h.commit_of_held hheld ?_) (h.saving_of_held hheld ?_)
      (h.loading_of_held hheld ?_)
    all_goals obtain rfl | rfl := hcode <;> decide
  · rwa [State.finishPending_of_not_held hheld]

theorem SlotCore.applyPendingCommit {s : State} (h : SlotCore s) : SlotCore s.applyPendingCommit := by
  obtain ⟨-, -, hcommit, -, -⟩ := id h
  unfold State.applyPendingCommit
  split
  next hpending =>
    have hheld : s.slotHeldBy 0x15#8 = true := hcommit.2 hpending
    have happlied : s.applyCommit.slotHeldBy 0x15#8 = true := by
      unfold State.slotHeldBy
      rw [State.applyCommit_agent]
      exact hheld
    refine slotCore_finishPending_of_held nofun happlied ?_ ?_ ?_
    · rw [State.applyCommit_route_eq]
      rfl
    · rw [State.applyCommit_config]
      exact h.saving_of_held hheld (by decide)
    · rw [State.applyCommit_config]
      exact h.loading_of_held hheld (by decide)
  next => exact h

theorem State.applyPendingCommit_commitPending (s : State) : s.applyPendingCommit.route.commitPending = false := by
  unfold State.applyPendingCommit
  split
  · rw [State.finishPending_route, State.applyCommit_route_eq]
    rfl
  next h => exact Bool.eq_false_iff.2 h

/-! ## What leaves the slot alone -/

theorem LinkState.isIdle_of_inTransaction {l : LinkState} (h : l.inTransaction = true) : l.isIdle = false := by
  cases l with
  | idle => cases h
  | _ => rfl

theorem LinkState.isQuarantine_of_inTransaction {l : LinkState} (h : l.inTransaction = true) :
    l.isQuarantine = false := by
  cases l with
  | quarantine => cases h
  | _ => rfl

theorem LinkState.isSettling_of_inTransaction {l : LinkState} (h : l.inTransaction = true) : l.isSettling = false := by
  cases l with
  | wakeSettle => cases h
  | _ => rfl

theorem State.takeOffered_of_inTransaction {s : State} (h : s.link.state.inTransaction = true) : s.takeOffered = s := by
  unfold State.takeOffered
  rw [LinkState.isIdle_of_inTransaction h]
  rfl

theorem SlotInv.takeOffered {s : State} (h : SlotInv s) : SlotInv s.takeOffered := by
  refine h.of_same ⟨?_, ?_, ?_, ?_⟩ fun hlink => ?_
  · rw [State.takeOffered_agent]
  · rw [State.takeOffered_agent]
  · rw [State.takeOffered_route]
  · rw [State.takeOffered_config]
  · rwa [State.takeOffered_of_inTransaction hlink]

theorem SlotInv.request {s : State} (h : SlotInv s) (e : EntryIndex) (op : QueueOp) (origin : Origin) :
    SlotInv (s.request e op origin) := by
  refine h.of_same ⟨State.request_agent_slot e op origin s, State.request_agent_result e op origin s, ?_, ?_⟩ fun hlink => ?_
  · rw [State.request_route]
  · rw [State.request_config]
  · rwa [State.request_link]

theorem State.reOffer_sameSlot (s : State) : SameSlot s s.reOffer := by
  unfold State.reOffer
  refine foldl_keeps (P := fun t => SameSlot s t) (fun t i ht => ?_) entryIndices ⟨rfl, rfl, rfl, rfl⟩
  obtain ⟨hslot, hresult, hcommit, hstore⟩ := ht
  split
  · refine ⟨?_, ?_, ?_, ?_⟩
    · rw [State.request_agent_slot, hslot]
    · rw [State.request_agent_result, hresult]
    · rw [State.request_route, hcommit]
    · rw [State.request_config, hstore]
  · exact ⟨hslot, hresult, hcommit, hstore⟩

theorem State.releaseQuarantine_sameSlot (s : State) : SameSlot s s.releaseQuarantine := by
  have h := State.reOffer_sameSlot (s.mapLink fun c => { c with state := .idle, score := 0#8, hold := 0#8, sampling := false })
  unfold State.releaseQuarantine SameSlot
  rw [State.takeOffered_agent, State.takeOffered_route, State.takeOffered_config]
  exact h

theorem HeaderTaken.slotInv {s t : State} (h : HeaderTaken s t) (hs : SlotInv s) : SlotInv t := by
  have hnoted : ∀ {u : State}, Noted s u → SlotInv u := by
    rintro u ⟨f, k, n, p, rfl⟩
    exact hs
  cases h with
  | noted h => exact hnoted h
  | offered h => exact (hnoted h).takeOffered
  | demanded h i => exact ((hnoted h).request i .refresh .demand).takeOffered
  | admitted h => exact (hnoted h).of_same ⟨rfl, rfl, rfl, rfl⟩ fun _ => rfl

/-! ## The outcome of a transaction -/

theorem SlotCore.enterQuarantine {s : State} (h : SlotCore s) : SlotCore s.enterQuarantine := by
  have hemptied : SlotCore (((s.mapLink fun c =>
      { c with state := .quarantine, hold := c.line.holdOnEntry, sampling := false, sleepFramePending := false }).setFlag
      .linkQuarantined).mapSched Scheduler.emptied) := h.of_same ⟨rfl, rfl, rfl, rfl⟩
  exact (hemptied.finishPending (.inl rfl) (a := Answer.plain .linkFailed) nofun).finishPending (.inr rfl)
    (a := Answer.plain .linkFailed) nofun

theorem SlotCore.handOn {s : State} (h : SlotCore s) (op : TransactionOp) (data : List Byte) (o : BranchOutcome) :
    SlotCore (s.handOn op data o) := by
  cases op with
  | refresh i origin =>
    refine h.of_same ⟨State.refreshOutcome_agent_slot i data o s, State.refreshOutcome_agent_result i data o s, ?_, ?_⟩
    · exact congrArg _ (State.refreshOutcome_route i data o s)
    · exact congrArg _ (State.refreshOutcome_config i data o s)
  | publish i origin version _ =>
    refine h.of_same
      ⟨State.publishOutcome_agent_slot i version o s, State.publishOutcome_agent_result i version o s, ?_, ?_⟩
    · exact congrArg _ (State.publishOutcome_route i version o s)
    · exact congrArg _ (State.publishOutcome_config i version o s)
  | relay i =>
    refine h.of_same ⟨State.relayOutcome_agent_slot o s, State.relayOutcome_agent_result o s, ?_, ?_⟩
    · exact congrArg _ (State.relayOutcome_route o s)
    · exact congrArg _ (State.relayOutcome_config o s)
  | sleep =>
    refine h.finishPending (.inl rfl) ?_
    unfold Answer.plain
    dsimp only
    split <;> nofun

theorem State.scoreOutcome_sameSlot (o : BranchOutcome) (s : State) : SameSlot s (s.scoreOutcome o) := by
  refine ⟨State.scoreOutcome_agent_slot o s, State.scoreOutcome_agent_result o s, ?_, ?_⟩
  · rw [State.scoreOutcome_route]
  · rw [State.scoreOutcome_config]

theorem State.countOutcome_sameSlot (op : TransactionOp) (o : BranchOutcome) (s : State) :
    SameSlot s (s.countOutcome op o) := by
  refine ⟨State.countOutcome_agent_slot op o s, State.countOutcome_agent_result op o s, ?_, ?_⟩
  · rw [State.countOutcome_route]
  · rw [State.countOutcome_config]

theorem SlotInv.leaveTransaction {s : State} (h : SlotCore s) (hcommit : s.route.commitPending = false)
    (t : Transaction) (o : BranchOutcome) : SlotInv (s.leaveTransaction t o) := by
  refine SlotCore.inv_of_not_pending ?_ ((congrArg _ (State.leaveTransaction_route t o s)).trans hcommit)
  unfold State.leaveTransaction
  split
  · exact h.enterQuarantine
  · split
    · exact h.of_same ⟨rfl, rfl, rfl, rfl⟩
    · exact h.of_same ⟨rfl, rfl, rfl, rfl⟩

theorem SlotInv.takeOutcome {s : State} (h : SlotInv s) (t : Transaction) (data : List Byte) (o : BranchOutcome) :
    SlotInv (s.takeOutcome t data o) := by
  unfold State.takeOutcome
  have hcounted : SlotCore ((s.scoreOutcome o).countOutcome t.op o) :=
    (h.core.of_same (s.scoreOutcome_sameSlot o)).of_same (State.countOutcome_sameSlot t.op o _)
  have hhanded := (hcounted.handOn t.op data o).of_same (t := (((s.scoreOutcome o).countOutcome t.op o).handOn t.op data
    o).mapLink fun c => { c with responder := none }) ⟨rfl, rfl, rfl, rfl⟩
  exact SlotInv.leaveTransaction hhanded.applyPendingCommit (State.applyPendingCommit_commitPending _) t o

/-! ## Gaps, pulses, settling and the segment reset -/

theorem SlotInv.gapEnds {s : State} (h : SlotInv s) (hlink : s.link.state.inTransaction = false) : SlotInv s.gapEnds := by
  have hcommit := h.not_pending hlink
  have hidle : SlotInv (s.setLinkState .idle) :=
    SlotCore.inv_of_not_pending (h.core.of_same ⟨rfl, rfl, rfl, rfl⟩) hcommit
  unfold State.gapEnds
  split
  · exact hidle.of_same ⟨rfl, rfl, rfl, rfl⟩ fun _ => rfl
  · refine SlotInv.takeOffered (SlotCore.inv_of_not_pending (hidle.core.finishPending (.inr rfl) nofun) ?_)
    rw [State.finishPending_route]
    exact hcommit

theorem SlotInv.pulseFails {s : State} (h : SlotInv s) (hlink : s.link.state.inTransaction = false) (fromAsleep : Bool)
    (rate : RateCode) : SlotInv (s.pulseFails fromAsleep rate) := by
  have hscored : SlotCore ((s.scoreOutcome .lineFault).finishPending Code.wakeBranch (Answer.plain .linkFailed)) :=
    (h.core.of_same (s.scoreOutcome_sameSlot .lineFault)).finishPending (.inr rfl) nofun
  have hcommit : ((s.scoreOutcome .lineFault).finishPending Code.wakeBranch
      (Answer.plain .linkFailed)).route.commitPending = false := by
    rw [State.finishPending_route, State.scoreOutcome_route]
    exact h.not_pending hlink
  unfold State.pulseFails
  dsimp only
  split
  · refine hscored.enterQuarantine.inv_of_not_pending ?_
    rw [State.enterQuarantine_route]
    exact hcommit
  · split
    · exact SlotCore.inv_of_not_pending (hscored.of_same ⟨rfl, rfl, rfl, rfl⟩) hcommit
    · exact SlotCore.inv_of_not_pending (hscored.of_same ⟨rfl, rfl, rfl, rfl⟩) hcommit

theorem SlotCore.settleExpires {s : State} (h : SlotCore s) : SlotCore s.settleExpires := by
  have hidle : SlotCore (s.mapLink fun c => { c with settle := 0#8, state := .idle }) := h.of_same ⟨rfl, rfl, rfl, rfl⟩
  exact hidle.finishPending (.inr rfl) (a := Answer.plain .done) nofun

theorem SlotCore.tickLink {s : State} (h : SlotCore s) : SlotCore s.tickLink := by
  unfold State.tickLink
  split
  · split
    · exact h.of_same ⟨rfl, rfl, rfl, rfl⟩
    · exact h.of_same ⟨rfl, rfl, rfl, rfl⟩
  · split
    · split
      · exact h.settleExpires
      · exact h.of_same ⟨rfl, rfl, rfl, rfl⟩
    · exact h

theorem State.tickLink_of_inTransaction {s : State} (h : s.link.state.inTransaction = true) : s.tickLink = s := by
  unfold State.tickLink LinkController.holdRuns
  rw [LinkState.isQuarantine_of_inTransaction h, LinkState.isSettling_of_inTransaction h]
  rfl

theorem SlotInv.tickLink {s : State} (h : SlotInv s) : SlotInv s.tickLink := by
  obtain ⟨hcore, hcommit⟩ := slotInv_iff.1 h
  refine slotInv_iff.2 ⟨hcore.tickLink, fun hpending => ?_⟩
  rw [State.tickLink_route] at hpending
  rw [State.tickLink_of_inTransaction (hcommit hpending)]
  exact hcommit hpending

theorem SlotInv.ticked {s : State} (h : SlotInv s) : SlotInv s.ticked := by
  have hcounted : SlotInv (s.mapSched Scheduler.ticked) := h
  unfold State.ticked
  refine SlotInv.takeOffered (hcounted.tickLink.of_same ⟨?_, ?_, ?_, ?_⟩ fun hlink => ?_)
  · rw [State.tickCountdowns_agent_slot, State.ageRecords_agent]
  · rw [State.tickCountdowns_agent_result, State.ageRecords_agent]
  · rw [State.tickCountdowns_route, State.ageRecords_route]
  · rw [State.tickCountdowns_config, State.ageRecords_config]
  · rwa [State.tickCountdowns_link, State.ageRecords_link]

theorem State.abandonTransaction_sameSlot (s : State) : SameSlot s s.abandonTransaction := by
  unfold State.abandonTransaction
  split
  · split
    · refine ⟨?_, ?_, ?_, ?_⟩
      · rw [State.abandonRelay_agent]
      · rw [State.abandonRelay_agent]
      · rw [State.abandonRelay_route]
      · rw [State.abandonRelay_config]
    all_goals exact ⟨rfl, rfl, rfl, rfl⟩
  · exact ⟨rfl, rfl, rfl, rfl⟩

theorem SlotCore.segmentReset {s : State} (h : SlotCore s) : SlotCore s.segmentReset := by
  have hcleared : SameSlot s.abandonTransaction
      ((s.abandonTransaction.mapLink LinkController.segmentReset).mapSched Scheduler.emptied).clearFailures := by
    unfold SameSlot
    rw [State.clearFailures_agent, State.clearFailures_route, State.clearFailures_config]
    exact ⟨rfl, rfl, rfl, rfl⟩
  have hclearedCore := (h.of_same s.abandonTransaction_sameSlot).of_same hcleared
  exact (hclearedCore.finishPending (.inl rfl) (a := Answer.plain .aborted) nofun).finishPending (.inr rfl)
    (a := Answer.plain .aborted) nofun

theorem State.hearFrameCut_sameSlot (branch : Transmission) (s : State) : SameSlot s (s.hearFrameCut branch) := by
  unfold State.hearFrameCut
  split <;> exact ⟨rfl, rfl, rfl, rfl⟩

theorem SlotCore.resetBranch {s : State} (h : SlotCore s) : SlotInv s.resetBranch := by
  unfold State.resetBranch
  exact (h.segmentReset.of_same s.segmentReset.reOffer_sameSlot).applyPendingCommit.inv_of_not_pending
    (State.applyPendingCommit_commitPending _)

/-! ## The commands (R152, R153) -/

/-- Only RESET_BRANCH is taken while the slot is held. -/
theorem State.slot_of_not_refused {s : State} {code : Byte} (h : s.refusesRecord code = false) (hcode : code ≠ 0x42#8) :
    s.agent.slot = none := by
  unfold State.refusesRecord at h
  cases hslot : s.agent.slot with
  | none => rfl
  | some sl =>
    rw [hslot] at h
    simp [Code.resetBranch, hcode] at h

/-- The answer of a command that is not PENDING, where nothing is in progress. -/
theorem slotInv_recordAnswer_of_free {s : State} (code tag : Byte) {a : Answer} (ha : a.outcome ≠ .pending)
    (hslot : s.agent.slot = none) (hcommit : s.route.commitPending = false) (hsaving : s.config.store.isSaving = false)
    (hloading : s.config.store ≠ .loading) : SlotInv (s.recordAnswer code tag a) := by
  refine SlotCore.inv_of_not_pending (slotCore_of_free ?_ ha hcommit hsaving hloading) hcommit
  show (if a.outcome = .pending then some { code := code, tag := tag } else s.agent.slot) = none
  rw [if_neg ha, hslot]

/-- The answer PENDING takes the slot: the command is in progress, and nothing else is. -/
theorem slotInv_recordAnswer_of_pending {s : State} (code tag : Byte)
    (hcode : code ∈ [0x15#8, 0x50#8, 0x51#8, 0x60#8, 0x61#8])
    (hcommit : code = 0x15#8 ↔ s.route.commitPending = true)
    (hsaving : code = 0x60#8 ↔ s.config.store.isSaving = true) (hloading : code = 0x61#8 ↔ s.config.store = .loading)
    (hlink : s.route.commitPending = true → s.link.state.inTransaction = true) :
    SlotInv (s.recordAnswer code tag (Answer.plain .pending)) := by
  have hheld : ∀ c, (s.recordAnswer code tag (Answer.plain .pending)).slotHeldBy c = true ↔ code = c := by
    intro c
    show (code == c) = true ↔ code = c
    exact beq_iff_eq
  refine slotInv_iff.2 ⟨⟨fun sl hsl => ?_, nofun, (hheld _).trans hcommit, (hheld _).trans hsaving,
    (hheld _).trans hloading⟩, hlink⟩
  cases hsl
  exact ⟨rfl, rfl, rfl, hcode⟩

/-- A command carried out with the slot empty and nothing in progress leaves the invariant behind its answer. -/
theorem Carried.slotInv {code : Byte} {s t : State} {a : Answer} (h : Carried code s t a) (tag : Byte)
    (hslot : s.agent.slot = none) (hcommit : s.route.commitPending = false) (hsaving : s.config.store.isSaving = false)
    (hloading : s.config.store ≠ .loading) : SlotInv (t.recordAnswer code tag a) := by
  have hpendingCode : ∀ {c : Byte}, c = 0x50#8 ∨ c = 0x51#8 →
      c ∈ [0x15#8, 0x50#8, 0x51#8, 0x60#8, 0x61#8] ∧ c ≠ 0x15#8 ∧ c ≠ 0x60#8 ∧ c ≠ 0x61#8 := by
    rintro c (rfl | rfl) <;> decide
  have hbranch : ∀ {u : State}, code = 0x50#8 ∨ code = 0x51#8 → u.route = s.route → u.config = s.config →
      SlotInv (u.recordAnswer code tag (Answer.plain .pending)) := by
    intro u hcode hroute hconfig
    obtain ⟨hmem, hne15, hne60, hne61⟩ := hpendingCode hcode
    refine slotInv_recordAnswer_of_pending code tag hmem ?_ ?_ ?_ ?_
    · simp [hne15, hroute, hcommit]
    · simp [hne60, hconfig, hsaving]
    · simp [hne61, hconfig, hloading]
    · simp [hroute, hcommit]
  cases h with
  | answered ha => exact slotInv_recordAnswer_of_free code tag ha hslot hcommit hsaving hloading
  | agentWritten _ _ _ ha => exact slotInv_recordAnswer_of_free code tag ha hslot hcommit hsaving hloading
  | pointersSet => exact slotInv_recordAnswer_of_free code tag nofun hslot hcommit hsaving hloading
  | edited b =>
    exact slotInv_recordAnswer_of_free code tag nofun hslot ((RouteTable.setEdit_commitPending b s.route).trans hcommit)
      hsaving hloading
  | committed ha =>
    refine slotInv_recordAnswer_of_free code tag ha ?_ ?_ ?_ ?_
    · rwa [State.applyCommit_agent]
    · rw [State.applyCommit_route_eq]
      rfl
    · rwa [State.applyCommit_config]
    · rwa [State.applyCommit_config]
  | commitWaits hcode hlink =>
    subst hcode
    exact slotInv_recordAnswer_of_pending _ tag (by decide) (by simp) (by simp [hsaving]) (by simp [hloading])
      fun _ => hlink
  | stored st ha => exact slotInv_recordAnswer_of_free code tag ha hslot hcommit hsaving hloading
  | requested st i op origin ha =>
    refine slotInv_recordAnswer_of_free code tag ha ?_ ?_ ?_ ?_
    · rwa [State.takeOffered_agent, State.request_agent_slot]
    · rwa [State.takeOffered_route, State.request_route]
    · rwa [State.takeOffered_config, State.request_config]
    · rwa [State.takeOffered_config, State.request_config]
  | workRemoved st gone ha => exact slotInv_recordAnswer_of_free code tag ha hslot hcommit hsaving hloading
  | scheduled => exact slotInv_recordAnswer_of_free code tag nofun hslot hcommit hsaving hloading
  | lineWritten l => exact slotInv_recordAnswer_of_free code tag nofun hslot hcommit hsaving hloading
  | released =>
    obtain ⟨hslot', -, hcommit', hstore'⟩ := s.releaseQuarantine_sameSlot
    refine slotInv_recordAnswer_of_free code tag nofun ?_ ?_ ?_ ?_
    · exact hslot'.trans hslot
    · exact hcommit'.trans hcommit
    · rw [hstore']
      exact hsaving
    · rw [hstore']
      exact hloading
  | sleepBegun hcode => exact hbranch (.inl hcode) rfl rfl
  | sleepWaits hcode => exact hbranch (.inl hcode) rfl rfl
  | pulseBegun hcode fromAsleep => exact hbranch (.inr hcode) rfl rfl
  | wakeAwaited hcode => exact hbranch (.inr hcode) rfl rfl
  | loopbackEntered ha => exact slotInv_recordAnswer_of_free code tag ha hslot hcommit hsaving hloading
  | loopbackLeft =>
    refine slotInv_recordAnswer_of_free code tag nofun ?_ ?_ ?_ ?_
    · rwa [State.takeOffered_agent]
    · rwa [State.takeOffered_route]
    · rwa [State.takeOffered_config]
    · rwa [State.takeOffered_config]
  | saveBegun hcode =>
    subst hcode
    exact slotInv_recordAnswer_of_pending _ tag (by decide) (by simp [State.beginSave, hcommit])
      (by simp [State.beginSave, StoreState.isSaving]) (by simp [State.beginSave]) (by simp [State.beginSave, hcommit])
  | loadBegun hcode =>
    subst hcode
    exact slotInv_recordAnswer_of_pending _ tag (by decide) (by simp [hcommit]) (by simp [StoreState.isSaving])
      (by simp) (by simp [hcommit])

/-! ## RESET_BRANCH (R122, R123, R152) -/

theorem State.not_held_finishPending {s : State} {code c : Byte} (a : Answer) (h : c = code ∨ s.slotHeldBy c ≠ true) :
    (s.finishPending code a).slotHeldBy c ≠ true := by
  by_cases hheld : s.slotHeldBy code = true
  · rw [State.finishPending_of_held hheld]
    nofun
  · rw [State.finishPending_of_not_held hheld]
    obtain rfl | h := h
    · exact hheld
    · exact h

theorem SameSlot.slotHeldBy {s t : State} (h : SameSlot s t) (c : Byte) : t.slotHeldBy c = s.slotHeldBy c := by
  obtain ⟨hslot, -⟩ := h
  unfold State.slotHeldBy
  rw [hslot]

theorem State.not_held_applyPendingCommit {s : State} {c : Byte} (h : s.slotHeldBy c ≠ true) :
    s.applyPendingCommit.slotHeldBy c ≠ true := by
  unfold State.applyPendingCommit
  split
  · refine State.not_held_finishPending _ (.inr ?_)
    unfold State.slotHeldBy
    rw [State.applyCommit_agent]
    exact h
  · exact h

/-- No SLEEP_BRANCH or WAKE_BRANCH survives a segment reset. -/
theorem State.not_held_resetBranch (s : State) {c : Byte} (hc : c = 0x50#8 ∨ c = 0x51#8) :
    s.resetBranch.slotHeldBy c ≠ true := by
  have hreset : s.segmentReset.slotHeldBy c ≠ true := by
    unfold State.segmentReset
    obtain rfl | rfl := hc
    · exact State.not_held_finishPending _ (.inr (State.not_held_finishPending _ (.inl rfl)))
    · exact State.not_held_finishPending _ (.inl rfl)
  unfold State.resetBranch
  refine State.not_held_applyPendingCommit ?_
  rwa [s.segmentReset.reOffer_sameSlot.slotHeldBy]

theorem State.resetBranch_config (s : State) : s.resetBranch.config = s.config := by
  have habandoned : s.abandonTransaction.config = s.config := by
    unfold State.abandonTransaction
    split
    · split
      · exact State.abandonRelay_config s
      all_goals rfl
    · rfl
  unfold State.resetBranch State.segmentReset
  rw [State.applyPendingCommit_config, State.reOffer_config, State.finishPending_config, State.finishPending_config,
    State.clearFailures_config, State.mapSched_config, State.mapLink_config, habandoned]

/-- While the store is SAVING or LOADING, RESET_BRANCH is refused. -/
theorem SlotCore.store_of_resetBranch {s : State} (h : SlotCore s) (hrefused : s.refusesRecord 0x42#8 = false) :
    s.config.store.isSaving = false ∧ s.config.store ≠ .loading := by
  obtain ⟨-, -, -, hsaving, hloading⟩ := h
  have hheld : ∀ c, s.slotHeldBy c = true → c = 0x15#8 ∨ c = 0x50#8 ∨ c = 0x51#8 := by
    intro c hc
    obtain ⟨sl, hsl, rfl⟩ := State.slotHeldBy_iff.1 hc
    unfold State.refusesRecord at hrefused
    rw [hsl] at hrefused
    simp only [Code.resetBranch, Code.commit, Code.sleepBranch, Code.wakeBranch, beq_self_eq_true, Bool.true_and,
      Bool.not_eq_false', Bool.or_eq_true, beq_iff_eq] at hrefused
    exact or_assoc.1 hrefused
  refine ⟨Bool.eq_false_iff.2 fun hstore => ?_, fun hstore => ?_⟩
  · exact absurd (hheld _ (hsaving.2 hstore)) (by decide)
  · exact absurd (hheld _ (hloading.2 hstore)) (by decide)

theorem State.resetBranch_commitPending (s : State) : s.resetBranch.route.commitPending = false := by
  unfold State.resetBranch
  exact State.applyPendingCommit_commitPending _

/-- RESET_BRANCH ends the command that holds the slot. -/
theorem SlotCore.slot_resetBranch {s : State} (h : SlotCore s) (hsaving : s.config.store.isSaving = false)
    (hloading : s.config.store ≠ .loading) : s.resetBranch.agent.slot = none := by
  obtain ⟨hslot, -, hcommit, hsaving', hloading'⟩ := h.resetBranch.core
  rw [State.resetBranch_config] at hsaving' hloading'
  cases hsl : s.resetBranch.agent.slot with
  | none => rfl
  | some sl =>
    have hheld : s.resetBranch.slotHeldBy sl.code = true := State.slotHeldBy_iff.2 ⟨sl, hsl, rfl⟩
    have hpending := s.resetBranch_commitPending
    obtain ⟨-, -, -, hcode⟩ := hslot sl hsl
    simp only [List.mem_cons, List.not_mem_nil, or_false] at hcode
    obtain hcode | hcode | hcode | hcode | hcode := hcode <;> rw [hcode] at hheld
    · rw [hcommit.1 hheld] at hpending
      cases hpending
    · exact absurd hheld (s.not_held_resetBranch (.inl rfl))
    · exact absurd hheld (s.not_held_resetBranch (.inr rfl))
    · rw [hsaving'.1 hheld] at hsaving
      cases hsaving
    · exact absurd (hloading'.1 hheld) hloading

theorem SlotInv.branchReset {s : State} (h : SlotInv s) (hrefused : s.refusesRecord 0x42#8 = false) (tag : Byte)
    {a : Answer} (ha : a.outcome ≠ .pending) (branch : Transmission) :
    SlotInv ((s.hearFrameCut branch).resetBranch.takeOffered.recordAnswer 0x42#8 tag a) := by
  have hsame := s.hearFrameCut_sameSlot branch
  have hcore := h.core.of_same hsame
  obtain ⟨hsaving, hloading⟩ := h.core.store_of_resetBranch hrefused
  obtain ⟨-, -, -, hstore⟩ := hsame
  have hslot := hcore.slot_resetBranch (hstore ▸ hsaving) (hstore ▸ hloading)
  generalize hu : (s.hearFrameCut branch).resetBranch = u at hslot
  have hinv : SlotInv u.takeOffered := (hu ▸ hcore.resetBranch).takeOffered
  have hslot' : u.takeOffered.agent.slot = none := by rwa [State.takeOffered_agent]
  obtain ⟨hcommit, hsaving', hloading'⟩ := hinv.core.free hslot'
  exact slotInv_recordAnswer_of_free _ tag ha hslot' hcommit hsaving' hloading'

/-! ## The steps -/

theorem State.breakEnds_sameSlot (s : State) : SameSlot s s.breakEnds := by
  unfold State.breakEnds
  split <;> exact ⟨rfl, rfl, rfl, rfl⟩

theorem State.breakEnds_linkState (s : State) : s.breakEnds.link.state = s.link.state := by
  unfold State.breakEnds
  split <;> rfl

theorem State.reportServed_sameSlot (source : ServeSource) (s : State) : SameSlot s (s.reportServed source) := by
  cases source with
  | record i version =>
    have hserved : SameSlot s (s.recordServed i version) := by
      unfold SameSlot
      rw [State.recordServed_agent, State.recordServed_route, State.recordServed_config]
      exact ⟨rfl, rfl, rfl, rfl⟩
    exact hserved
  | _ => exact ⟨rfl, rfl, rfl, rfl⟩

theorem State.reportServed_link (source : ServeSource) (s : State) : (s.reportServed source).link = s.link := by
  cases source with
  | record i version => exact State.recordServed_link i version s
  | _ => rfl

theorem SlotInv.downlinkCaptured {s : State} (h : SlotInv s) (i : EntryIndex) (copy : Entry) (data : List Byte) :
    SlotInv (s.downlinkCaptured i copy data) := by
  have hcapture : SlotInv (s.trunkCapture i copy data) := by
    refine h.of_same ⟨?_, ?_, ?_, ?_⟩ fun hlink => ?_
    · rw [State.trunkCapture_agent_slot]
    · rw [State.trunkCapture_agent_result]
    · rw [State.trunkCapture_route]
    · rw [State.trunkCapture_config]
    · rwa [State.trunkCapture_link]
  unfold State.downlinkCaptured
  split
  · exact (hcapture.request i .publish .downlink).takeOffered
  · exact hcapture

theorem SlotInv.streamWritten {s : State} (h : SlotInv s) (data : List Byte) : SlotInv (s.streamWritten data) := by
  unfold State.streamWritten
  split
  · split
    · exact h.of_same ⟨rfl, rfl, RouteTable.setEdit_commitPending _ s.route, rfl⟩ id
    · exact h
  · exact h

theorem SlotInv.refuseRecord {s : State} (h : SlotInv s) (tag : Byte) : SlotInv (s.refuseRecord tag) := h

theorem SlotInv.headerSent {s : State} (h : SlotInv s) (t : Transaction) : SlotInv (s.headerSent t) := by
  unfold State.headerSent
  split <;> exact h.of_same ⟨rfl, rfl, rfl, rfl⟩ fun _ => rfl

theorem SlotInv.releaseQuarantine {s : State} (h : SlotInv s) (hlink : s.link.state.isQuarantine = true) :
    SlotInv s.releaseQuarantine := by
  have hcommit : s.route.commitPending = false := h.not_pending <| Bool.eq_false_iff.2 fun htransaction => by
    rw [LinkState.isQuarantine_of_inTransaction htransaction] at hlink
    cases hlink
  refine SlotCore.inv_of_not_pending (h.core.of_same s.releaseQuarantine_sameSlot) ?_
  rwa [State.releaseQuarantine_route]

/-- A command that is a save or a load completes: the store state is no longer its own. -/
theorem SlotCore.storeDone {s t : State} (h : SlotCore s) {code : Byte} (hheld : s.slotHeldBy code = true)
    (hcode : code ≠ 0x15#8) (hslot : t.agent.slot = s.agent.slot) (hcommit : t.route.commitPending = s.route.commitPending)
    (hsaving : t.config.store.isSaving = false) (hloading : t.config.store ≠ .loading) {a : Answer}
    (ha : a.outcome ≠ .pending) : SlotInv (t.finishPending code a) := by
  have hpending : t.route.commitPending = false := hcommit.trans (h.commit_of_held hheld hcode)
  have hheld' : t.slotHeldBy code = true := by
    unfold State.slotHeldBy
    rw [hslot]
    exact hheld
  refine (slotCore_finishPending_of_held ha hheld' hpending hsaving hloading).inv_of_not_pending ?_
  rwa [State.finishPending_route]

theorem SlotInv.command {s : State} (h : SlotInv s) {code : Byte} (tag : Byte) (ops : HeardOperands)
    {owner : State → State × Answer} (hcode : code ≠ 0x42#8) (howner : CarriesOut code owner) :
    SlotInv (takeCommand code tag ops owner s) := by
  refine takeCommandThen_induction h (fun _ => h) (fun _ => h) fun r hrefused => ?_
  have hslot := State.slot_of_not_refused hrefused hcode
  obtain ⟨hcommit, hsaving, hloading⟩ := h.core.free hslot
  exact (howner (s.setReceiver r).receiveRecord).slotInv tag hslot hcommit hsaving hloading

theorem startState_slotInv (cause : ResetCause) (straps : Straps) (image : Image) {result : ResultRecord}
    (hresult : result.outcome ≠ .pending) (pending : List Instr) :
    SlotInv (startState cause straps image result pending) := by
  have hstore : (startState cause straps image result pending).config.store =
      if image.validContents.isSome then .valid else .invalid := rfl
  refine SlotCore.inv_of_not_pending (slotCore_of_free rfl hresult rfl ?_ ?_) rfl
  · rw [hstore]
    split <;> rfl
  · rw [hstore]
    split <;> nofun

theorem Effect.slotInv {s t : State} (h : Effect s t) (hs : SlotInv s) : SlotInv t := by
  have hlinkOf : ∀ {l : LinkState}, s.link.state = l → l.inTransaction = false → s.link.state.inTransaction = false := by
    rintro l rfl hl
    exact hl
  obtain ⟨-, -, -, hsaving, hloading⟩ := hs.core
  cases h with
  | started cause straps => exact startState_slotInv cause straps _ (result := State.reset.agent.result) nofun s.pending
  | breakTaken r =>
    have hended : SlotInv s.breakEnds := hs.of_same s.breakEnds_sameSlot fun hlink => by rwa [s.breakEnds_linkState]
    exact hended
  | headerTaken r j since => exact (takeHeader_headerTaken j since (s.setReceiver r)).slotInv hs
  | served r source =>
    have hserved : SlotInv ((s.setReceiver r).reportServed source) :=
      SlotInv.of_same (s := s.setReceiver r) hs (State.reportServed_sameSlot source _) fun hlink => by
        rwa [State.reportServed_link]
    exact hserved
  | downlinkCaptured r i copy data =>
    exact SlotInv.downlinkCaptured (s := (s.setReceiver r).setPort .passive) hs i copy data
  | streamWritten r data => exact SlotInv.streamWritten (s := (s.setReceiver r).setPort .passive) hs data
  | command code tag ops owner hcode howner => exact hs.command tag ops hcode howner
  | branchReset tag ops branch data =>
    refine takeCommandThen_induction hs (fun _ => hs) (fun _ => hs) fun r hrefused => ?_
    dsimp only [id]
    exact SlotInv.branchReset (s := (s.setReceiver r).receiveRecord) hs hrefused tag
      (a := { outcome := .done, data := data (s.setReceiver r).receiveRecord }) nofun branch
  | restart tag ops straps =>
    refine takeCommandThen_induction hs (fun _ => hs) (fun _ => hs) fun r _ => ?_
    exact startState_slotInv .restart straps _
      (result := resultOf 0x62#8 tag (Answer.plain .done)) nofun _
  | saved c count hstore =>
    have hheld : s.slotHeldBy 0x60#8 = true := hsaving.2 (by rw [hstore]; rfl)
    exact hs.core.storeDone (t := s.mapConfig fun g => { g with image := .written c c.integrityWord, store := .valid })
      hheld (by decide) rfl rfl rfl nofun nofun
  | saveFailed c count hstore =>
    have hheld : s.slotHeldBy 0x60#8 = true := hsaving.2 (by rw [hstore]; rfl)
    exact hs.core.storeDone
      (t := (s.mapConfig fun g => { g with image := .unmatched, store := .invalid }).setFlag .storeFailed)
      hheld (by decide) rfl rfl rfl nofun nofun
  | loaded c word hstore himage =>
    have hheld : s.slotHeldBy 0x61#8 = true := hloading.2 hstore
    exact hs.core.storeDone (t := (s.applyLoad c).mapConfig fun g => { g with store := .valid })
      hheld (by decide) rfl (RouteTable.setEdit_commitPending c.bank s.route) rfl nofun nofun
  | headerSent r t => exact SlotInv.headerSent (s := s.setBranchReceiver r) hs t
  | outcome r t data o => exact SlotInv.takeOutcome (s := s.setBranchReceiver r) hs t data o
  | gapEnded rate hstate => exact hs.gapEnds (hlinkOf hstate rfl)
  | wokenAsleep r hstate =>
    exact SlotCore.inv_of_not_pending (hs.core.of_same ⟨rfl, rfl, rfl, rfl⟩) (hs.not_pending (hlinkOf hstate rfl))
  | pulseEnded r low fromAsleep steps rate hstate =>
    have hcommit := hs.not_pending (hlinkOf hstate rfl)
    unfold State.pulseEnds
    split
    · exact SlotCore.inv_of_not_pending (hs.core.of_same ⟨rfl, rfl, rfl, rfl⟩) hcommit
    · exact SlotCore.inv_of_not_pending (hs.core.of_same ⟨rfl, rfl, rfl, rfl⟩) hcommit
  | pulseFailed r low fromAsleep steps rate hstate =>
    exact SlotInv.pulseFails (s := (s.setBranchReceiver r).mapLink fun c => { c with outsideLow := low }) hs
      (hlinkOf hstate rfl) fromAsleep rate
  | ticked => exact hs.ticked
  | countdownExpired i =>
    refine SlotInv.takeOffered (hs.of_same ⟨?_, ?_, ?_, ?_⟩ fun hlink => ?_)
    · rw [State.countdownExpires_agent_slot]
    · rw [State.countdownExpires_agent_result]
    · rw [State.countdownExpires_route]
    · rw [State.countdownExpires_config]
    · rwa [State.countdownExpires_link]
  | sampled high hstate =>
    unfold State.decideSample
    split
    · exact hs.releaseQuarantine hstate
    · exact hs
  | settleExpired hstate =>
    refine SlotInv.takeOffered (hs.core.settleExpires.inv_of_not_pending ?_)
    rw [State.settleExpires_route]
    refine hs.not_pending (Bool.eq_false_iff.2 fun htransaction => ?_)
    rw [LinkState.isSettling_of_inTransaction htransaction] at hstate
    cases hstate
  | _ => exact hs

/-- Settles O58: every effect of a command keeps the slot, RESULT, the pending commit and the store state in
agreement. -/
theorem stepKeepsSlotAndResult : Obligations.StepKeepsSlotAndResult := by
  intro s s' hs hstep
  exact step_keeps (P := SlotInv) (fun _ _ h => h) (fun _ _ h he => he.slotInv h) hs hstep

end Sys2Proof.Machine

/-! PROOFS. Every command answers a next state with the same commands waiting; starts, the supply and the pin. -/

namespace Sys2Proof.Machine

/-! ## The commands that wait -/

theorem HeaderTaken.pending {s t : State} (h : HeaderTaken s t) : t.pending = s.pending := by
  have hnoted : ∀ {u : State}, Noted s u → u.pending = s.pending := by
    rintro u ⟨f, k, n, p, rfl⟩
    rfl
  cases h with
  | noted h => exact hnoted h
  | offered h => exact (State.takeOffered_pending _).trans (hnoted h)
  | demanded h i => exact (State.takeOffered_pending _).trans ((State.request_pending _ _ _ _).trans (hnoted h))
  | admitted h => exact (State.admitRelay_pending _ _ _ _ _ _).trans (hnoted h)

theorem Carried.pending {code : Byte} {s t : State} {a : Answer} (h : Carried code s t a) : t.pending = s.pending := by
  cases h with
  | committed => exact State.applyCommit_pending s
  | requested st i op origin => rw [State.takeOffered_pending, State.request_pending, State.mapStore_pending]
  | workRemoved st gone => rw [State.removeWork_pending, State.mapStore_pending]
  | released => exact State.releaseQuarantine_pending s
  | loopbackLeft => exact State.takeOffered_pending _
  | _ => rfl

theorem State.breakEnds_waiting (s : State) : s.breakEnds.pending = s.pending := by
  unfold State.breakEnds
  split <;> rfl

theorem State.downlinkCaptured_pending (i : EntryIndex) (copy : Entry) (data : List Byte) (s : State) :
    (s.downlinkCaptured i copy data).pending = s.pending := by
  unfold State.downlinkCaptured
  split
  · rw [State.takeOffered_pending, State.request_pending, State.trunkCapture_pending]
  · rw [State.trunkCapture_pending]

theorem State.streamWritten_pending (data : List Byte) (s : State) : (s.streamWritten data).pending = s.pending := by
  unfold State.streamWritten
  split
  · split <;> rfl
  · rfl

theorem State.reportServed_pending (source : ServeSource) (s : State) :
    (s.reportServed source).pending = s.pending := by
  cases source with
  | record i version => exact State.recordServed_pending i version s
  | _ => rfl

theorem State.takeOutcome_waiting (t : Transaction) (data : List Byte) (o : BranchOutcome) (s : State) :
    (s.takeOutcome t data o).pending = s.pending := by
  unfold State.takeOutcome
  rw [State.leaveTransaction_pending, State.applyPendingCommit_pending, State.mapLink_pending, State.handOn_pending,
    State.countOutcome_pending, State.scoreOutcome_pending]

theorem State.resetBranch_pending (s : State) : s.resetBranch.pending = s.pending := by
  have habandoned : s.abandonTransaction.pending = s.pending := by
    unfold State.abandonTransaction
    split
    · split
      · exact State.abandonRelay_pending s
      all_goals rfl
    · rfl
  unfold State.resetBranch State.segmentReset
  rw [State.applyPendingCommit_pending, State.reOffer_pending, State.finishPending_pending, State.finishPending_pending,
    State.clearFailures_pending, State.mapSched_pending, State.mapLink_pending, habandoned]

theorem State.hearFrameCut_pending (branch : Transmission) (s : State) :
    (s.hearFrameCut branch).pending = s.pending := by
  unfold State.hearFrameCut
  split <;> rfl

theorem State.pulseFails_pending (fromAsleep : Bool) (rate : RateCode) (s : State) :
    (s.pulseFails fromAsleep rate).pending = s.pending := by
  unfold State.pulseFails
  dsimp only
  split
  · rw [State.enterQuarantine_pending, State.finishPending_pending, State.scoreOutcome_pending]
  · split <;> rw [State.setLinkState_pending, State.finishPending_pending, State.scoreOutcome_pending]

/-- No effect touches the commands that wait. -/
theorem Effect.pending {s t : State} (h : Effect s t) : t.pending = s.pending := by
  cases h with
  | breakTaken r => exact s.breakEnds_waiting
  | headerTaken r j since => exact (takeHeader_headerTaken j since (s.setReceiver r)).pending
  | served r source => exact State.reportServed_pending source _
  | downlinkCaptured r i copy data => exact State.downlinkCaptured_pending i copy data _
  | streamWritten r data => exact State.streamWritten_pending data _
  | command code tag ops owner hcode howner =>
    refine takeCommandThen_induction (P := fun t => t.pending = s.pending) rfl (fun _ => rfl) (fun _ => rfl) fun r _ => ?_
    exact (howner (s.setReceiver r).receiveRecord).pending
  | branchReset tag ops branch data =>
    refine takeCommandThen_induction (P := fun t => t.pending = s.pending) rfl (fun _ => rfl) (fun _ => rfl) fun r _ => ?_
    dsimp only [id]
    rw [State.recordAnswer_pending, State.takeOffered_pending, State.resetBranch_pending, State.hearFrameCut_pending]
    rfl
  | restart tag ops straps =>
    exact takeCommandThen_induction (P := fun t => t.pending = s.pending) rfl (fun _ => rfl) (fun _ => rfl) fun r _ => rfl
  | saved c count => exact State.finishPending_pending _ _ _
  | saveFailed c count => exact State.finishPending_pending _ _ _
  | loaded c word => exact State.finishPending_pending _ _ _
  | headerSent r t =>
    unfold State.headerSent
    split <;> rfl
  | outcome r t data o => exact State.takeOutcome_waiting t data o _
  | gapEnded =>
    unfold State.gapEnds
    split
    · rfl
    · rw [State.takeOffered_pending, State.finishPending_pending, State.setLinkState_pending]
  | pulseEnded r low fromAsleep =>
    unfold State.pulseEnds
    split <;> rfl
  | pulseFailed r low fromAsleep steps rate => exact State.pulseFails_pending fromAsleep rate _
  | ticked =>
    unfold State.ticked
    rw [State.takeOffered_pending, State.tickCountdowns_pending, State.ageRecords_pending, State.tickLink_pending,
      State.mapSched_pending]
  | countdownExpired i => rw [State.takeOffered_pending, State.countdownExpires_pending]
  | sampled high =>
    unfold State.decideSample
    split
    · exact State.releaseQuarantine_pending s
    · rfl
  | settleExpired => rw [State.takeOffered_pending, State.settleExpires_pending]
  | _ => rfl

/-- Settles O1: both halves are the equations of `step`. -/
theorem stepRunsFrontCommand : Obligations.StepRunsFrontCommand := by
  refine ⟨fun c rest s => rfl, fun s hempty => ?_⟩
  unfold step
  rw [hempty]

/-- Settles O2: every command answers by an effect, and no effect touches the commands that wait. -/
theorem everyCommandAnswersNext : Obligations.EveryCommandAnswersNext := by
  intro c s
  obtain ⟨t, ht, heffect⟩ := exec_answers c s
  exact ⟨t, ht, heffect.pending⟩

/-! ## Starts, the supply and the pin (R166, R167, R170) -/

theorem Counters.get_zero (k : Counter) : Counters.zero.get k = 0#16 := by
  cases k <;> rfl

/-- What a start leaves, apart from what the image decides. -/
theorem startedWith_startState (cause : ResetCause) (straps : Straps) (image : Image) (result : ResultRecord)
    (pending : List Instr) : StartedWith cause straps result (startState cause straps image result pending) := by
  have hrecord : ∀ i, (startState cause straps image result pending).record i = startRecord := fun i =>
    Vector.get_replicate 64 startRecord i
  have hcountdown : ∀ i, (startState cause straps image result pending).countdown i =
      ((startState cause straps image result pending).activeEntry i).refresh := fun i =>
    Vector.get_ofFn _ i
  exact ⟨rfl, ⟨rfl, rfl, rfl, rfl, rfl, rfl⟩, rfl, hrecord, ⟨rfl, rfl, rfl⟩, ⟨rfl, rfl, rfl, rfl, hcountdown⟩,
    ⟨rfl, rfl, rfl, rfl, rfl, rfl, rfl, rfl, rfl, rfl, rfl, rfl, rfl⟩, ⟨rfl, rfl, rfl, rfl, Counters.get_zero⟩, rfl⟩

/-- What the image decides of a start. -/
theorem loadedFrom_startState (cause : ResetCause) (straps : Straps) (image : Image) (result : ResultRecord)
    (pending : List Instr) : LoadedFrom image (startState cause straps image result pending) := by
  refine ⟨rfl, fun c hc => ?_, fun hnone => ?_⟩
  · have hcontents : startContents image = c := by rw [startContents, hc]; rfl
    unfold startState
    rw [hcontents, startFlags, hc]
    exact ⟨rfl, rfl, rfl, rfl, rfl, rfl, rfl⟩
  · have hcontents : startContents image =
        { bank := clearedBank, line := defaultLine, tickPeriod := 10#8, order := .arrival } := by
      rw [startContents, hnone]
      rfl
    unfold startState
    rw [hcontents, startFlags, hnone]
    exact ⟨rfl, clearedBank_isCleared, clearedBank_isCleared, rfl, rfl, rfl, rfl⟩

/-- Settles O3: the state after reset is that of a start whose image does not match its word. -/
theorem resetState : Obligations.ResetState := by
  have hrecord : ∀ i, State.reset.record i = startRecord := fun i => Vector.get_replicate 64 startRecord i
  have hcountdown : ∀ i, State.reset.countdown i = (State.reset.activeEntry i).refresh := by decide +kernel
  refine ⟨⟨rfl, ⟨rfl, rfl, rfl, rfl, rfl, rfl⟩, rfl, hrecord, ⟨rfl, rfl, rfl⟩, ⟨rfl, rfl, rfl, rfl, hcountdown⟩,
    ⟨rfl, rfl, rfl, rfl, rfl, rfl, rfl, rfl, rfl, rfl, rfl, rfl, rfl⟩, ⟨rfl, rfl, rfl, rfl, Counters.get_zero⟩, rfl⟩,
    ⟨rfl, nofun, fun _ => ?_⟩, rfl, rfl⟩
  exact ⟨rfl, clearedBank_isCleared, clearedBank_isCleared, rfl, rfl, rfl, rfl⟩

/-- Settles O5: one equation for each event and each state of the supply. -/
theorem supplyAndResetPin : Obligations.SupplyAndResetPin := by
  intro straps s
  refine ⟨fun h => ?_, ?_, fun low h => ?_, fun low h => ?_, ?_, fun cause h => ?_, fun h => ?_⟩
  · show execPowerOn straps s = _
    rw [execPowerOn, h]
    rfl
  · rintro (h | h)
    all_goals
      show execResetNAssert s = _
      rw [execResetNAssert, h]
      rfl
  · show execResetNAssert s = _
    rw [execResetNAssert, h]
    rfl
  · show execResetNRelease straps s = _
    rw [execResetNRelease, h]
    rfl
  · rintro (h | h)
    all_goals
      show execPowerLoss s = _
      rw [execPowerLoss, h]
      rfl
  · show execPowerLoss s = _
    rw [execPowerLoss, h]
    rfl
  · show execStartSequenceComplete s = _
    rw [execStartSequenceComplete, h]
    rfl

/-- RESTART, where it is accepted: the start follows its RESULT in the same event. -/
theorem recordAnswers_restart {tag : Byte} {ops : Operands} (straps : Straps) {s : State} (hs : AcceptsRecord s) :
    RecordAnswers 0x62#8 tag ops (fun heard => .restart tag heard straps) s
      (State.restarted straps (s.receiveRecord.recordAnswer 0x62#8 tag (Answer.plain .done))) := by
  intro line u heard
  obtain ⟨hpower, hport⟩ := HearsRecord.power_port heard
  obtain ⟨hrun, hcaptures, -⟩ := id hs
  have hexec : exec (.restart tag ⟨ops, line⟩ straps) u =
      .next (takeCommandThen 0x62#8 tag ⟨ops, line⟩ (fun t => (t, Answer.plain .done)) (State.restarted straps) u) := rfl
  rw [hexec, takeCommandThen_heard (hpower.trans hrun) (hport ▸ hcaptures) heard, takeRecord, hs.refusesRecord]
  rfl

/-- Settles O4: each of the three events leaves a `startState`. -/
theorem startsSetStartValues : Obligations.StartsSetStartValues := by
  refine ⟨fun straps s => ⟨fun hpower => ?_, fun cause hpower => ?_⟩, fun tag ops straps s hs => ?_⟩
  · refine ⟨s.start .powerOn straps, ?_, startedWith_startState _ _ _ _ _, loadedFrom_startState _ _ _ _ _⟩
    show execPowerOn straps s = _
    rw [execPowerOn, hpower]
  · refine ⟨s.start cause straps, ?_, startedWith_startState _ _ _ _ _, loadedFrom_startState _ _ _ _ _⟩
    show execResetNRelease straps s = _
    rw [execResetNRelease, hpower]
  · exact ⟨_, recordAnswers_restart straps hs, startedWith_startState _ _ _ _ _, loadedFrom_startState _ _ _ _ _⟩

end Sys2Proof.Machine

/-! PROOFS. Events that cannot arise change nothing (O6): what each row waits for, row by row. -/

namespace Sys2Proof.Machine

/-! ## Receptions and transmissions that do not come about -/

theorem charactersLevels_singleton (b : Byte) : charactersLevels [b] = characterLevels b :=
  List.append_nil _

theorem State.sentOnTrunk_eq_none {s : State} {values : List Byte} {sent : Transmission}
    (h : ReadsBack (charactersLevels values) sent →
      RxEvent.lineBreak ∈ (s.trunk.receiver.hearSent .trunk (charactersLevels values) sent).2) :
    s.sentOnTrunk values sent = none := by
  unfold State.sentOnTrunk
  rw [if_neg]
  rintro ⟨hcompletes, hbreak⟩
  exact hbreak (h ((Transmission.completes_iff _ _).1 hcompletes))

theorem State.collidesOnTrunk_eq_none {s : State} {values : List Byte} {sent : Transmission}
    (h : ∀ k r, ¬ Collides s values sent k r) : s.collidesOnTrunk values sent = none := by
  refine Option.eq_none_iff_forall_ne_some.2 fun t ht => ?_
  obtain ⟨k, r, hcollides, -⟩ := State.collidesOnTrunk_eq_some_iff.1 ht
  exact h k r hcollides

theorem State.differsOnBranch_eq_some_iff {s : State} {levels : List Bool} {sent : Transmission} {k : Nat} :
    s.differsOnBranch levels sent = some k ↔ s.link.mode = .normal ∧ DiffersFirst levels sent k := by
  unfold State.differsOnBranch
  cases s.link.mode with
  | normal => exact (Transmission.differsAt_eq_some_iff sent levels k).trans (and_iff_right rfl).symm
  | loopback => exact ⟨nofun, fun h => nomatch h.1⟩

theorem State.sentOnBranch_eq_none {s : State} {levels : List Bool} {sent : Transmission}
    (hmode : s.link.mode = .normal) (h : ¬ ReadsBack levels sent) : s.sentOnBranch levels sent = none := by
  unfold State.sentOnBranch
  rw [if_neg]
  rintro (hloopback | hcompletes)
  · rw [hmode] at hloopback
    cases hloopback
  · exact h ((Transmission.completes_iff _ _).1 hcompletes)

theorem State.pulseSent_eq_none {s : State} {steps : Byte} {sent : Transmission} (hmode : s.link.mode = .normal)
    (h : NoWakeBefore s sent → ¬ ReadsBack (List.replicate steps.toNat false) sent) :
    s.pulseSent steps sent = none := by
  unfold State.pulseSent
  rw [if_neg]
  rintro ⟨hwake, hloopback | hcompletes⟩
  · rw [hmode] at hloopback
    cases hloopback
  · exact h ((State.noWakeBefore_iff s sent).1 hwake) ((Transmission.completes_iff _ _).1 hcompletes)

theorem State.pulseCut_eq_none {s : State} {steps : Byte} {sent : Transmission}
    (h : ∀ k, s.link.mode = .normal → NoWakeBefore s sent → ¬ DiffersFirst (List.replicate steps.toNat false) sent k) :
    s.pulseCut steps sent = none := by
  unfold State.pulseCut
  split
  next k hwake hdiffers =>
    obtain ⟨hmode, hfirst⟩ := State.differsOnBranch_eq_some_iff.1 hdiffers
    exact absurd hfirst (h k hmode ((State.noWakeBefore_iff s sent).1 hwake))
  next => rfl

/-- A COMMAND row on a line that brings no end of a reception changes nothing. -/
theorem exec_of_notReceiving {c : Instr} {code tag : Byte} {ops : HeardOperands} {s : State}
    (hrecord : recordOfCommand c = some (code, tag, ops)) (h : s.recordReception code tag ops = .notReceiving) :
    exec c s = .next s := by
  by_cases hwf : c.wellFormed = true
  · obtain ⟨owner, after, hexec⟩ := exec_eq_takeCommandThen hwf hrecord s
    rw [hexec, takeCommandThen_notReceiving h]
  · cases c with
    | unknownCommand code' tag' ops' =>
      have hknown : isCommandCode code' = true := by simpa [Instr.wellFormed] using hwf
      exact if_pos hknown
    | trunkHeaderError | trunkValidHeader | branchWakeDetected => cases hrecord
    | _ => exact absurd rfl hwf

theorem State.recordReception_of_not_running {s : State} (h : s.isRunning = false) (code tag : Byte)
    (ops : HeardOperands) : s.recordReception code tag ops = .notReceiving := by
  unfold State.recordReception
  rw [h]

/-! ## A relay that is not running -/

theorem State.isRunning_eq_false {s : State} (h : s.power ≠ .running) : s.isRunning = false :=
  Bool.eq_false_iff.2 fun hrun => h ((State.isRunning_iff s).1 hrun)

theorem State.released_of_not_running {s : State} (h : s.isRunning = false) :
    s.trunkDrive = .released ∧ s.branchDrive = .released := by
  refine ⟨?_, ?_⟩
  · unfold State.trunkDrive
    rw [h]
    rfl
  · unfold State.branchDrive State.branchOutput
    rw [h]
    split <;> rfl

/-- The rows that are no COMMAND records and no events of the supply all ask for a relay that runs. -/
theorem exec_of_not_running {c : Instr} {s : State} (h : s.isRunning = false) (hc : isPowerEvent c = false) :
    exec c s = .next s := by
  cases hrecord : recordOfCommand c with
  | some x =>
    obtain ⟨code, tag, ops⟩ := x
    exact exec_of_notReceiving hrecord (State.recordReception_of_not_running h code tag ops)
  | none =>
    cases c with
    | powerOn | resetNAssert | resetNRelease | powerLoss | startSequenceComplete => cases hc
    | trunkBreak => simp [exec, execTrunkBreak, h]
    | trunkHeaderError => simp [exec, execTrunkHeaderError, State.takesHeader, h]
    | trunkValidHeader => simp [exec, execTrunkValidHeader, State.takesHeader, h]
    | serveComplete => simp [exec, execServeComplete, h]
    | trunkServeBitError => simp [exec, execTrunkServeBitError, h]
    | captureFailed => simp [exec, execCaptureFailed, h]
    | downlinkCapture => simp [exec, execDownlinkCapture, h]
    | streamWrite => simp [exec, execStreamWrite, h]
    | saveComplete => simp [exec, execSaveComplete, h]
    | loadComplete => simp [exec, execLoadComplete, h]
    | forwardCharacterHandoff => simp [exec, execForwardCharacterHandoff, h]
    | relayTrunkComplete => simp [exec, execRelayTrunkComplete, h]
    | trunkForwardBitError => simp [exec, execTrunkForwardBitError, h]
    | branchLineFault => simp [exec, execBranchLineFault, h]
    | branchBitError => simp [exec, execBranchBitError, h]
    | branchHeaderSent => simp [exec, execBranchHeaderSent, h]
    | relayCharacterReceived => simp [exec, execRelayCharacterReceived, h]
    | branchReplyEnd => simp [exec, execBranchReplyEnd, h]
    | publishDataSent => simp [exec, execPublishDataSent, h]
    | gapEnd => simp [exec, execGapEnd, h]
    | tick => simp [exec, execTick, h]
    | refreshCountdownExpiry => simp [exec, execRefreshCountdownExpiry, h]
    | quarantineHoldExpiry => simp [exec, execQuarantineHoldExpiry, h]
    | quarantineSample => simp [exec, execQuarantineSample, h]
    | branchWakeDetected => simp [exec, execBranchWakeDetected, h]
    | wakePulseEnd => simp [exec, execWakePulseEnd, h]
    | wakePulseFault => simp [exec, execWakePulseFault, h]
    | settleExpiry => simp [exec, execSettleExpiry, h]
    | forwardedCharacterFinished => simp [exec, execForwardedCharacterFinished, h]
    | _ => cases hrecord

/-! ## Transmissions on the trunk -/

theorem exec_serveComplete_idle {sent : Transmission} {s : State}
    (h : ∀ source reply, s.trunk.port = .serve source reply → ReadsBack (charactersLevels reply) sent →
      RxEvent.lineBreak ∈ (s.trunk.receiver.hearSent .trunk (charactersLevels reply) sent).2) :
    exec (.serveComplete sent) s = .next s := by
  show execServeComplete s sent = .next s
  unfold execServeComplete
  split
  next source reply _ hport => rw [State.sentOnTrunk_eq_none (h source reply hport)]
  next => rfl

theorem exec_trunkServeBitError_idle {sent : Transmission} {s : State}
    (h : ∀ source reply k r, s.trunk.port = .serve source reply → ¬ Collides s reply sent k r) :
    exec (.trunkServeBitError sent) s = .next s := by
  show execTrunkServeBitError s sent = .next s
  unfold execTrunkServeBitError
  split
  next source reply _ hport => rw [State.collidesOnTrunk_eq_none fun k r => h source reply k r hport]
  next => rfl

theorem exec_relayTrunkComplete_idle {sent : Transmission} {s : State}
    (h : ∀ b waiting more, s.trunk.port = .forward (some (.check b)) waiting more → ReadsBack (characterLevels b) sent →
      RxEvent.lineBreak ∈ (s.trunk.receiver.hearSent .trunk (characterLevels b) sent).2) :
    exec (.relayTrunkComplete sent) s = .next s := by
  show execRelayTrunkComplete s sent = .next s
  unfold execRelayTrunkComplete
  split
  next b waiting more _ hport =>
    have hb := h b waiting more hport
    rw [← charactersLevels_singleton] at hb
    rw [State.sentOnTrunk_eq_none hb]
  next => rfl

theorem exec_forwardedCharacterFinished_idle {sent : Transmission} {s : State}
    (h : ∀ b waiting more, s.trunk.port = .forward (some (.data b)) waiting more → ReadsBack (characterLevels b) sent →
      RxEvent.lineBreak ∈ (s.trunk.receiver.hearSent .trunk (characterLevels b) sent).2) :
    exec (.forwardedCharacterFinished sent) s = .next s := by
  show execForwardedCharacterFinished s sent = .next s
  unfold execForwardedCharacterFinished
  split
  next b waiting more _ hport =>
    have hb := h b waiting more hport
    rw [← charactersLevels_singleton] at hb
    rw [State.sentOnTrunk_eq_none hb]
  next => rfl

theorem exec_trunkForwardBitError_idle {sent : Transmission} {s : State}
    (h : ∀ c waiting more k r, s.trunk.port = .forward (some c) waiting more → ¬ Collides s [c.value] sent k r) :
    exec (.trunkForwardBitError sent) s = .next s := by
  show execTrunkForwardBitError s sent = .next s
  unfold execTrunkForwardBitError
  split
  next c waiting more _ hport => rw [State.collidesOnTrunk_eq_none fun k r => h c waiting more k r hport]
  next => rfl

/-! ## Transmissions on the branch -/

theorem exec_branchLineFault_idle {sent : Transmission} {s : State}
    (h : ∀ t k, s.link.state = .header t → s.link.mode = .normal → NoWakeBefore s sent →
      DiffersFirst t.headerSent sent k → t.breakLength.bits + 2 ≤ k) :
    exec (.branchLineFault sent) s = .next s := by
  show execBranchLineFault s sent = .next s
  unfold execBranchLineFault
  split
  next t hrun hstate =>
    obtain ⟨-, hwake⟩ := (Bool.and_eq_true _ _).mp hrun
    split
    next k hdiffers =>
      obtain ⟨hmode, hfirst⟩ := State.differsOnBranch_eq_some_iff.1 hdiffers
      exact if_neg (Nat.not_lt.2 (h t k hstate hmode ((State.noWakeBefore_iff s sent).1 hwake) hfirst))
    next => rfl
  next => rfl

theorem exec_branchBitError_idle {sent : Transmission} {s : State}
    (hheader : ∀ t k, s.link.state = .header t → s.link.mode = .normal → NoWakeBefore s sent →
      DiffersFirst t.headerSent sent k → k < t.breakLength.bits + 2)
    (hdata : ∀ t k, s.link.state = .dataOut t → s.link.mode = .normal →
      ¬ DiffersFirst (charactersLevels t.published) sent k) : exec (.branchBitError sent) s = .next s := by
  show execBranchBitError s sent = .next s
  unfold execBranchBitError
  split
  next t _ hstate =>
    split
    next k hwake hdiffers =>
      obtain ⟨hmode, hfirst⟩ := State.differsOnBranch_eq_some_iff.1 hdiffers
      exact if_pos (hheader t k hstate hmode ((State.noWakeBefore_iff s sent).1 hwake) hfirst)
    next => rfl
  next t _ hstate =>
    split
    next k hdiffers =>
      obtain ⟨hmode, hfirst⟩ := State.differsOnBranch_eq_some_iff.1 hdiffers
      exact absurd hfirst (hdata t k hstate hmode)
    next => rfl
  next => rfl

theorem exec_branchHeaderSent_idle {sent : Transmission} {s : State}
    (h : ∀ t, s.link.state = .header t → s.link.mode = .normal ∧ (NoWakeBefore s sent → ¬ ReadsBack t.headerSent sent)) :
    exec (.branchHeaderSent sent) s = .next s := by
  show execBranchHeaderSent s sent = .next s
  unfold execBranchHeaderSent
  split
  next t hrun hstate =>
    obtain ⟨-, hwake⟩ := (Bool.and_eq_true _ _).mp hrun
    obtain ⟨hmode, hreads⟩ := h t hstate
    rw [State.sentOnBranch_eq_none hmode (hreads ((State.noWakeBefore_iff s sent).1 hwake))]
  next => rfl

theorem exec_publishDataSent_idle {sent : Transmission} {s : State}
    (h : ∀ t, s.link.state = .dataOut t → s.link.mode = .normal ∧ ¬ ReadsBack (charactersLevels t.published) sent) :
    exec (.publishDataSent sent) s = .next s := by
  show execPublishDataSent s sent = .next s
  unfold execPublishDataSent
  split
  next t _ hstate =>
    obtain ⟨hmode, hreads⟩ := h t hstate
    rw [State.sentOnBranch_eq_none hmode hreads]
  next => rfl

theorem exec_wakePulseEnd_idle {sent : Transmission} {s : State}
    (h : ∀ b steps rate, s.link.state = .wakeOut b steps rate →
      s.link.mode = .normal ∧ (NoWakeBefore s sent → ¬ ReadsBack (List.replicate steps.toNat false) sent)) :
    exec (.wakePulseEnd sent) s = .next s := by
  show execWakePulseEnd s sent = .next s
  unfold execWakePulseEnd
  split
  next b steps rate _ hstate =>
    obtain ⟨hmode, hreads⟩ := h b steps rate hstate
    rw [State.pulseSent_eq_none hmode hreads]
  next => rfl

theorem exec_wakePulseFault_idle {sent : Transmission} {s : State}
    (h : ∀ b steps rate k, s.link.state = .wakeOut b steps rate → s.link.mode = .normal → NoWakeBefore s sent →
      ¬ DiffersFirst (List.replicate steps.toNat false) sent k) : exec (.wakePulseFault sent) s = .next s := by
  show execWakePulseFault s sent = .next s
  unfold execWakePulseFault
  split
  next b steps rate _ hstate => rw [State.pulseCut_eq_none fun k => h b steps rate k hstate]
  next => rfl

/-! ## Breaks, headers and receptions on the trunk -/

theorem exec_trunkBreak_idle {line : Wave} {s : State} (h : s.hearsBreak line = false) :
    exec (.trunkBreak line) s = .next s := by
  show execTrunkBreak s line = .next s
  rw [execTrunkBreak, h, Bool.and_false]
  rfl

theorem exec_trunkHeader_idle {delimiter header : Wave} {s : State}
    (h : s.trunk.port ≠ .header ∨ headerHeard (s.hearTrunk (delimiter ++ header)).2 = none) :
    exec (.trunkHeaderError delimiter header) s = .next s ∧ exec (.trunkValidHeader delimiter header) s = .next s := by
  have hidle : (if s.takesHeader then .next (s.hearHeader (delimiter ++ header)) else .next s) =
      (.next s : Host.Outcome State Fault Refusal) := by
    obtain hport | hnone := h
    · have htakes : s.takesHeader = false := by
        rw [State.takesHeader, decide_eq_false hport, Bool.and_false]
      rw [htakes]
      rfl
    · rw [State.hearHeader, hnone, ite_self]
  exact ⟨hidle, hidle⟩

theorem exec_captureFailed_idle {line : Wave} {windowFirst : Bool} {s : State}
    (h : ∀ target h0 h1 v, s.trunk.port = .capture target h0 h1 →
      s.captureVerdict h0 h1 target.bytes windowFirst line = some v → v = .success) :
    exec (.captureFailed ⟨line, windowFirst⟩) s = .next s := by
  show execCaptureFailed ⟨line, windowFirst⟩ s = .next s
  unfold execCaptureFailed
  split
  next target h0 h1 _ hport =>
    dsimp only
    cases hverdict : s.captureVerdict h0 h1 target.bytes windowFirst line with
    | none => rfl
    | some v => rw [h target h0 h1 v hport hverdict, if_pos rfl]
  next => rfl

theorem exec_downlinkCapture_idle {line : Wave} {s : State}
    (h : ∀ i e h0 h1, s.trunk.port = .capture (.downlink i e) h0 h1 →
      s.captureVerdict h0 h1 e.bytes false line = none) : exec (.downlinkCapture line) s = .next s := by
  show execDownlinkCapture line s = .next s
  unfold execDownlinkCapture
  split
  next i e h0 h1 _ hport =>
    rw [h i e h0 h1 hport]
    rfl
  next => rfl

theorem exec_streamWrite_idle {line : Wave} {s : State}
    (h : ∀ h0 h1, s.trunk.port = .capture .streamWrite h0 h1 → s.captureVerdict h0 h1 16 false line = none) :
    exec (.streamWrite line) s = .next s := by
  show execStreamWrite line s = .next s
  unfold execStreamWrite
  split
  next h0 h1 _ hport =>
    rw [h h0 h1 hport]
    rfl
  next => rfl

theorem State.recordReception_notReceiving {line : Wave} {code tag : Byte} {ops : Operands} {s : State}
    (h : ∀ h0 h1, s.trunk.port = .capture .command h0 h1 →
      s.captureVerdict h0 h1 16 false line = none ∨
        s.captureVerdict h0 h1 16 false line = some .success ∧
          (goodBytes (s.hearCapture 16 line).2).take 16 ≠ code :: tag :: ops.toList) :
    s.recordReception code tag ⟨ops, line⟩ = .notReceiving := by
  unfold State.recordReception
  split
  next h0 h1 _ hport =>
    obtain hnone | ⟨hgood, hother⟩ := h h0 h1 hport
    · dsimp only
      rw [hnone]
    · dsimp only
      rw [hgood]
      exact if_neg hother
  next => rfl

/-! ## Receptions and wakes on the branch -/

theorem exec_relayCharacterReceived_idle {line : Wave} {s : State}
    (h : ∀ t i x, s.link.state = .replyWait t → t.op = .relay i → s.link.relay = some x →
      x.received.length < x.entry.bytes →
        s.link.mode = .normal ∧ ∀ b, (s.hearReply x.entry.bytes line).2 ≠ [.character (.good b)]) :
    exec (.relayCharacterReceived line) s = .next s := by
  show execRelayCharacterReceived line s = .next s
  unfold execRelayCharacterReceived
  split
  next x hawaits hrelay =>
    obtain ⟨-, hawaits⟩ := (Bool.and_eq_true _ _).mp hawaits
    obtain ⟨t, i, hstate, hop⟩ : ∃ t i, s.link.state = .replyWait t ∧ t.op = .relay i := by
      unfold LinkState.awaitsRelay at hawaits
      split at hawaits
      next t hstate =>
        split at hawaits
        next i hop => exact ⟨t, i, hstate, hop⟩
        all_goals cases hawaits
      next => cases hawaits
    split
    next hmissing =>
      obtain ⟨hmode, hheard⟩ := h t i x hstate hop hrelay hmissing
      have hnone : s.replyCharacter x.entry.bytes x.received.length line = none := by
        unfold State.replyCharacter
        rw [hmode]
        dsimp only
        split
        next r b hreply => exact absurd (congrArg Prod.snd hreply) (hheard b)
        next => rfl
      rw [hnone]
    next => rfl
  next => rfl

theorem exec_branchReplyEnd_idle {ending : ReplyEnd} {s : State}
    (h : ∀ t, s.link.state = .replyWait t →
      (∀ i o, t.op = .refresh i o → s.refreshReception t ending = none) ∧
      ∀ i x, t.op = .relay i → s.link.relay = some x → s.relayReception x ending = none) :
    exec (.branchReplyEnd ending) s = .next s := by
  show execBranchReplyEnd ending s = .next s
  unfold execBranchReplyEnd
  split
  next t _ hstate =>
    obtain ⟨hrefresh, hrelay⟩ := h t hstate
    split
    next i o hop =>
      rw [hrefresh i o hop]
      rfl
    next i x hop hcontext =>
      rw [hrelay i x hop hcontext]
      rfl
    all_goals rfl
  next => rfl

theorem exec_branchWakeDetected_idle {before : Wave} {low : Nat} {s : State}
    (h : s.hearsWake before low = false ∨ s.link.state.inFrame = true) :
    exec (.branchWakeDetected before low) s = .next s := by
  show execBranchWakeDetected before low s = .next s
  unfold execBranchWakeDetected
  obtain hwake | hframe := h
  · rw [hwake, Bool.and_false]
  · cases hstate : s.link.state with
    | header | replyWait | dataOut | wakeOut =>
      generalize (s.isRunning && s.hearsWake before low) = heard
      cases heard <;> rfl
    | _ =>
      rw [hstate] at hframe
      cases hframe

/-! ## Expiries, samples and completions -/

theorem reachesZero_eq_false {v : Byte} (h : 1 < v.toNat) : reachesZero v = false :=
  decide_eq_false (Nat.not_le.2 h)

theorem exec_gapEnd_idle {s : State} (h : ∀ rate, s.link.state ≠ .gap rate) : exec .gapEnd s = .next s := by
  show execGapEnd s = .next s
  unfold execGapEnd
  split
  next rate _ hstate => exact absurd hstate (h rate)
  next => rfl

theorem exec_forwardCharacterHandoff_idle {s : State}
    (h : ∀ sending waiting more x check c rest, s.trunk.port = .forward sending waiting more →
      s.link.relay = some x → x.trunkSide ≠ .stillOpen check (c :: rest)) :
    exec .forwardCharacterHandoff s = .next s := by
  show execForwardCharacterHandoff s = .next s
  unfold execForwardCharacterHandoff
  split
  next sending waiting more x _ hport hrelay =>
    split
    next check c rest hside => exact absurd hside (h sending waiting more x check c rest hport hrelay)
    all_goals rfl
  next => rfl

theorem exec_refreshCountdownExpiry_idle {i : EntryIndex} {s : State}
    (h : (s.activeEntry i).valid = false ∨ (s.activeEntry i).refresh = 0#8 ∨ 1 < (s.countdown i).toNat) :
    exec (.refreshCountdownExpiry i) s = .next s := by
  have hdue : s.countdownDue i = false := by
    unfold State.countdownDue Entry.countdownRuns
    obtain hvalid | hrefresh | hcountdown := h
    · simp [hvalid]
    · simp [hrefresh]
    · simp [reachesZero_eq_false hcountdown]
  show execRefreshCountdownExpiry i s = .next s
  rw [execRefreshCountdownExpiry, hdue, Bool.and_false]
  rfl

theorem exec_settleExpiry_idle {s : State} (h : s.link.state ≠ .wakeSettle ∨ 1 < s.link.settle.toNat) :
    exec .settleExpiry s = .next s := by
  show execSettleExpiry s = .next s
  unfold execSettleExpiry
  refine if_neg fun hdue => ?_
  simp only [Bool.and_eq_true] at hdue
  obtain ⟨⟨-, hsettling⟩, hzero⟩ := hdue
  obtain hstate | hsettle := h
  · cases hlink : s.link.state with
    | wakeSettle => exact hstate hlink
    | _ =>
      rw [hlink] at hsettling
      cases hsettling
  · rw [reachesZero_eq_false hsettle] at hzero
    cases hzero

theorem exec_quarantineHoldExpiry_idle {s : State}
    (h : s.link.state ≠ .quarantine ∨ s.link.line.policy = .hold ∨ s.link.sampling = true ∨ 1 < s.link.hold.toNat) :
    exec .quarantineHoldExpiry s = .next s := by
  show execQuarantineHoldExpiry s = .next s
  unfold execQuarantineHoldExpiry LinkController.holdRuns
  refine if_neg fun hdue => ?_
  simp only [Bool.and_eq_true, LinkState.isQuarantine_iff, decide_eq_true_eq, Bool.not_eq_true'] at hdue
  obtain ⟨⟨-, ⟨hquarantine, hauto⟩, hsampling⟩, hzero⟩ := hdue
  obtain hstate | hhold | hsamples | hlong := h
  · exact hstate hquarantine
  · rw [hhold] at hauto
    cases hauto
  · rw [hsamples] at hsampling
    cases hsampling
  · rw [reachesZero_eq_false hlong] at hzero
    cases hzero

theorem exec_quarantineSample_idle {s : State} (h : s.link.state ≠ .quarantine ∨ s.link.sampling = false) (a b c : Bool) :
    exec (.quarantineSample a b c) s = .next s := by
  show execQuarantineSample a b c s = .next s
  unfold execQuarantineSample
  refine if_neg fun hdue => ?_
  simp only [Bool.and_eq_true, LinkState.isQuarantine_iff] at hdue
  obtain ⟨⟨-, hquarantine⟩, hsampling⟩ := hdue
  obtain hstate | hsamples := h
  · exact hstate hquarantine
  · rw [hsamples] at hsampling
    cases hsampling

theorem exec_saveComplete_idle {s : State} (h : ∀ c count, s.config.store ≠ .saving c count) (ok : Bool) :
    exec (.saveComplete ok) s = .next s := by
  show execSaveComplete ok s = .next s
  unfold execSaveComplete
  split
  next c count _ hstore => exact absurd hstore (h c count)
  next => rfl

theorem exec_loadComplete_idle {s : State} (h : s.config.store ≠ .loading) : exec .loadComplete s = .next s := by
  show execLoadComplete s = .next s
  unfold execLoadComplete
  split
  next hstore _ => exact absurd hstore h
  next => rfl

/-- Settles O6: the rows that ask for a running relay, the rows of the transmissions, those that bring a line, and those
that bring none. -/
theorem eventsThatCannotAriseChangeNothing : Obligations.EventsThatCannotAriseChangeNothing := by
  refine ⟨fun s hpower => ?_, fun sent s => ?_, fun line delimiter header before low windowFirst s => ?_, fun s => ?_⟩
  · have hrun := State.isRunning_eq_false hpower
    obtain ⟨htrunk, hbranch⟩ := State.released_of_not_running hrun
    exact ⟨htrunk, hbranch, fun c hc => exec_of_not_running hrun hc⟩
  · exact ⟨exec_serveComplete_idle, exec_trunkServeBitError_idle, exec_relayTrunkComplete_idle,
      exec_forwardedCharacterFinished_idle, exec_trunkForwardBitError_idle, exec_branchLineFault_idle,
      exec_branchBitError_idle, exec_branchHeaderSent_idle, exec_publishDataSent_idle, exec_wakePulseEnd_idle,
      exec_wakePulseFault_idle⟩
  · exact ⟨exec_trunkBreak_idle, exec_trunkHeader_idle, exec_captureFailed_idle, exec_downlinkCapture_idle,
      exec_streamWrite_idle, fun c code tag ops hrecord h =>
        exec_of_notReceiving hrecord (State.recordReception_notReceiving h),
      exec_relayCharacterReceived_idle, exec_branchReplyEnd_idle, exec_branchWakeDetected_idle⟩
  · exact ⟨exec_gapEnd_idle, exec_forwardCharacterHandoff_idle, fun i => exec_refreshCountdownExpiry_idle,
      exec_settleExpiry_idle, exec_quarantineHoldExpiry_idle, exec_quarantineSample_idle, exec_saveComplete_idle,
      exec_loadComplete_idle⟩

end Sys2Proof.Machine

/-! PROOFS. What a header does to the trunk port (O12 to O15), and what the relay drives (O10). -/

namespace Sys2Proof.Machine

/-! ## The header heard -/

theorem State.takesHeader_of_listening {s : State} (hrun : s.power = .running) (hport : s.trunk.port = .header) :
    s.takesHeader = true := by
  rw [State.takesHeader, (State.isRunning_iff s).2 hrun, hport]
  rfl

/-- The valid header heard is acted on with the receiver and the time since H1 that it leaves. -/
theorem exec_trunkValidHeader_heard {delimiter header : Wave} {h0 h1 : Byte} {r : Receiver} {since : Nat} {s : State}
    (h : HearsHeader s (delimiter ++ header) h0 h1 r since) (hrun : s.power = .running)
    (hport : s.trunk.port = .header) :
    exec (.trunkValidHeader delimiter header) s =
      .next (((s.setReceiver r).setSinceH1 since).takeValidHeader h0 h1) := by
  have hsince := HearsHeader.sinceHanded h
  obtain ⟨hheard, hcheck, -⟩ := h
  have hjudged : headerHeard (s.hearTrunk (delimiter ++ header)).2 = some (.valid h0 h1) := by
    rw [hheard]
    exact congrArg some (if_pos hcheck)
  show execTrunkValidHeader delimiter header s = _
  rw [execTrunkValidHeader, State.takesHeader_of_listening hrun hport, if_pos rfl, State.hearHeader, hjudged]
  dsimp only
  rw [hheard, hsince]
  rfl

/-- A header heard in error is judged so. -/
theorem HearsHeaderError.judged {line : Wave} {r : Receiver} {s : State} (h : HearsHeaderError s line r) :
    (s.hearTrunk line).1 = r ∧
      (headerHeard (s.hearTrunk line).2 = some .framing ∨ headerHeard (s.hearTrunk line).2 = some .headerCheck) := by
  obtain ⟨v, hheard⟩ | ⟨h0, v, hheard⟩ | ⟨h0, h1, hheard, hcheck⟩ := h
  · rw [hheard]
    exact ⟨rfl, .inl rfl⟩
  · rw [hheard]
    exact ⟨rfl, .inl rfl⟩
  · rw [hheard]
    exact ⟨rfl, .inr (congrArg some (if_neg hcheck))⟩

/-- Settles O12: a header judged FRAMING or HEADER_CHECK fails. -/
theorem headerErrorCounted : Obligations.HeaderErrorCounted := by
  intro delimiter header r s h hrun hport
  obtain ⟨hreceiver, hjudged⟩ := HearsHeaderError.judged h
  show execTrunkHeaderError delimiter header s = _
  rw [execTrunkHeaderError, State.takesHeader_of_listening hrun hport, if_pos rfl, State.hearHeader]
  obtain hjudged | hjudged := hjudged
  all_goals
    rw [hjudged]
    dsimp only
    rw [hreceiver]
    rfl

/-- A lookup reads the unit and the route table alone. -/
theorem State.lookup_congr {s t : State} (hunit : t.agent.unit = s.agent.unit) (hroute : t.route = s.route)
    (c : Channel) (l : LengthCode) : t.lookup c l = s.lookup c l := by
  unfold State.lookup
  rw [hunit, hroute]

theorem State.lookup_count (s : State) (k : Counter) (c : Channel) (l : LengthCode) :
    (s.count k).lookup c l = s.lookup c l :=
  State.lookup_congr rfl rfl c l

/-- Settles O13: the two ways in which a lookup gives no match. -/
theorem headerWithoutMatch : Obligations.HeaderWithoutMatch := by
  intro delimiter header h0 h1 r since s h hrun hport
  have hlookup : (((s.setReceiver r).setSinceH1 since).count .headers).lookup (headerChannel h0 h1) (headerLength h1) =
      s.lookup (headerChannel h0 h1) (headerLength h1) := State.lookup_congr rfl rfl _ _
  rw [exec_trunkValidHeader_heard h hrun hport, State.takeValidHeader]
  dsimp only
  rw [hlookup]
  refine ⟨fun hunrouted => ?_, fun hmismatch => ?_⟩
  · rw [hunrouted]
    rfl
  · obtain hown | ⟨i, hentry⟩ := hmismatch
    · rw [hown]
      rfl
    · rw [hentry]
      rfl

/-! ## The header that matched -/

/-- The serve decision and its snapshot (R53, R73). -/
theorem State.serveRecord_eq (i : EntryIndex) (e : Entry) (h0 h1 : Byte) (s : State) :
    s.serveRecord i e h0 h1 = s.setPort (recordPort i e.missPolicy h0 h1 s) := by
  unfold State.serveRecord recordPort Record.serves
  cases (s.record i).state with
  | fresh => rfl
  | empty => rfl
  | stale => cases e.missPolicy <;> rfl

/-- A header for a management channel is counted, and the port enters the state of that channel. -/
theorem State.takeValidHeader_management {s : State} {h0 h1 : Byte} {k : ManagementChannel}
    (h : s.lookup (headerChannel h0 h1) (headerLength h1) = .management k) :
    s.takeValidHeader h0 h1 = (routedHeader s).setPort (managementPort k h0 h1 (routedHeader s)) := by
  rw [State.takeValidHeader, State.lookup_count, h]
  cases k <;> rfl

/-- A header for an entry is counted and dispatched. -/
theorem State.takeValidHeader_entry {s : State} {h0 h1 : Byte} {i : EntryIndex} {e : Entry} {m b : Channel}
    (h : s.lookup (headerChannel h0 h1) (headerLength h1) = .entry i e m b) :
    s.takeValidHeader h0 h1 = (routedHeader s).dispatchEntry i e b h0 h1 := by
  rw [State.takeValidHeader, State.lookup_count, h]
  rfl

/-- The state with the receiver and the time since H1 behind a header. -/
theorem State.lookup_heard (s : State) (r : Receiver) (since : Nat) (c : Channel) (l : LengthCode) :
    ((s.setReceiver r).setSinceH1 since).lookup c l = s.lookup c l :=
  State.lookup_congr rfl rfl c l

theorem exec_trunkValidHeader_management {delimiter header : Wave} {h0 h1 : Byte} {r : Receiver} {since : Nat}
    {s : State} {k : ManagementChannel} (h : HearsHeader s (delimiter ++ header) h0 h1 r since)
    (hrun : s.power = .running) (hport : s.trunk.port = .header)
    (hlookup : s.lookup (headerChannel h0 h1) (headerLength h1) = .management k) :
    exec (.trunkValidHeader delimiter header) s =
      .next ((routedHeader ((s.setReceiver r).setSinceH1 since)).setPort
        (managementPort k h0 h1 (routedHeader ((s.setReceiver r).setSinceH1 since)))) := by
  rw [← State.lookup_heard s r since] at hlookup
  rw [exec_trunkValidHeader_heard h hrun hport, State.takeValidHeader_management hlookup]

theorem exec_trunkValidHeader_entry {delimiter header : Wave} {h0 h1 : Byte} {r : Receiver} {since : Nat}
    {s : State} {i : EntryIndex} {e : Entry} {m b : Channel} (h : HearsHeader s (delimiter ++ header) h0 h1 r since)
    (hrun : s.power = .running) (hport : s.trunk.port = .header)
    (hlookup : s.lookup (headerChannel h0 h1) (headerLength h1) = .entry i e m b) :
    exec (.trunkValidHeader delimiter header) s =
      .next ((routedHeader ((s.setReceiver r).setSinceH1 since)).dispatchEntry i e b h0 h1) := by
  rw [← State.lookup_heard s r since] at hlookup
  rw [exec_trunkValidHeader_heard h hrun hport, State.takeValidHeader_entry hlookup]

/-! ## What the channels carry, byte by byte (R176, R177) -/

theorem setWidth_eight {n : Nat} (x : BitVec n) : x.setWidth 8 = BitVec.ofNat 8 x.toNat :=
  BitVec.eq_of_toNat_eq (by rw [BitVec.toNat_setWidth, BitVec.toNat_ofNat])

theorem channelBytes_eq (c : Channel) :
    channelBytes c = [BitVec.ofNat 8 (c.toNat % 256), BitVec.ofNat 8 (c.toNat / 256)] := by
  have hlow : lowByte (c.setWidth 16) = BitVec.ofNat 8 (c.toNat % 256) := by
    apply BitVec.eq_of_toNat_eq
    simp [lowByte]
  have hhigh : highByte (c.setWidth 16) = BitVec.ofNat 8 (c.toNat / 256) := by
    apply BitVec.eq_of_toNat_eq
    simp [highByte, Nat.shiftRight_eq_div_pow]
    omega
  rw [channelBytes, word16Bytes, hlow, hhigh]

theorem Entry.byte0_eq (e : Entry) :
    e.byte0 =
      (if e.valid = true then 0x80#8 else 0x00#8) + (if e.masked = true then 0x40#8 else 0x00#8) +
        (match e.kind with
        | .localData => 0x00#8 | .cached => 0x08#8 | .relayed => 0x10#8 | .downlink => 0x18#8
        | .blocked => 0x20#8) +
        BitVec.ofNat 8 e.length.toNat := by
  have hbits : ∀ (v m : Bool) (l : BitVec 2) (k : BitVec 3) (x : Byte), x = (0#5 ++ k) <<< 3 →
      bitOf v ++ bitOf m ++ k ++ 0#1 ++ l =
        (if v = true then 0x80#8 else 0x00#8) + (if m = true then 0x40#8 else 0x00#8) + x +
          BitVec.ofNat 8 l.toNat := by
    rintro v m l k _ rfl
    revert v m l k
    decide
  unfold Entry.byte0
  cases hkind : e.kind <;> exact hbits _ _ _ _ _ rfl

theorem Entry.byte8_eq (e : Entry) :
    e.byte8 =
      (if e.demand = true then 0x80#8 else 0x00#8) + (if e.storePolicy = .hold then 0x40#8 else 0x00#8) +
        (if e.missPolicy = .repeat then 0x20#8 else 0x00#8) + (if e.fallback = true then 0x10#8 else 0x00#8) +
        BitVec.ofNat 8 e.priority.toNat := by
  have hbits : ∀ (d st m f : Bool) (p : BitVec 2), bitOf d ++ bitOf st ++ bitOf m ++ bitOf f ++ 0#2 ++ p =
      (if d = true then 0x80#8 else 0x00#8) + (if st = true then 0x40#8 else 0x00#8) +
        (if m = true then 0x20#8 else 0x00#8) + (if f = true then 0x10#8 else 0x00#8) + BitVec.ofNat 8 p.toNat := by
    decide
  unfold Entry.byte8
  rw [hbits]
  simp only [beq_iff_eq]

theorem Entry.byte9_eq (e : Entry) : e.byte9 = BitVec.ofNat 8 e.silentLimit.toNat := by
  have hbits : ∀ x : BitVec 4, 0#4 ++ x = BitVec.ofNat 8 x.toNat := by decide
  exact hbits e.silentLimit

theorem Record.stateByte_eq (r : Record) :
    r.stateByte =
      (match r.state with | .empty => 0#8 | .fresh => 1#8 | .stale => 2#8) +
        (match r.source with | .branch => 0x00#8 | .trunk => 0x04#8 | .management => 0x08#8) +
        (if r.pending = true then 0x10#8 else 0x00#8) := by
  unfold Record.stateByte
  cases r.state <;> cases r.source <;> cases r.pending <;> rfl

theorem Record.failsByte_eq (r : Record) :
    r.failsByte = (if r.silent = true then 0x80#8 else 0x00#8) + BitVec.ofNat 8 r.fails.toNat := by
  have hbits : ∀ (b : Bool) (x : BitVec 4),
      bitOf b ++ 0#3 ++ x = (if b = true then 0x80#8 else 0x00#8) + BitVec.ofNat 8 x.toNat := by decide
  exact hbits r.silent r.fails

theorem statusByte2_eq (c : LinkController) :
    statusByte2 c =
      (if c.mode = .loopback then 0x80#8 else 0x00#8) +
        (match c.state with
        | .idle => 0#8 | .header _ => 1#8 | .replyWait _ => 2#8 | .dataOut _ => 3#8 | .gap _ => 4#8
        | .quarantine => 5#8 | .asleep => 6#8 | .wakeOut _ _ _ => 7#8 | .wakeSettle => 8#8) := by
  have hbits : ∀ (b : Bool) (x : BitVec 4), bitOf b ++ 0#3 ++ x = (if b = true then 0x80#8 else 0x00#8) + x.setWidth 8 := by
    decide
  have hcode : ∀ l : LinkState, l.code.setWidth 8 =
      match l with
      | .idle => 0#8 | .header _ => 1#8 | .replyWait _ => 2#8 | .dataOut _ => 3#8 | .gap _ => 4#8
      | .quarantine => 5#8 | .asleep => 6#8 | .wakeOut _ _ _ => 7#8 | .wakeSettle => 8#8 := by
    intro l
    cases l <;> rfl
  rw [statusByte2, hbits, hcode]
  simp only [beq_iff_eq]

theorem statusByte6_eq (r : RouteTable) :
    statusByte6 r =
      (if r.commitPending = true then 0x02#8 else 0x00#8) + (match r.activeBank with | .a => 0#8 | .b => 1#8) := by
  unfold statusByte6
  cases r.commitPending <;> cases r.activeBank <;> rfl

theorem statusByte7_eq (k : KeyState) (st : StoreState) :
    statusByte7 k st =
      (match k with | .none => 0x00#8 | .key1 => 0x10#8 | .key2 => 0x20#8) +
        (match st with | .valid => 0#8 | .invalid => 1#8 | .saving _ _ => 2#8 | .loading => 3#8) := by
  have hbits : ∀ (a b : BitVec 2), 0#2 ++ a ++ 0#2 ++ b = a.setWidth 8 <<< 4 + b.setWidth 8 := by decide
  have hstore : st.code.setWidth 8 =
      match st with | .valid => 0#8 | .invalid => 1#8 | .saving _ _ => 2#8 | .loading => 3#8 := by
    cases st <;> rfl
  rw [statusByte7, hbits, hstore]
  cases k <;> rfl

theorem RouteTable.entryReadBytes_eq (r : RouteTable) {b : Bank} {id : Byte}
    (hbank : b = r.bankOf (r.bankIdOf r.readBank)) (hid : id = (r.bankIdOf r.readBank).code) :
    r.entryReadBytes =
      [BitVec.ofNat 8 r.readIndex.val, id] ++ encodeEntry (b.entry r.readIndex) ++
        channelBytes (b.maskFor r.readIndex) ++ word16Bytes r.commitCount := by
  subst hbank hid
  rfl

theorem padTo_eight_drop (data : List Byte) (half : Bool) :
    padTo 8 (data.drop (if half then 8 else 0)) =
      (List.range 8).map fun k => data.getD (if half = true then k + 8 else k) 0x00#8 := by
  refine List.map_congr_left fun k _ => ?_
  cases half with
  | false => rfl
  | true => simp [List.getD_eq_getElem?_getD, List.getElem?_drop, Nat.add_comm]

/-- Settles O14: the dispatch by channel and by KIND, and the layouts of the channels. -/
theorem matchedHeaderDispatch : Obligations.MatchedHeaderDispatch := by
  refine ⟨fun delimiter header h0 h1 r since k s h hrun hport hlookup => ?_,
    fun delimiter header h0 h1 r since i e m b s h hrun hport hlookup => ?_, fun s => ?_⟩
  · rw [exec_trunkValidHeader_management h hrun hport hlookup]
    cases k <;> rfl
  · have hrecord : recordPort i e.missPolicy h0 h1 (routedHeader ((s.setReceiver r).setSinceH1 since)) =
        recordPort i e.missPolicy h0 h1 s := rfl
    rw [exec_trunkValidHeader_entry h hrun hport hlookup, State.dispatchEntry]
    refine ⟨fun hkind => ?_, fun hkind => ?_, fun hkind => ?_, fun hkind => ?_⟩
    all_goals rw [hkind]
    · rfl
    · rfl
    · dsimp only
      rw [State.serveRecord_eq, hrecord]
      rfl
    · dsimp only
      rw [State.serveRecord_eq, hrecord]
      rfl
  · refine ⟨?_, ?_, rfl, ?_, fun b id e mask hbank he hmask => ?_, fun r hr => ?_⟩
    · rw [ResultRecord.bytes]
      cases s.agent.result.outcome <;> rfl
    · rw [State.statusBytes, statusByte2_eq, statusByte6_eq, statusByte7_eq]
      rfl
    · rw [State.identBytes, setWidth_eight s.agent.unit, setWidth_eight s.trunk.rate]
      cases s.config.cause <;> cases s.config.store <;> rfl
    · subst he hmask
      have hbytes := RouteTable.entryReadBytes_eq s.route (b := b) (id := id)
      rw [hbytes, encodeEntry, channelBytes_eq, channelBytes_eq, channelBytes_eq, Entry.byte0_eq, Entry.byte8_eq,
        Entry.byte9_eq]
      · rfl
      · obtain ⟨hrole, rfl, -⟩ | ⟨hrole, rfl, -⟩ := hbank <;> rw [hrole] <;> rfl
      · obtain ⟨hrole, -, rfl⟩ | ⟨hrole, -, rfl⟩ := hbank <;> rw [hrole, RouteTable.bankIdOf]
        · cases s.route.activeBank <;> rfl
        · cases s.route.activeBank <;> rfl
    · subst hr
      rw [RecordStore.recordReadBytes, padTo_eight_drop, Record.stateByte_eq, Record.failsByte_eq]
      rfl

/-! ## A relay request (R128, R129) -/

/-- The counter and the flags of a refused relay (R129). -/
def refusedRelay (s : State) : State :=
  { s with
    agent :=
      { s.agent with
        flags := if s.link.line.rate ≠ s.trunk.rate then s.agent.flags ||| 0x2010#16 else s.agent.flags ||| 0x0010#16
        counters := { s.agent.counters with relayRefused := satSucc s.agent.counters.relayRefused } } }

theorem State.ratesDiffer_iff {s : State} : s.ratesDiffer = true ↔ s.link.line.rate ≠ s.trunk.rate :=
  bne_iff_ne

theorem refusedRelay_eq (s : State) :
    refusedRelay s =
      if s.ratesDiffer then ((s.count .relayRefused).setFlag .relayRefused).setFlag .rateMismatch
      else (s.count .relayRefused).setFlag .relayRefused := by
  by_cases hrates : s.link.line.rate ≠ s.trunk.rate
  · have hflags : s.agent.flags ||| 0x2010#16 = s.agent.flags ||| Flag.relayRefused.mask ||| Flag.rateMismatch.mask := by
      rw [BitVec.or_assoc]
      rfl
    rw [refusedRelay, if_pos hrates, if_pos (State.ratesDiffer_iff.2 hrates), hflags]
    rfl
  · rw [refusedRelay, if_neg hrates, if_neg fun h => hrates (State.ratesDiffer_iff.1 h)]
    rfl

theorem State.refuseRelay_eq (i : EntryIndex) (e : Entry) (h0 h1 : Byte) (s : State) :
    s.refuseRelay i e h0 h1 =
      if e.masked then (refusedRelay s).setPort .passive
      else demandChecked i e
        ((refusedRelay s).setPort (if e.fallback then recordPort i e.missPolicy h0 h1 s else .passive)) := by
  have hrecord : recordPort i e.missPolicy h0 h1 (refusedRelay s) = recordPort i e.missPolicy h0 h1 s := rfl
  unfold State.refuseRelay
  dsimp only
  rw [← refusedRelay_eq, State.serveRecord_eq, hrecord]
  cases e.fallback <;> rfl

/-- Settles O15: with equal rates and an IDLE link the relay is admitted; otherwise the slot is judged without it. -/
theorem relayAdmittedOrRefused : Obligations.RelayAdmittedOrRefused := by
  refine ⟨fun delimiter header h0 h1 r since i e m b s h hrun hport hlookup hkind hrates hidle => ?_,
    fun delimiter header h0 h1 r since i e m b s t h hrun hport hlookup hkind hrefused ht => ?_⟩
  · have hadmit : (!s.ratesDiffer && s.link.state.isIdle) = true := by
      rw [State.ratesDiffer, hrates, hidle, bne_self_eq_false]
      rfl
    rw [exec_trunkValidHeader_entry h hrun hport hlookup, State.dispatchEntry, hkind]
    exact congrArg Host.Outcome.next (if_pos hadmit)
  · have hnot : (!s.ratesDiffer && s.link.state.isIdle) ≠ true := by
      intro hadmit
      obtain ⟨hsame, hlink⟩ := (Bool.and_eq_true _ _).mp hadmit
      obtain hrates | hstate := hrefused
      · rw [State.ratesDiffer_iff.2 hrates] at hsame
        cases hsame
      · cases hlinkState : s.link.state with
        | idle => exact hstate hlinkState
        | _ =>
          rw [hlinkState] at hlink
          cases hlink
    have hrefuse : ((routedHeader ((s.setReceiver r).setSinceH1 since)).requestRelay i e b h0 h1) =
        (routedHeader ((s.setReceiver r).setSinceH1 since)).refuseRelay i e h0 h1 := if_neg hnot
    rw [exec_trunkValidHeader_entry h hrun hport hlookup, State.dispatchEntry, hkind]
    dsimp only
    rw [hrefuse, State.refuseRelay_eq, ht]
    cases e.masked <;> cases e.fallback <;> rfl

/-! ## What the relay drives (R1, R54, R104) -/

/-- Settles O10: the two transmitters, state by state. -/
theorem drivesOnlyWhereAllowed : Obligations.DrivesOnlyWhereAllowed := by
  refine ⟨fun s => ⟨fun htrunk => ?_, fun hbranch => ?_⟩, fun s hpower => ?_⟩
  · unfold State.trunkDrive at htrunk
    split at htrunk
    · split at htrunk
      next source reply hport => exact .inl ⟨source, reply, hport⟩
      next c waiting more hport => exact .inr ⟨c, waiting, more, hport⟩
      next => exact absurd rfl htrunk
    · exact absurd rfl htrunk
  · unfold State.branchDrive at hbranch
    split at hbranch
    next hmode =>
      refine ⟨hmode, ?_⟩
      unfold State.branchOutput at hbranch
      split at hbranch
      · split at hbranch
        next t hstate => exact .inl ⟨t, hstate⟩
        next t hstate => exact .inr (.inl ⟨t, hstate⟩)
        next asleep steps rate hstate => exact .inr (.inr ⟨asleep, steps, rate, hstate⟩)
        next => exact absurd rfl hbranch
      · exact absurd rfl hbranch
    next => exact absurd rfl hbranch
  · have hrun := (State.isRunning_iff s).2 hpower
    refine ⟨fun source reply hport => ?_, fun b waiting more hport => ?_, fun hmode => ⟨fun t hstate => ?_,
      fun t data hstate hop => ?_, fun asleep steps rate hstate => ?_⟩⟩
    · rw [State.trunkDrive, hrun, hport]
      rfl
    · obtain hport | hport := hport
      all_goals
        rw [State.trunkDrive, hrun, hport]
        rfl
    · rw [State.branchDrive, hmode, State.branchOutput, hrun, hstate]
      rfl
    · rw [State.branchDrive, hmode, State.branchOutput, hrun, hstate]
      obtain ⟨i, o, v, hop⟩ | ⟨hop, rfl⟩ := hop
      all_goals
        show Drive.characters t.published = _
        rw [Transaction.published, hop]
        rfl
    · rw [State.branchDrive, hmode, State.branchOutput, hrun, hstate]
      rfl

end Sys2Proof.Machine

/-! PROOFS. Encodings (O8, O9), validation (O17, O26) and counters (O23). -/

namespace Sys2Proof.Machine

/-! ## Bytes of a word (R173, R174) -/

theorem toNat_word16Of (low high : Byte) : (word16Of low high).toNat = high.toNat * 256 + low.toNat := by
  show (high ++ low).toNat = _
  rw [BitVec.toNat_append, ← Nat.shiftLeft_add_eq_or_of_lt low.isLt, Nat.shiftLeft_eq]

theorem toNat_lowByte (x : Word16) : (lowByte x).toNat = x.toNat % 256 :=
  BitVec.extractLsb'_toNat 0 8 x

theorem toNat_highByte (x : Word16) : (highByte x).toNat = x.toNat / 256 := by
  rw [highByte, BitVec.extractLsb'_toNat, Nat.shiftRight_eq_div_pow]
  omega

theorem word16Of_bytes (x : Word16) : word16Of (lowByte x) (highByte x) = x := by
  apply BitVec.eq_of_toNat_eq
  rw [toNat_word16Of, toNat_lowByte, toNat_highByte]
  omega

theorem lowByte_word16Of (low high : Byte) : lowByte (word16Of low high) = low := by
  apply BitVec.eq_of_toNat_eq
  rw [toNat_lowByte, toNat_word16Of]
  omega

theorem highByte_word16Of (low high : Byte) : highByte (word16Of low high) = high := by
  apply BitVec.eq_of_toNat_eq
  rw [toNat_highByte, toNat_word16Of]
  omega

theorem channel?_setWidth (c : Channel) : channel? (c.setWidth 16) = some c := by
  have htoNat : (c.setWidth 16).toNat = c.toNat := by
    rw [BitVec.toNat_setWidth]
    omega
  have hwidth : (c.setWidth 16).setWidth 10 = c := by
    apply BitVec.eq_of_toNat_eq
    rw [BitVec.toNat_setWidth, htoNat]
    omega
  rw [channel?, htoNat, if_pos (by omega), hwidth]

theorem channelBytes_of_channel? {low high : Byte} {c : Channel} (h : channel? (word16Of low high) = some c) :
    channelBytes c = [low, high] := by
  unfold channel? at h
  split at h
  next hsmall =>
    have hwidth : c.setWidth 16 = word16Of low high := by
      cases h
      apply BitVec.eq_of_toNat_eq
      rw [BitVec.toNat_setWidth, BitVec.toNat_setWidth]
      omega
    rw [channelBytes, hwidth, word16Bytes, lowByte_word16Of, highByte_word16Of]
  next => cases h

/-! ## Route entries (R174) -/

theorem kindOfCode_code (k : EntryKind) : kindOfCode k.code = some k := by
  cases k <;> rfl

theorem code_of_kindOfCode {c : BitVec 3} {k : EntryKind} (h : kindOfCode c = some k) : k.code = c := by
  have hall : ∀ c : BitVec 3, ∀ k ∈ kindOfCode c, k.code = c := by decide
  exact hall c k h

/-- Byte 0 read back, field by field. -/
theorem byte0_fields (valid masked : Bool) (kind : BitVec 3) (length : BitVec 2) (b : Byte)
    (hb : b = bitOf valid ++ bitOf masked ++ kind ++ 0#1 ++ length) :
    b.getLsbD 7 = valid ∧ b.getLsbD 6 = masked ∧ b.extractLsb' 3 3 = kind ∧ b.getLsbD 2 = false ∧
      b.extractLsb' 0 2 = length := by
  subst hb
  revert valid masked kind length
  decide

theorem byte0_of_fields (b : Byte) (h : b.getLsbD 2 = false) :
    bitOf (b.getLsbD 7) ++ bitOf (b.getLsbD 6) ++ b.extractLsb' 3 3 ++ 0#1 ++ b.extractLsb' 0 2 = b := by
  revert b
  decide

/-- Byte 8 read back, field by field. -/
theorem byte8_fields (demand hold rept fallback : Bool) (priority : BitVec 2) (b : Byte)
    (hb : b = bitOf demand ++ bitOf hold ++ bitOf rept ++ bitOf fallback ++ 0#2 ++ priority) :
    b.getLsbD 7 = demand ∧ b.getLsbD 6 = hold ∧ b.getLsbD 5 = rept ∧ b.getLsbD 4 = fallback ∧
      b.extractLsb' 2 2 = 0#2 ∧ b.extractLsb' 0 2 = priority := by
  subst hb
  revert demand hold rept fallback priority
  decide

theorem byte8_of_fields (b : Byte) (h : b.extractLsb' 2 2 = 0#2) :
    bitOf (b.getLsbD 7) ++ bitOf (b.getLsbD 6) ++ bitOf (b.getLsbD 5) ++ bitOf (b.getLsbD 4) ++ 0#2 ++
      b.extractLsb' 0 2 = b := by
  revert b
  decide

theorem byte9_fields (limit : BitVec 4) (b : Byte) (hb : b = 0#4 ++ limit) :
    b.extractLsb' 4 4 = 0#4 ∧ b.extractLsb' 0 4 = limit := by
  subst hb
  revert limit
  decide

theorem byte9_of_fields (b : Byte) (h : b.extractLsb' 4 4 = 0#4) : 0#4 ++ b.extractLsb' 0 4 = b := by
  revert b
  decide

theorem storePolicy_of_bit (p : StorePolicy) : (if (p == .hold) = true then StorePolicy.hold else .replace) = p := by
  cases p <;> rfl

theorem missPolicy_of_bit (p : MissPolicy) : (if (p == .repeat) = true then MissPolicy.repeat else .silent) = p := by
  cases p <;> rfl

theorem bit_of_storePolicy (b : Bool) : ((if b = true then StorePolicy.hold else .replace) == .hold) = b := by
  cases b <;> rfl

theorem bit_of_missPolicy (b : Bool) : ((if b = true then MissPolicy.repeat else .silent) == .repeat) = b := by
  cases b <;> rfl

theorem decodeEntry_encodeEntry {e : Entry} (h : e.silentLimit ≠ 0#4) : decodeEntry (encodeEntry e) = some e := by
  obtain ⟨hvalid, hmasked, hkind, hreserved, hlength⟩ := byte0_fields e.valid e.masked e.kind.code e.length e.byte0 rfl
  obtain ⟨hdemand, hhold, hrepeat, hfallback, hreserved8, hpriority⟩ :=
    byte8_fields e.demand (e.storePolicy == .hold) (e.missPolicy == .repeat) e.fallback e.priority e.byte8 rfl
  obtain ⟨hreserved9, hlimit⟩ := byte9_fields e.silentLimit e.byte9 rfl
  have hbytes : encodeEntry e =
      [e.byte0, lowByte (e.channel.setWidth 16), highByte (e.channel.setWidth 16),
        lowByte (e.branchChannel.setWidth 16), highByte (e.branchChannel.setWidth 16), e.refresh, lowByte e.staleLimit,
        highByte e.staleLimit, e.byte8, e.byte9] := rfl
  rw [hbytes, decodeEntry, hkind, kindOfCode_code, word16Of_bytes, word16Of_bytes, word16Of_bytes, channel?_setWidth,
    channel?_setWidth]
  dsimp only
  rw [if_pos ⟨hreserved, hreserved8, hreserved9, hlimit ▸ h⟩, hvalid, hmasked, hlength, hdemand, hhold, hrepeat,
    hfallback, hpriority, hlimit, storePolicy_of_bit, missPolicy_of_bit]

theorem encodeEntry_decodeEntry {bytes : List Byte} {e : Entry} (h : decodeEntry bytes = some e) :
    encodeEntry e = bytes := by
  unfold decodeEntry at h
  split at h
  next b0 b1 b2 b3 b4 b5 b6 b7 b8 b9 =>
    split at h
    next kind channel branchChannel hkind hchannel hbranch =>
      split at h
      next hreserved =>
        obtain ⟨hreserved0, hreserved8, hreserved9, -⟩ := hreserved
        cases h
        rw [encodeEntry, Entry.byte0, Entry.byte8, Entry.byte9, channelBytes_of_channel? hchannel,
          channelBytes_of_channel? hbranch, word16Bytes, lowByte_word16Of, highByte_word16Of]
        dsimp only
        rw [code_of_kindOfCode hkind, bit_of_storePolicy, bit_of_missPolicy, byte0_of_fields b0 hreserved0,
          byte8_of_fields b8 hreserved8, byte9_of_fields b9 hreserved9]
        rfl
      next => cases h
    next => cases h
  next => cases h

/-- Settles O8: the ten bytes are read back byte by byte, both ways. -/
theorem entryEncodingRoundTrip : Obligations.EntryEncodingRoundTrip :=
  ⟨fun _ h => decodeEntry_encodeEntry h, fun _ _ h => ⟨encodeEntry_decodeEntry h, decodeEntry_silentLimit h⟩⟩

/-! ## COMMAND records (R175) -/

theorem mem_commandCodes {code : Byte} (h : isCommandCode code = true) :
    code ∈ [0x01#8, 0x02#8, 0x03#8, 0x10#8, 0x11#8, 0x12#8, 0x13#8, 0x14#8, 0x15#8, 0x20#8, 0x21#8, 0x30#8, 0x31#8,
      0x32#8, 0x33#8, 0x40#8, 0x41#8, 0x42#8, 0x50#8, 0x51#8, 0x52#8, 0x53#8, 0x60#8, 0x61#8, 0x62#8] :=
  List.contains_iff_mem.1 h

/-- A code that names no command stands for UNKNOWN_COMMAND. -/
theorem commandOfRecord_unknown {code : Byte} (h : isCommandCode code = false) (straps : Straps) (branch : Transmission)
    (tag : Byte) (ops : HeardOperands) : commandOfRecord straps branch code tag ops = .unknownCommand code tag ops := by
  have hne : ∀ c, isCommandCode c = true → code ≠ c := by
    rintro c hc rfl
    rw [hc] at h
    cases h
  have hcodes : ∀ c ∈ commandCodes, (code = c) = False := fun c hc =>
    eq_false (hne c (List.contains_iff_mem.2 hc))
  simp only [commandCodes, List.forall_mem_cons] at hcodes
  simp only [commandOfRecord, hcodes, if_false]

theorem recordOfCommand_commandOfRecord (straps : Straps) (branch : Transmission) (code tag : Byte)
    (ops : HeardOperands) :
    recordOfCommand (commandOfRecord straps branch code tag ops) = some (code, tag, ops) ∧
      (commandOfRecord straps branch code tag ops).wellFormed = true := by
  cases hcode : isCommandCode code with
  | false =>
    rw [commandOfRecord_unknown hcode]
    exact ⟨rfl, congrArg (!·) hcode⟩
  | true =>
    have hknown : ∀ c ∈ commandCodes, recordOfCommand (commandOfRecord straps branch c tag ops) = some (c, tag, ops) ∧
        (commandOfRecord straps branch c tag ops).wellFormed = true := by
      simp only [commandCodes, List.forall_mem_cons, List.not_mem_nil, false_implies, implies_true, and_true]
      and_intros <;> rfl
    exact hknown code (List.contains_iff_mem.1 hcode)

theorem commandOfRecord_recordOfCommand {c : Instr} {code tag : Byte} {ops : HeardOperands}
    (hwf : c.wellFormed = true) (h : recordOfCommand c = some (code, tag, ops)) :
    ∃ straps branch, commandOfRecord straps branch code tag ops = c := by
  cases c with
  | unknownCommand code' tag' ops' =>
    have hunknown : isCommandCode code' = false := by simpa [Instr.wellFormed] using hwf
    cases h
    exact ⟨{ unit := 0#3, rate := 0#2 }, {}, commandOfRecord_unknown hunknown _ _ _ _⟩
  | restart tag' ops' straps =>
    cases h
    exact ⟨straps, {}, rfl⟩
  | resetBranch tag' ops' branch =>
    cases h
    exact ⟨{ unit := 0#3, rate := 0#2 }, branch, rfl⟩
  | nop | clearFlags | clearCounters | setPointers | writeEntry | writeMask | copyActive | clearEdit | commit
  | writeRecord | flushRecord | refreshNow | withdraw | setOrder | setTick | setLine | releaseLink | sleepBranch
  | wakeBranch | testKey | testExit | saveConfig | loadConfig =>
    cases h
    exact ⟨{ unit := 0#3, rate := 0#2 }, {}, rfl⟩
  | _ => cases h

/-- Settles O9: the 25 codes one by one, and every other code as UNKNOWN_COMMAND. -/
theorem commandRecordRoundTrip : Obligations.CommandRecordRoundTrip :=
  ⟨recordOfCommand_commandOfRecord, fun _ _ _ _ => commandOfRecord_recordOfCommand⟩

/-! ## Validation (R39) -/

/-- A mask within a branch channel is set in it wherever it is set. -/
theorem and_eq_left_iff (mask channel : Channel) :
    mask &&& channel = mask ↔ ∀ k : Fin 10, mask.getLsbD k = true → channel.getLsbD k = true := by
  have hand : ∀ k, (mask &&& channel).getLsbD k = (mask.getLsbD k && channel.getLsbD k) := fun _ => BitVec.getLsbD_and
  refine ⟨fun h k hk => ?_, fun h => BitVec.eq_of_getLsbD_eq fun k hk => ?_⟩
  · have hbit := hand k
    rw [h, hk, Bool.true_and] at hbit
    exact hbit.symm
  · rw [hand]
    cases hmask : mask.getLsbD k with
    | false => rfl
    | true => exact h ⟨k, hk⟩ hmask

/-- The condition of each of the six reasons, as the validation tests it. -/
def Entry.offends (e : Entry) (unit : BitVec 3) (mask : Channel) : Nat → Bool
  | 1 => e.masked && (e.kind == .localData || e.kind == .cached || e.kind == .downlink)
  | 2 => (e.refresh != 0#8 || e.demand) && (e.kind == .localData || e.kind == .downlink || e.kind == .blocked)
  | 3 => e.kind == .relayed && e.masked && (e.refresh != 0#8 || e.demand || e.fallback)
  | 4 => e.fallback && e.kind != .relayed
  | 5 =>
    ((e.kind == .cached || e.kind == .relayed || e.kind == .downlink) && e.branchChannel == 1023#10) ||
      (e.kind == .relayed && e.masked && mask &&& e.branchChannel == mask)
  | 6 => inOwnBlock unit e.channel
  | _ => false

theorem Bank.offends_iff (b : Bank) (unit : BitVec 3) (i : EntryIndex) (q : Nat) :
    (b.entry i).offends unit (b.maskFor i) q = true ↔ b.Offends unit i q := by
  unfold Entry.offends Bank.Offends
  split
  · simp [or_assoc]
  · simp [or_assoc]
  · simp [or_assoc, and_assoc]
  · simp
  · simp [or_assoc, and_assoc, and_eq_left_iff]
  · exact inOwnBlock_iff unit _
  · simp

/-- The lowest of the reasons 1 to 6 that holds. -/
def lowestReason (p : Nat → Bool) : Option Byte :=
  if p 1 then some 1#8 else if p 2 then some 2#8 else if p 3 then some 3#8 else if p 4 then some 4#8
  else if p 5 then some 5#8 else if p 6 then some 6#8 else none

theorem lowestReason_eq_some {p : Nat → Bool} (hzero : p 0 = false) {r : Byte} (h : lowestReason p = some r) :
    p r.toNat = true ∧ ∀ q < r.toNat, p q = false := by
  unfold lowestReason at h
  split_ifs at h
  all_goals
    cases h
    refine ⟨by assumption, fun q hq => ?_⟩
    simp only [BitVec.toNat_ofNat, Nat.reducePow, Nat.reduceMod] at hq
    interval_cases q
    all_goals simp_all

theorem lowestReason_eq_none {p : Nat → Bool} (hzero : p 0 = false) (hbeyond : ∀ q, 7 ≤ q → p q = false)
    (h : lowestReason p = none) (q : Nat) : p q = false := by
  unfold lowestReason at h
  split_ifs at h
  by_cases hq : 7 ≤ q
  · exact hbeyond q hq
  · interval_cases q
    all_goals simp_all

theorem Entry.offence_eq (e : Entry) (unit : BitVec 3) (mask : Channel) :
    e.offence unit mask = lowestReason (e.offends unit mask) :=
  rfl

theorem Entry.offends_beyond (e : Entry) (unit : BitVec 3) (mask : Channel) {q : Nat} (hq : 7 ≤ q) :
    e.offends unit mask q = false := by
  obtain ⟨k, rfl⟩ := Nat.exists_eq_add_of_le hq
  rw [Nat.add_comm]
  rfl

theorem Bank.offenceAt_eq_some {b : Bank} {unit : BitVec 3} {i : EntryIndex} {r : Byte}
    (h : b.offenceAt unit i = some r) :
    (b.entry i).valid = true ∧ b.Offends unit i r.toNat ∧ ∀ q < r.toNat, ¬ b.Offends unit i q := by
  unfold Bank.offenceAt at h
  split at h
  next hvalid =>
    rw [Entry.offence_eq] at h
    obtain ⟨hreason, hlower⟩ := lowestReason_eq_some rfl h
    refine ⟨hvalid, (b.offends_iff unit i _).1 hreason, fun q hq hoffends => ?_⟩
    have hno := hlower q hq
    rw [(b.offends_iff unit i q).2 hoffends] at hno
    cases hno
  next => cases h

theorem Bank.offenceAt_eq_none {b : Bank} {unit : BitVec 3} {i : EntryIndex} (h : b.offenceAt unit i = none)
    (hvalid : (b.entry i).valid = true) (q : Nat) : ¬ b.Offends unit i q := by
  rw [Bank.offenceAt, if_pos hvalid, Entry.offence_eq] at h
  rw [← b.offends_iff unit i q, Bool.not_eq_true]
  exact lowestReason_eq_none rfl (fun _ => Entry.offends_beyond _ unit _) h q

theorem Bank.offenceAt_of_validate_eq_none {b : Bank} {unit : BitVec 3} (h : b.validate unit = none) (i : EntryIndex) :
    b.offenceAt unit i = none :=
  Option.map_eq_none_iff.1 (List.findSome?_eq_none_iff.1 h i (List.mem_finRange i))

/-- Settles O26: the search goes through the entries in order of their indices. -/
theorem validationFindsFirstOffence : Obligations.ValidationFindsFirstOffence := by
  refine fun b unit => ⟨fun i r h => ?_, fun h j hvalid => ?_⟩
  · unfold Bank.validate at h
    obtain ⟨before, j, after, hsplit, hj, hbefore⟩ := List.findSome?_eq_some_iff.1 h
    obtain ⟨reason, hoffence, hpair⟩ := Option.map_eq_some_iff.1 hj
    cases hpair
    obtain ⟨hvalid, hoffends, hlower⟩ := Bank.offenceAt_eq_some hoffence
    refine ⟨hvalid, hoffends, hlower, fun k hk hkvalid => ?_⟩
    have hsorted : (before ++ i :: after).Pairwise (· < ·) := hsplit ▸ List.pairwise_lt_finRange 64
    have hmem : k ∈ before := by
      have hall : k ∈ before ++ i :: after := hsplit ▸ List.mem_finRange k
      obtain hmem | hmem := List.mem_append.1 hall
      · exact hmem
      · obtain ⟨-, hafter, -⟩ := List.pairwise_append.1 hsorted
        obtain rfl | hmem := List.mem_cons.1 hmem
        · exact absurd hk (lt_irrefl k)
        · exact absurd hk (not_lt.2 ((List.pairwise_cons.1 hafter).1 k hmem).le)
    exact Bank.offenceAt_eq_none (Option.map_eq_none_iff.1 (hbefore k hmem)) hkvalid
  · exact Bank.offenceAt_eq_none (Bank.offenceAt_of_validate_eq_none h j) hvalid

/-- A translated channel of all ones takes every one of its mask from the branch channel. -/
theorem Entry.relayChannel_masked_ne {e : Entry} {mask : Channel} (hmasked : e.masked = true)
    (h : mask &&& e.branchChannel ≠ mask) (c : Channel) : e.relayChannel mask c ≠ 1023#10 := by
  rw [Entry.relayChannel, if_pos hmasked]
  intro hall
  refine h ((and_eq_left_iff mask e.branchChannel).2 fun k hk => ?_)
  have hbit : ((e.branchChannel &&& mask) ||| (c &&& ~~~ mask)).getLsbD k = (1023#10).getLsbD k := by rw [hall]
  have hones : ∀ j : Fin 10, (1023#10).getLsbD j = true := by decide
  rw [hones, BitVec.getLsbD_or, BitVec.getLsbD_and, BitVec.getLsbD_and, BitVec.getLsbD_not, hk] at hbit
  simpa using hbit

/-- Settles O17: reason 5 of the validation excludes the sleep channel, with a mask and without. -/
theorem validatedBankNeverReachesSleepChannel : Obligations.ValidatedBankNeverReachesSleepChannel := by
  intro bank unit i c hvalidate hmatches hkind
  obtain ⟨hvalid, -⟩ := hmatches
  have hno := Bank.offenceAt_eq_none (Bank.offenceAt_of_validate_eq_none hvalidate i) hvalid 5
  cases hmasked : (bank.entry i).masked with
  | false =>
    rw [Entry.relayChannel, hmasked, if_neg Bool.false_ne_true]
    exact fun hall => hno (.inl ⟨.inr (.inl hkind), hall⟩)
  | true =>
    refine Entry.relayChannel_masked_ne hmasked (fun hmask => hno (.inr ⟨hkind, hmasked, ?_⟩)) c
    exact (and_eq_left_iff _ _).1 hmask

/-! ## Counters (R160) -/

theorem toNat_satSucc (x : Word16) : (satSucc x).toNat = min 65535 (x.toNat + 1) := by
  unfold satSucc
  split
  next h =>
    subst h
    rfl
  next h =>
    have hlt : x.toNat ≠ 65535 := fun hx => h (BitVec.eq_of_toNat_eq hx)
    rw [BitVec.toNat_add]
    have : (1#16).toNat = 1 := rfl
    omega

theorem Counters.get_raise_self (c : Counters) (k : Counter) : (c.raise k).get k = satSucc (c.get k) := by
  cases k <;> rfl

theorem Counters.get_raise_of_ne (c : Counters) {j k : Counter} (h : j ≠ k) : (c.raise k).get j = c.get j := by
  cases k with
  | headers =>
    cases j with
    | headers => exact absurd rfl h
    | _ => rfl
  | routed =>
    cases j with
    | routed => exact absurd rfl h
    | _ => rfl
  | headerErrors =>
    cases j with
    | headerErrors => exact absurd rfl h
    | _ => rfl
  | served =>
    cases j with
    | served => exact absurd rfl h
    | _ => rfl
  | relayedOk =>
    cases j with
    | relayedOk => exact absurd rfl h
    | _ => rfl
  | relayRefused =>
    cases j with
    | relayRefused => exact absurd rfl h
    | _ => rfl
  | branchOk =>
    cases j with
    | branchOk => exact absurd rfl h
    | _ => rfl
  | branchFailed =>
    cases j with
    | branchFailed => exact absurd rfl h
    | _ => rfl

/-- Settles O23. -/
theorem countersSaturate : Obligations.CountersSaturate := by
  intro c k
  rw [c.get_raise_self k]
  exact ⟨toNat_satSucc _, fun j hj => c.get_raise_of_ne hj⟩

end Sys2Proof.Machine

/-! PROOFS. What the receivers make of the line (O7, O11). -/

namespace Sys2Proof.Machine

/-! ## Headers (R6, R7) -/

theorem highNibble_append (a b : BitVec 4) : highNibble (a ++ b : Byte) = a := by
  revert a b
  decide

theorem lowNibble_append (a b : BitVec 4) : lowNibble (a ++ b : Byte) = b := by
  revert a b
  decide

theorem judgeHeader_header (c : Channel) (l : LengthCode) :
    judgeHeader (.good (headerH0 c)) (.good (headerH1 c l)) = .valid (headerH0 c) (headerH1 c l) := by
  refine if_pos ?_
  rw [headerH1, highNibble_append, lowNibble_append]

theorem headerChannel_header (c : Channel) (l : LengthCode) : headerChannel (headerH0 c) (headerH1 c l) = c := by
  have hlow : (headerH1 c l).extractLsb' 6 2 = c.extractLsb' 0 2 := by
    have hbits : ∀ (a b : BitVec 2) (n : BitVec 4), ((a ++ b : BitVec 4) ++ n : Byte).extractLsb' 6 2 = a := by decide
    exact hbits _ _ _
  have hjoin : ∀ d : Channel, (d.extractLsb' 2 8 ++ d.extractLsb' 0 2 : BitVec 10) = d := by decide +kernel
  rw [headerChannel, hlow, headerH0, hjoin]

theorem headerLength_header (c : Channel) (l : LengthCode) : headerLength (headerH1 c l) = l := by
  have hbits : ∀ (a b : BitVec 2) (n : BitVec 4), ((a ++ b : BitVec 4) ++ n : Byte).extractLsb' 4 2 = b := by decide
  exact hbits _ _ _

/-! ## A character behind any falling edge (R2) -/

theorem sixteenths_cons (v : Bool) (bits : List Bool) :
    sixteenths (v :: bits) = List.replicate bitSixteenths v ++ sixteenths bits :=
  rfl

/-- What a receiver that waits with the line high hears of a character does not depend on how long it has waited. -/
theorem Receiver.hear_character_of_waiting (g : Segment) (b : Byte) {r : Receiver} (hp : r.phase = .waiting)
    (hh : r.high = true) :
    r.hearLevels g (sixteenths (characterLevels b)) = (Receiver.atRest, goodCharacters [b]) := by
  rw [← Receiver.hear_character g b, characterLevels, sixteenths_cons, Receiver.hearLevels_append,
    Receiver.hearLevels_append, Receiver.hear_start g r hp hh, Receiver.hear_start g Receiver.atRest rfl rfl]

theorem levels_characterWave (b : Byte) : Wave.levels (characterWave b) = sixteenths (characterLevels b) := by
  simp [Wave.levels, characterWave, sixteenths, List.flatMap_map]

theorem levels_single (v : Bool) (n : Nat) : Wave.levels [(v, n)] = List.replicate n v :=
  List.append_nil _

/-! ## Waiting for the line to read high (R5, R46) -/

theorem Receiver.hear_quiet_low (g : Segment) (n : Nat) {r : Receiver} (hp : r.phase = .quiet) :
    (r.hearLevels g (List.replicate n false)).2 = [] ∧ (r.hearLevels g (List.replicate n false)).1.phase = .quiet ∧
      (0 < n → (r.hearLevels g (List.replicate n false)).1.high = false) := by
  induction n generalizing r with
  | zero => exact ⟨rfl, hp, nofun⟩
  | succ n ih =>
    have hread := r.read_quiet g false hp
    simp only [Bool.false_eq_true, false_and, if_false] at hread
    rw [List.replicate_succ, Receiver.hearLevels_cons, hread]
    obtain ⟨hevents, hphase, hhigh⟩ := ih (r := { high := false, lasted := r.lastedAt false, phase := .quiet }) rfl
    refine ⟨by simpa using hevents, hphase, fun _ => ?_⟩
    cases n with
    | zero => rfl
    | succ n => exact hhigh n.succ_pos

/-- While the line reads high, a receiver that is quiet or waits hands nothing over; as long as it is quiet the high has
not lasted a bit time. -/
theorem Receiver.hear_high (g : Segment) (n : Nat) {r : Receiver} (h : r.phase = .waiting ∨ r.phase = .quiet) :
    (r.hearLevels g (List.replicate n true)).2 = [] ∧
      ((r.hearLevels g (List.replicate n true)).1.phase = .waiting ∨
        (0 < n → (r.hearLevels g (List.replicate n true)).1.lasted < 16)) := by
  induction n generalizing r with
  | zero => exact ⟨rfl, .inr nofun⟩
  | succ n ih =>
    rw [List.replicate_succ, Receiver.hearLevels_cons]
    obtain ⟨phase, hread, hphase, hshort⟩ : ∃ phase, r.read g true = ({ high := true, lasted := r.lastedAt true, phase }, []) ∧
        (phase = .waiting ∨ phase = .quiet) ∧ (phase = .waiting ∨ r.lastedAt true < 16) := by
      obtain hp | hp := h
      · exact ⟨.waiting, r.read_waiting_high g hp, .inl rfl, .inl rfl⟩
      · refine ⟨_, r.read_quiet g true hp, ?_, ?_⟩
        · split
          · exact .inl rfl
          · exact .inr rfl
        · split
          next => exact .inl rfl
          next hlong =>
            simp only [true_and, delimiterDetectBits, bitSixteenths] at hlong
            exact .inr (by omega)
    rw [hread]
    obtain ⟨hevents, hend⟩ := ih (r := { high := true, lasted := r.lastedAt true, phase }) hphase
    refine ⟨by simpa using hevents, ?_⟩
    cases n with
    | zero =>
      obtain rfl | hshort := hshort
      · exact .inl rfl
      · exact .inr fun _ => hshort
    | succ n =>
      obtain hwaits | hlasted := hend
      · exact .inl hwaits
      · exact .inr fun _ => hlasted n.succ_pos

/-- A high of a bit time lets a receiver wait for a falling edge. -/
theorem Receiver.hear_delimiter (g : Segment) {n : Nat} {r : Receiver} (h : r.phase = .waiting ∨ r.phase = .quiet)
    (hn : 16 ≤ n) :
    (r.hearLevels g (List.replicate n true)).2 = [] ∧ (r.hearLevels g (List.replicate n true)).1.phase = .waiting ∧
      (r.hearLevels g (List.replicate n true)).1.high = true := by
  obtain ⟨hhigh, hlasted, -, -⟩ := r.hear_high_level g n
  obtain ⟨hevents, hwaits | hshort⟩ := r.hear_high g n h
  · exact ⟨hevents, hwaits, hhigh (by omega)⟩
  · have := hshort (by omega)
    omega

/-- A shorter high behind a low leaves a quiet receiver quiet. -/
theorem Receiver.hear_quiet_short (g : Segment) (n : Nat) {r : Receiver} (hp : r.phase = .quiet) (hn : n < 16)
    (hlasted : r.high = true → r.lasted + n < 16) :
    (r.hearLevels g (List.replicate n true)).2 = [] ∧ (r.hearLevels g (List.replicate n true)).1.phase = .quiet := by
  induction n generalizing r with
  | zero => exact ⟨rfl, hp⟩
  | succ n ih =>
    have hshort : r.lastedAt true + n < 16 := by
      unfold Receiver.lastedAt
      split
      next hhigh =>
        have := hlasted hhigh.symm
        omega
      next => omega
    have hread := r.read_quiet g true hp
    rw [if_neg (by simp only [delimiterDetectBits, bitSixteenths]; omega)] at hread
    rw [List.replicate_succ, Receiver.hearLevels_cons, hread]
    obtain ⟨hevents, hphase⟩ :=
      ih (r := { high := true, lasted := r.lastedAt true, phase := .quiet }) rfl (by omega) fun _ => hshort
    exact ⟨by simpa using hevents, hphase⟩

theorem Receiver.hear_idle (g : Segment) (n : Nat) {r : Receiver} (hp : r.phase = .waiting) (hh : r.high = true) :
    (r.hearLevels g (List.replicate n true)).2 = [] ∧ (r.hearLevels g (List.replicate n true)).1.phase = .waiting ∧
      (r.hearLevels g (List.replicate n true)).1.high = true := by
  induction n generalizing r with
  | zero => exact ⟨rfl, hp, hh⟩
  | succ n ih =>
    rw [List.replicate_succ, Receiver.hearLevels_cons, r.read_waiting_high g hp]
    exact ih (r := { high := true, lasted := r.lastedAt true, phase := .waiting }) rfl rfl

/-- Settles O7: the two nibbles of H1, a character behind a falling edge, and a header behind a break. -/
theorem headerRoundTrip : Obligations.HeaderRoundTrip := by
  refine ⟨fun c l => ⟨judgeHeader_header c l, headerChannel_header c l, headerLength_header c l⟩,
    fun g b r hp hh => ?_, fun c l low delimiter idle hdelimiter => ?_⟩
  · rw [Receiver.hear, levels_characterWave, Receiver.hear_character_of_waiting g b hp hh]
    exact ⟨rfl, rfl⟩
  · obtain ⟨hlow, hquiet, -⟩ := Receiver.hear_quiet_low .trunk low (r := Receiver.afterBreak) rfl
    obtain ⟨hdelimited, hwaiting, hhigh⟩ := Receiver.hear_delimiter .trunk (.inr hquiet) hdelimiter
    obtain ⟨hidle, hwaiting', hhigh'⟩ := Receiver.hear_idle .trunk idle (r := Receiver.atRest) rfl rfl
    have hlevels : Wave.levels ([(false, low), (true, delimiter)] ++ characterWave (headerH0 c) ++ [(true, idle)] ++
          characterWave (headerH1 c l)) =
        List.replicate low false ++ List.replicate delimiter true ++ sixteenths (characterLevels (headerH0 c)) ++
          List.replicate idle true ++ sixteenths (characterLevels (headerH1 c l)) := by
      rw [Wave.levels_append, Wave.levels_append, Wave.levels_append, levels_characterWave, levels_characterWave,
        levels_single, ← levels_single false low, ← levels_single true delimiter, ← Wave.levels_append]
      rfl
    rw [Receiver.hear, hlevels]
    simp only [Receiver.hearLevels_append]
    rw [hlow, hdelimited, Receiver.hear_character_of_waiting .trunk _ hwaiting hhigh, hidle,
      Receiver.hear_character_of_waiting .trunk _ hwaiting' hhigh']
    exact congrArg some (judgeHeader_header c l)

/-! ## Breaks (R5) -/

theorem Receiver.read_of_no_break {g : Segment} {r : Receiver} {v : Bool} (h : r.detectsBreak g v = false) :
    r.read g v =
      ({ high := v, lasted := r.lastedAt v, phase := (r.phase.read g v (r.high && !v) (r.lastedAt v)).1 },
        (r.phase.read g v (r.high && !v) (r.lastedAt v)).2) := by
  unfold Receiver.read
  rw [h]
  rfl

theorem Receiver.read_of_break {g : Segment} {r : Receiver} {v : Bool} (h : r.detectsBreak g v = true) :
    r.read g v = ({ high := v, lasted := r.lastedAt v, phase := .quiet }, [.lineBreak]) :=
  if_pos h

theorem ReceiverPhase.restOfStopBit_ne_quiet (good : Option RxChar) (e : Nat) :
    ReceiverPhase.restOfStopBit good e ≠ .quiet := by
  unfold ReceiverPhase.restOfStopBit
  split <;> nofun

theorem ReceiverPhase.resolveHeld_spec (high : Bool) (value : Byte) (e : Nat) :
    (ReceiverPhase.resolveHeld high value e).1 ≠ .quiet ∧
      RxEvent.lineBreak ∉ (ReceiverPhase.resolveHeld high value e).2 := by
  unfold ReceiverPhase.resolveHeld
  split
  · exact ⟨ReceiverPhase.restOfStopBit_ne_quiet none e, by simp⟩
  · exact ⟨nofun, List.not_mem_nil⟩

theorem afterStopSampled_spec (g : Segment) (high : Bool) (samples : List Bool) (e : Nat) :
    (afterStopSampled g high samples e).1 ≠ .quiet ∧ RxEvent.lineBreak ∉ (afterStopSampled g high samples e).2 := by
  unfold afterStopSampled
  split
  · exact ReceiverPhase.resolveHeld_spec _ _ _
  · exact ⟨nofun, by simp⟩
  · exact ⟨nofun, List.not_mem_nil⟩
  · exact ⟨nofun, List.not_mem_nil⟩

theorem ReceiverPhase.timeCharacter_spec (g : Segment) (high : Bool) (e : Nat) (samples : List Bool) :
    (ReceiverPhase.timeCharacter g high e samples).1 ≠ .quiet ∧
      RxEvent.lineBreak ∉ (ReceiverPhase.timeCharacter g high e samples).2 := by
  unfold ReceiverPhase.timeCharacter
  split
  · exact ⟨nofun, List.not_mem_nil⟩
  · split
    · exact afterStopSampled_spec _ _ _ _
    · exact ⟨nofun, List.not_mem_nil⟩

/-- Only a break hands over a break, and only a break lets a receiver be quiet again. -/
theorem ReceiverPhase.read_spec (g : Segment) (high fell : Bool) (lasted : Nat) {p : ReceiverPhase} (h : p ≠ .quiet) :
    (p.read g high fell lasted).1 ≠ .quiet ∧ RxEvent.lineBreak ∉ (p.read g high fell lasted).2 := by
  cases p with
  | quiet => exact absurd rfl h
  | waiting =>
    refine ⟨?_, List.not_mem_nil⟩
    simp only [ReceiverPhase.read]
    split <;> nofun
  | character e samples =>
    exact ReceiverPhase.timeCharacter_spec _ _ _ _
  | stopBit good e =>
    refine ⟨ReceiverPhase.restOfStopBit_ne_quiet good e, ?_⟩
    simp only [ReceiverPhase.read]
    split
    · exact List.not_mem_nil
    · simp
  | held value e => exact ReceiverPhase.resolveHeld_spec _ _ _

/-- For how long a line reads low behind a high. -/
theorem Receiver.lasted_low (g : Segment) {r : Receiver} (hh : r.high = true) {n : Nat} (hn : n < 176) :
    (r.hearLevels g (List.replicate (n + 1) false)).1.high = false ∧
      (r.hearLevels g (List.replicate (n + 1) false)).1.lasted = n + 1 := by
  induction n with
  | zero =>
    obtain ⟨hhigh, hlasted⟩ := r.read_level g false
    have hone : r.lastedAt false = 1 := by
      rw [Receiver.lastedAt, hh]
      rfl
    exact ⟨hhigh, hlasted.trans hone⟩
  | succ n ih =>
    obtain ⟨hhigh, hlasted⟩ := ih (by omega)
    rw [List.replicate_succ', Receiver.hearLevels_append]
    generalize (r.hearLevels g (List.replicate (n + 1) false)).1 = u at hhigh hlasted
    obtain ⟨hhigh', hlasted'⟩ := u.read_level g false
    refine ⟨hhigh', hlasted'.trans ?_⟩
    rw [Receiver.lastedAt, hhigh, if_pos rfl, hlasted]
    have hlimit : lastedLimit false = 176 := rfl
    rw [hlimit]
    omega

/-- Shorter than a break, a low behind a high is none (R5). -/
theorem Receiver.no_break_in_low (g : Segment) {r : Receiver} (hh : r.high = true) {n : Nat} (hn : n < 175) :
    (r.hearLevels g (List.replicate n false)).1.detectsBreak g false = false := by
  cases n with
  | zero =>
    have hone : r.lastedAt false = 1 := by
      rw [Receiver.lastedAt, hh]
      rfl
    simp [Receiver.detectsBreak, hone, breakDetectBits, bitSixteenths]
  | succ n =>
    obtain ⟨-, hlasted⟩ := r.lasted_low g hh (n := n) (by omega)
    exact Receiver.detectsBreak_false _ _ _ (by omega)

/-- A low shorter than a break hands over no break. -/
theorem Receiver.hear_low_no_break {r : Receiver} (hp : r.phase ≠ .quiet) (hh : r.high = true) {n : Nat} (hn : n < 176) :
    (r.hearLevels .trunk (List.replicate n false)).1.phase ≠ .quiet ∧
      RxEvent.lineBreak ∉ (r.hearLevels .trunk (List.replicate n false)).2 := by
  induction n with
  | zero => exact ⟨hp, List.not_mem_nil⟩
  | succ n ih =>
    obtain ⟨hphase, hevents⟩ := ih (by omega)
    have hbreak := r.no_break_in_low .trunk hh (n := n) (by omega)
    rw [List.replicate_succ', Receiver.hearLevels_append]
    generalize r.hearLevels .trunk (List.replicate n false) = u at hphase hevents hbreak
    obtain ⟨hphase', hevents'⟩ := ReceiverPhase.read_spec .trunk false (u.1.high && !false) (u.1.lastedAt false) hphase
    rw [Receiver.hearLevels_cons, Receiver.read_of_no_break hbreak]
    refine ⟨hphase', ?_⟩
    simp only [Receiver.hearLevels_nil, List.append_nil, List.mem_append, not_or]
    exact ⟨hevents, hevents'⟩

theorem endsWithBreak_append {events : List RxEvent} (h : RxEvent.lineBreak ∉ events) :
    endsWithBreak (events ++ [.lineBreak]) = true := by
  induction events with
  | nil => rfl
  | cons event rest ih =>
    cases event with
    | lineBreak => exact absurd List.mem_cons_self h
    | character c => exact ih fun hrest => h (List.mem_cons_of_mem _ hrest)

/-- At 11 bit times a low is a break, whatever the receiver was doing; what it had handed over before stays (R5). -/
theorem Receiver.hear_break {r : Receiver} (hp : r.phase ≠ .quiet) (hh : r.high = true) :
    r.hearLevels .trunk (List.replicate 176 false) =
      (Receiver.afterBreak, (r.hearLevels .trunk (List.replicate 175 false)).2 ++ [.lineBreak]) := by
  obtain ⟨hhigh, hlasted⟩ := r.lasted_low .trunk hh (n := 174) (by omega)
  obtain ⟨hphase, -⟩ := Receiver.hear_low_no_break hp hh (n := 175) (by omega)
  rw [show 176 = 175 + 1 from rfl, List.replicate_succ', Receiver.hearLevels_append]
  generalize r.hearLevels .trunk (List.replicate 175 false) = u at hhigh hlasted hphase
  have hlimit : u.1.lastedAt false = 176 := by
    rw [Receiver.lastedAt, hhigh, if_pos rfl, hlasted]
    rfl
  have hbreak : u.1.detectsBreak .trunk false = true := by
    simp [Receiver.detectsBreak, hphase, hlimit, breakDetectBits, bitSixteenths]
  rw [Receiver.hearLevels_cons, Receiver.read_of_break hbreak, hlimit]
  rfl

/-! ## Characters whose stop bit reads low (R2, R5) -/

/-- Sixteenths of a character between its sample points. -/
theorem Receiver.hear_unsampled (g : Segment) (levels : List Bool) {r : Receiver} {e : Nat} {samples : List Bool}
    (hp : r.phase = .character e samples) (he : e % 16 + levels.length ≤ 7) (hlasted : r.lasted + levels.length < 176) :
    ∃ u, r.hearLevels g levels = (u, []) ∧ u.phase = .character (e + levels.length) samples ∧
      u.lasted ≤ r.lasted + levels.length := by
  induction levels generalizing r e with
  | nil => exact ⟨r, rfl, hp, le_rfl⟩
  | cons v rest ih =>
    simp only [List.length_cons] at he hlasted ⊢
    have hread := r.read_timed g v e samples hp (by simp only [startSampled]; omega)
      (by simp only [stopSampled, bitSixteenths]; omega) (by omega)
    have hpoint : isSamplePoint e = false := by
      simp only [isSamplePoint, bitSixteenths, List.contains_eq_mem, List.mem_cons, List.not_mem_nil, or_false,
        decide_eq_false_iff_not]
      omega
    rw [hpoint] at hread
    obtain ⟨-, -, hbound⟩ := r.lastedAt_bounds v
    obtain ⟨u, hu, hphase, hlast⟩ :=
      ih (r := { high := v, lasted := r.lastedAt v, phase := .character (e + 1) samples }) (e := e + 1) rfl (by omega)
        (by dsimp only; omega)
    refine ⟨u, ?_, ?_, ?_⟩
    · rw [Receiver.hearLevels_cons, hread]
      simp [hu]
    · rw [hphase]
      congr 1
      omega
    · dsimp only at hlast
      omega

/-- The samples of a character's start bit and data bits, when each bit reads at one level. -/
def characterSamples (b : Byte) : List Bool :=
  ((characterLevels b).take 9).flatMap fun v => [v, v, v]

/-- A receiver hears a character's start bit and data bits (R2). -/
theorem Receiver.hear_data_bits (g : Segment) (b : Byte) {r : Receiver} (hp : r.phase = .waiting) (hh : r.high = true) :
    ∃ u, r.hearLevels g (sixteenths ((characterLevels b).take 9)) = (u, []) ∧
      u.phase = .character 144 (characterSamples b) ∧ u.lasted ≤ 144 := by
  obtain ⟨r1, a1, b1, c1⟩ := Receiver.hear_bit g (b.getLsbD 0) 1
    { high := false, lasted := 16, phase := .character 16 [false, false, false] } _ (by omega) (by omega) rfl (by simp)
  obtain ⟨r2, a2, b2, c2⟩ := r1.hear_bit g (b.getLsbD 1) 2 _ (by omega) (by omega) b1 c1
  obtain ⟨r3, a3, b3, c3⟩ := r2.hear_bit g (b.getLsbD 2) 3 _ (by omega) (by omega) b2 c2
  obtain ⟨r4, a4, b4, c4⟩ := r3.hear_bit g (b.getLsbD 3) 4 _ (by omega) (by omega) b3 c3
  obtain ⟨r5, a5, b5, c5⟩ := r4.hear_bit g (b.getLsbD 4) 5 _ (by omega) (by omega) b4 c4
  obtain ⟨r6, a6, b6, c6⟩ := r5.hear_bit g (b.getLsbD 5) 6 _ (by omega) (by omega) b5 c5
  obtain ⟨r7, a7, b7, c7⟩ := r6.hear_bit g (b.getLsbD 6) 7 _ (by omega) (by omega) b6 c6
  obtain ⟨r8, a8, b8, c8⟩ := r7.hear_bit g (b.getLsbD 7) 8 _ (by omega) (by omega) b7 c7
  refine ⟨r8, ?_, b8, c8⟩
  simp only [sixteenths, characterLevels, List.take_succ_cons, List.take_zero, List.flatMap_cons, List.flatMap_nil,
    List.append_nil, Receiver.hearLevels_append, Receiver.hear_start g r hp hh, a1, a2, a3, a4, a5, a6, a7, a8]

theorem characterOfSamples_framing (b : Byte) {v w x : Bool} (hlow : majority v w x = false) :
    characterOfSamples (characterSamples b ++ [v, w, x]) = some (.framing b) := by
  have hvalue := byteOfLevels_character b
  simp only [BitVec.getLsbD] at hvalue
  simpa [characterOfSamples, characterSamples, characterLevels, sampleTriples, receiveCharacter, Samples.value,
    majority_same, hlow, BitVec.getLsbD] using hvalue

end Sys2Proof.Machine

/-! PROOFS. Breaks on the trunk, and characters whose stop bit or start bit fails (O11). -/

namespace Sys2Proof.Machine

/-! ## The samples of a bit (R2) -/

/-- One sixteenth at a sample point, the third of the start bit and of the stop bit apart. -/
theorem Receiver.hear_sample (g : Segment) (v : Bool) {r : Receiver} {e : Nat} {samples : List Bool}
    (hp : r.phase = .character e samples) (he : e % 16 = 7 ∨ e % 16 = 8) (hlasted : r.lasted < 175) :
    ∃ u, r.hearLevels g [v] = (u, []) ∧ u.phase = .character (e + 1) (samples ++ [v]) ∧ u.lasted ≤ r.lasted + 1 := by
  have hread := r.read_timed g v e samples hp (by simp only [startSampled]; omega)
    (by simp only [stopSampled, bitSixteenths]; omega) hlasted
  have hpoint : isSamplePoint e = true := by
    simp only [isSamplePoint, bitSixteenths, List.contains_eq_mem, List.mem_cons, List.not_mem_nil, or_false,
      decide_eq_true_eq]
    omega
  obtain ⟨-, -, hbound⟩ := r.lastedAt_bounds v
  rw [hpoint] at hread
  refine ⟨{ high := v, lasted := r.lastedAt v, phase := .character (e + 1) (samples ++ [v]) }, ?_, rfl, hbound⟩
  rw [Receiver.hearLevels_cons, hread]
  rfl

/-- A receiver up to the second sample of a bit: sixteenths that are not sampled, and the two samples. -/
theorem Receiver.hear_to_third_sample (g : Segment) (v w : Bool) {r : Receiver} {e : Nat} {samples early : List Bool}
    (hp : r.phase = .character e samples) (he : e % 16 + early.length = 7) (hlasted : r.lasted < 160) :
    ∃ u, r.hearLevels g (early ++ [v, w]) = (u, []) ∧
      u.phase = .character (e + early.length + 2) (samples ++ [v, w]) ∧ u.lasted ≤ r.lasted + 9 := by
  obtain ⟨first, hfirst, hphase, hlast⟩ := Receiver.hear_unsampled g early hp (by omega) (by omega)
  obtain ⟨second, hsecond, hphase', hlast'⟩ := Receiver.hear_sample g v hphase (by omega) (by omega)
  obtain ⟨u, hu, hphase'', hlast''⟩ := Receiver.hear_sample g w hphase' (by omega) (by omega)
  refine ⟨u, ?_, ?_, by omega⟩
  · rw [show early ++ [v, w] = early ++ ([v] ++ [w]) from rfl, Receiver.hearLevels_append, Receiver.hearLevels_append,
      hfirst, hsecond, hu]
    rfl
  · rw [hphase'', List.append_assoc]
    rfl

/-! ## Stop bits that read low (R2, R5) -/

/-- A receiver up to the second sample of the stop bit. -/
theorem Receiver.hear_to_stopBit (g : Segment) (b : Byte) {r : Receiver} (hp : r.phase = .waiting) (hh : r.high = true)
    {early : List Bool} (hearly : early.length = 7) (v w : Bool) :
    ∃ u, r.hearLevels g (sixteenths ((characterLevels b).take 9) ++ (early ++ [v, w])) = (u, []) ∧
      u.phase = .character 153 (characterSamples b ++ [v, w]) ∧ u.lasted < 175 := by
  obtain ⟨data, hdata, hphase, hlasted⟩ := Receiver.hear_data_bits g b hp hh
  obtain ⟨u, hu, hphase', hlasted'⟩ := Receiver.hear_to_third_sample g v w hphase (early := early) (by omega) (by omega)
  rw [hearly] at hphase'
  refine ⟨u, ?_, hphase', by omega⟩
  rw [Receiver.hearLevels_append, hdata, hu]
  rfl

/-- The third sample of a stop bit whose majority is low. -/
theorem Receiver.read_stopBit_low (g : Segment) (b : Byte) {r : Receiver} {v w x : Bool}
    (hp : r.phase = .character 153 (characterSamples b ++ [v, w])) (hlasted : r.lasted < 175) :
    r.read g x =
      ({ high := x, lasted := r.lastedAt x, phase := (afterStopSampled g x (characterSamples b ++ [v, w, x]) 153).1 },
        (afterStopSampled g x (characterSamples b ++ [v, w, x]) 153).2) := by
  have hsamples : characterSamples b ++ [v, w] ++ [x] = characterSamples b ++ [v, w, x] := by simp
  rw [Receiver.read_of_no_break (Receiver.detectsBreak_false g r x hlasted), hp, ← hsamples]
  rfl

theorem afterStopSampled_branch (b : Byte) {v w x : Bool} (hlow : majority v w x = false) :
    afterStopSampled .branch x (characterSamples b ++ [v, w, x]) 153 =
      (.stopBit none 154, [.character (.framing b)]) := by
  unfold afterStopSampled
  rw [characterOfSamples_framing b hlow]

theorem afterStopSampled_trunk (b : Byte) {v w x : Bool} (hlow : majority v w x = false) :
    afterStopSampled .trunk x (characterSamples b ++ [v, w, x]) 153 = ReceiverPhase.resolveHeld x b 153 := by
  unfold afterStopSampled
  rw [characterOfSamples_framing b hlow]

/-! ## A character that the trunk receiver holds (R5) -/

/-- While the line reads low, the character stays held. -/
theorem Receiver.hear_held_low (b : Byte) {r : Receiver} {e : Nat} (hp : r.phase = .held b e) (hh : r.high = false)
    {n : Nat} (hn : r.lasted + n < 176) :
    ∃ u, r.hearLevels .trunk (List.replicate n false) = (u, []) ∧ u.phase = .held b (e + n) ∧ u.high = false ∧
      u.lasted = r.lasted + n := by
  induction n with
  | zero => exact ⟨r, rfl, hp, hh, rfl⟩
  | succ n ih =>
    obtain ⟨u, hu, hphase, hhigh, hlasted⟩ := ih (by omega)
    have hread := Receiver.read_of_no_break (Receiver.detectsBreak_false .trunk u false (by omega))
    have hlast : u.lastedAt false = r.lasted + n + 1 := by
      rw [Receiver.lastedAt, hhigh, if_pos rfl, hlasted]
      have hlimit : lastedLimit false = 176 := rfl
      omega
    rw [hphase, hhigh, hlast] at hread
    refine ⟨{ high := false, lasted := r.lasted + n + 1, phase := .held b (e + n + 1) }, ?_, rfl, rfl, rfl⟩
    rw [List.replicate_succ', Receiver.hearLevels_append, hu, Receiver.hearLevels_cons, hread]
    rfl

/-- As soon as the line reads high, it is handed over. -/
theorem Receiver.read_held_high (b : Byte) {r : Receiver} {e : Nat} (hp : r.phase = .held b e) :
    r.read .trunk true =
      ({ high := true, lasted := r.lastedAt true, phase := ReceiverPhase.restOfStopBit none e },
        [.character (.framing b)]) := by
  rw [Receiver.read_of_no_break (show r.detectsBreak .trunk true = false from rfl), hp]
  rfl

/-- A break discards it. -/
theorem Receiver.read_held_break (b : Byte) {r : Receiver} {e : Nat} (hp : r.phase = .held b e) (hh : r.high = false)
    (hlasted : r.lasted = 175) : (r.read .trunk false).2 = [.lineBreak] := by
  have hlimit : r.lastedAt false = 176 := by
    rw [Receiver.lastedAt, hh, if_pos rfl, hlasted]
    rfl
  rw [Receiver.read_of_break (by simp [Receiver.detectsBreak, hp, hlimit, breakDetectBits, bitSixteenths])]

/-- How long the line has read low behind the last high among some levels, which a receiver that had read high hears. -/
theorem Receiver.lasted_of_trailing_low (g : Segment) {r : Receiver} (hh : r.high = true) {levels before : List Bool}
    {m : Nat} (hlevels : true :: levels = before ++ true :: List.replicate (m + 1) false) (hm : m < 176) :
    (r.hearLevels g levels).1.high = false ∧ (r.hearLevels g levels).1.lasted = m + 1 := by
  cases before with
  | nil =>
    obtain rfl := (List.cons.inj hlevels).2
    exact r.lasted_low g hh hm
  | cons _ before =>
    have hrest : levels = before ++ true :: List.replicate (m + 1) false := (List.cons.inj hlevels).2
    rw [hrest, Receiver.hearLevels_append, Receiver.hearLevels_cons]
    exact Receiver.lasted_low g (Receiver.read_level g _ true).1 hm

theorem last_eq_of_trailing_low {levels before : List Bool} {v w x : Bool} {m : Nat}
    (h : true :: (levels ++ [v, w, x]) = before ++ true :: List.replicate (m + 1) false) : x = false := by
  have hleft : true :: (levels ++ [v, w, x]) = true :: levels ++ [v, w] ++ [x] := by simp
  have hright : before ++ true :: List.replicate (m + 1) false = before ++ true :: List.replicate m false ++ [false] := by
    simp [List.replicate_succ']
  rw [hleft, hright] at h
  exact (List.append_inj_right' h rfl |> List.cons.inj).1

/-- A character whose stop bit's majority is low: what is handed over, and the phase behind it. -/
theorem Receiver.hear_stopBit_low (g : Segment) (b : Byte) {r : Receiver} (hp : r.phase = .waiting) (hh : r.high = true)
    {early : List Bool} (hearly : early.length = 7) {v w x : Bool} :
    ∃ u, r.hearLevels g (sixteenths ((characterLevels b).take 9) ++ (early ++ [v, w])) = (u, []) ∧
      r.hearLevels g (sixteenths ((characterLevels b).take 9) ++ early ++ [v, w, x]) =
        ({ high := x, lasted := u.lastedAt x,
           phase := (afterStopSampled g x (characterSamples b ++ [v, w, x]) 153).1 },
          (afterStopSampled g x (characterSamples b ++ [v, w, x]) 153).2) := by
  obtain ⟨u, hu, hphase, hlasted⟩ := Receiver.hear_to_stopBit g b hp hh hearly v w
  refine ⟨u, hu, ?_⟩
  have hsplit : sixteenths ((characterLevels b).take 9) ++ early ++ [v, w, x] =
      sixteenths ((characterLevels b).take 9) ++ (early ++ [v, w]) ++ [x] := by simp
  rw [hsplit, Receiver.hearLevels_append, hu, Receiver.hearLevels_cons, Receiver.read_stopBit_low g b hphase hlasted]
  simp

/-- A stop bit whose majority is low, with lows behind it (R5). -/
theorem Receiver.hear_held (b : Byte) {r : Receiver} (hp : r.phase = .waiting) (hh : r.high = true)
    {early : List Bool} (hearly : early.length = 7) {v w : Bool} (hlow : majority v w false = false)
    {before : List Bool} {m : Nat}
    (hlevels : true :: (sixteenths ((characterLevels b).take 9) ++ early ++ [v, w, false]) =
      before ++ true :: List.replicate (m + 1) false) {n : Nat} (hn : m + 1 + n < 176) :
    ∃ u, r.hearLevels .trunk (sixteenths ((characterLevels b).take 9) ++ early ++ [v, w, false] ++
        List.replicate n false) = (u, []) ∧ u.phase = .held b (154 + n) ∧ u.high = false ∧ u.lasted = m + 1 + n := by
  obtain ⟨-, hlasted⟩ := r.lasted_of_trailing_low .trunk hh hlevels (by omega)
  obtain ⟨u, -, hheard⟩ := Receiver.hear_stopBit_low .trunk b hp hh hearly (v := v) (w := w) (x := false)
  rw [afterStopSampled_trunk b hlow] at hheard
  rw [hheard] at hlasted
  obtain ⟨t, ht, hphase, hhigh, hlast⟩ := Receiver.hear_held_low b
    (r := { high := false, lasted := u.lastedAt false, phase := .held b 154 }) rfl rfl (n := n)
    (by dsimp only at hlasted ⊢; omega)
  refine ⟨t, ?_, hphase, hhigh, by dsimp only at hlasted hlast; omega⟩
  rw [Receiver.hearLevels_append, hheard]
  exact ht ▸ rfl

/-! ## A character that has been handed over (R2) -/

/-- What a receiver is in behind a character marked FRAMING: the rest of the stop bit, or the wait for a high. -/
def Receiver.Spent (r : Receiver) : Prop :=
  (∃ e, r.phase = .stopBit none e) ∨ r.phase = .waiting ∧ r.high = false

theorem Receiver.read_spent {g : Segment} {r : Receiver} (hspent : r.Spent) (hbreak : r.detectsBreak g false = false) :
    (r.read g false).2 = [] ∧ (r.read g false).1.Spent := by
  rw [Receiver.read_of_no_break hbreak]
  obtain ⟨e, hp⟩ | ⟨hp, hh⟩ := hspent
  · rw [hp]
    refine ⟨?_, ?_⟩
    · simp only [ReceiverPhase.read]
      split <;> rfl
    · simp only [ReceiverPhase.read, ReceiverPhase.restOfStopBit]
      split
      · exact .inl ⟨e + 1, rfl⟩
      · exact .inr ⟨rfl, rfl⟩
  · rw [hp, hh]
    exact ⟨rfl, .inr ⟨rfl, rfl⟩⟩

/-- As long as no break is detected, a low behind a character marked FRAMING hands nothing over. -/
theorem Receiver.hear_spent_low {g : Segment} {r : Receiver} (hspent : r.Spent) {n : Nat}
    (hbreak : ∀ k < n, (r.hearLevels g (List.replicate k false)).1.detectsBreak g false = false) :
    (r.hearLevels g (List.replicate n false)).2 = [] ∧ (r.hearLevels g (List.replicate n false)).1.Spent := by
  induction n with
  | zero => exact ⟨rfl, hspent⟩
  | succ n ih =>
    obtain ⟨hevents, hstill⟩ := ih fun k hk => hbreak k (by omega)
    obtain ⟨hnothing, hspent'⟩ := Receiver.read_spent hstill (hbreak n (by omega))
    rw [List.replicate_succ', Receiver.hearLevels_append, Receiver.hearLevels_cons, hevents, hnothing]
    exact ⟨rfl, hspent'⟩

/-- A low of 11 bit times from its falling edge on is a break and nothing else, behind a character marked FRAMING and
on a receiver that waits for a falling edge (R5). -/
theorem Receiver.hear_break_of_spent {r : Receiver} (hspent : r.Spent) (hh : r.high = true) :
    (r.hearLevels .trunk (List.replicate 176 false)).2 = [.lineBreak] := by
  obtain ⟨hevents, -⟩ := Receiver.hear_spent_low hspent (g := .trunk) (n := 175) fun k hk =>
    r.no_break_in_low .trunk hh hk
  have hphase : r.phase ≠ .quiet := by
    obtain ⟨e, hp⟩ | ⟨hp, -⟩ := hspent <;> rw [hp] <;> nofun
  rw [Receiver.hear_break hphase hh, hevents]
  rfl

/-! ## The clauses of TRUNK_BREAK -/

/-- The relay behind a break in FORWARD: its trunk side has ended, and it goes if its branch side has (R47, R135). -/
theorem RelayContext.endTrunk_eq (x : RelayContext) :
    x.endTrunk = if x.branchSide = .stillOpen then some { x with trunkSide := .ended } else none := by
  unfold RelayContext.endTrunk RelayContext.kept
  cases x.branchSide <;> rfl

theorem State.breakEnds_of_not_forward {s : State} (h : ∀ sending waiting more, s.trunk.port ≠ .forward sending waiting more) :
    s.breakEnds = s := by
  unfold State.breakEnds
  split
  next sending waiting more hport => exact absurd hport (h sending waiting more)
  all_goals rfl

theorem State.breakEnds_of_forward {s : State} {sending : Option ForwardChar} {waiting : List ForwardChar} {more : Bool}
    (h : s.trunk.port = .forward sending waiting more) :
    s.breakEnds = s.setRelay (s.link.relay.bind fun x =>
      if x.branchSide = .stillOpen then some { x with trunkSide := .ended } else none) := by
  unfold State.breakEnds
  rw [h]
  exact congrArg (fun f => s.setRelay (s.link.relay.bind f)) (funext RelayContext.endTrunk_eq)

theorem exec_trunkBreak_heard {line : Wave} {s : State} (hrun : s.power = .running) (hheard : s.hearsBreak line = true) :
    exec (.trunkBreak line) s =
      .next ((s.breakEnds.setReceiver (s.hearTrunk line).1).mapTrunk fun t =>
        { t with stamp := s.sched.tickCount, port := .header }) := by
  have hrow : exec (.trunkBreak line) s = execTrunkBreak s line := rfl
  rw [hrow, execTrunkBreak, if_pos (by rw [s.isRunning_iff.mpr hrun, hheard]; rfl)]

/-- Highs shorter than a bit time between lows leave a quiet receiver quiet (R5, R46). -/
theorem Receiver.hear_quiet_edges (g : Segment) {edges : List (Nat × Nat)} (hedges : ∀ x ∈ edges, x.1 < 16) {r : Receiver}
    (hp : r.phase = .quiet) (hh : r.high = false) :
    (r.hear g (edges.flatMap fun x => [(true, x.1), (false, x.2 + 1)])).2 = [] := by
  induction edges generalizing r with
  | nil => rfl
  | cons x rest ih =>
    obtain ⟨hshort, hquiet⟩ := Receiver.hear_quiet_short g x.1 hp (hedges x List.mem_cons_self) (by simp [hh])
    obtain ⟨hlow, hquiet', hhigh⟩ := Receiver.hear_quiet_low g (x.2 + 1) hquiet
    rw [List.flatMap_cons, Receiver.hear_append, show [(true, x.1), (false, x.2 + 1)] = [(true, x.1)] ++ [(false, x.2 + 1)] from rfl,
      Receiver.hear_append]
    simp only [Receiver.hear, levels_single] at ih ⊢
    rw [hshort, hlow, ih (fun y hy => hedges y (List.mem_cons_of_mem _ hy)) hquiet' (hhigh (Nat.succ_pos _))]
    rfl

theorem length_dataLevels (b : Byte) : (sixteenths ((characterLevels b).take 9)).length = 144 := by
  simp [sixteenths, characterLevels, bitSixteenths]

/-- The line reads high before the low has lasted 11 bit times: the character is FRAMING (R5). -/
theorem Receiver.hear_held_then_high (b : Byte) {r : Receiver} (hp : r.phase = .waiting) (hh : r.high = true)
    {early : List Bool} (hearly : early.length = 7) {v w : Bool} (hlow : majority v w false = false)
    {before : List Bool} {m : Nat}
    (hlevels : true :: (sixteenths ((characterLevels b).take 9) ++ early ++ [v, w, false]) =
      before ++ true :: List.replicate (m + 1) false) {n : Nat} (hn : m + 1 + n < 176) :
    ∃ lasted, r.hearLevels .trunk (sixteenths ((characterLevels b).take 9) ++ early ++ [v, w, false] ++
        List.replicate n false ++ [true]) =
      ({ high := true, lasted, phase := ReceiverPhase.restOfStopBit none (154 + n) }, [.character (.framing b)]) := by
  obtain ⟨u, hu, hphase, -, -⟩ := Receiver.hear_held b hp hh hearly hlow hlevels hn
  refine ⟨u.lastedAt true, ?_⟩
  rw [Receiver.hearLevels_append, hu, Receiver.hearLevels_cons, Receiver.read_held_high b hphase]
  rfl

/-- The low lasts 11 bit times: a break alone (R5). -/
theorem Receiver.hear_held_then_break (b : Byte) {r : Receiver} (hp : r.phase = .waiting) (hh : r.high = true)
    {early : List Bool} (hearly : early.length = 7) {v w : Bool} (hlow : majority v w false = false)
    {before : List Bool} {m : Nat}
    (hlevels : true :: (sixteenths ((characterLevels b).take 9) ++ early ++ [v, w, false]) =
      before ++ true :: List.replicate (m + 1) false) {n : Nat} (hn : m + 1 + n = 176) :
    (r.hearLevels .trunk (sixteenths ((characterLevels b).take 9) ++ early ++ [v, w, false] ++
        List.replicate n false)).2 = [.lineBreak] := by
  have hlength := congrArg List.length hlevels
  simp only [List.length_cons, List.length_append, length_dataLevels, hearly, List.length_replicate,
    List.length_nil] at hlength
  obtain ⟨k, rfl⟩ : ∃ k, n = k + 1 := ⟨n - 1, by omega⟩
  obtain ⟨u, hu, hphase, hhigh, hlasted⟩ := Receiver.hear_held b hp hh hearly hlow hlevels (n := k) (by omega)
  rw [List.replicate_succ', ← List.append_assoc, Receiver.hearLevels_append, hu, Receiver.hearLevels_cons,
    Receiver.read_held_break b hphase hhigh (by omega)]
  rfl

/-- The third sample reads high, behind two that read low: FRAMING at once on the trunk too (log 24). -/
theorem Receiver.hear_stopBit_high_last (b : Byte) {r : Receiver} (hp : r.phase = .waiting) (hh : r.high = true)
    {early : List Bool} (hearly : early.length = 7) {v w : Bool} (hlow : majority v w true = false) :
    ∃ lasted, r.hearLevels .trunk (sixteenths ((characterLevels b).take 9) ++ early ++ [v, w, true]) =
      ({ high := true, lasted, phase := ReceiverPhase.restOfStopBit none 153 }, [.character (.framing b)]) := by
  obtain ⟨u, -, hheard⟩ := Receiver.hear_stopBit_low .trunk b hp hh hearly (v := v) (w := w) (x := true)
  rw [afterStopSampled_trunk b hlow] at hheard
  exact ⟨_, hheard⟩

/-! ## Long lows -/

/-- A low as long as a character up to the last sample of its stop bit stands for the character 0. -/
theorem zeroLevels_eq :
    List.replicate 154 false =
      sixteenths ((characterLevels 0x00#8).take 9) ++ List.replicate 7 false ++ [false, false, false] := by
  decide

theorem zeroLevels_trailing :
    true :: (sixteenths ((characterLevels 0x00#8).take 9) ++ List.replicate 7 false ++ [false, false, false]) =
      [] ++ true :: List.replicate (153 + 1) false := by
  rw [← zeroLevels_eq]
  rfl

/-- A low of 11 bit times on a receiver that waits for a falling edge is a break alone (R5). -/
theorem Receiver.hear_break_of_waiting {r : Receiver} (hp : r.phase = .waiting) (hh : r.high = true) :
    (r.hearLevels .trunk (List.replicate 176 false)).2 = [.lineBreak] := by
  have hheld := Receiver.hear_held_then_break 0x00#8 hp hh (early := List.replicate 7 false) rfl (v := false)
    (w := false) rfl zeroLevels_trailing (n := 22) rfl
  rwa [← zeroLevels_eq, ← List.replicate_add] at hheld

/-- A low longer than a character and shorter than a break is FRAMING as soon as the line reads high (R5). -/
theorem Receiver.hear_long_low {r : Receiver} (hp : r.phase = .waiting) (hh : r.high = true) {n : Nat} (hlong : 153 ≤ n)
    (hshort : n < 176) :
    ∃ lasted e, r.hearLevels .trunk (List.replicate n false ++ [true]) =
      ({ high := true, lasted, phase := ReceiverPhase.restOfStopBit none e }, [.character (.framing 0x00#8)]) := by
  obtain rfl | hmore := hlong.eq_or_lt
  · obtain ⟨lasted, hheard⟩ := Receiver.hear_stopBit_high_last 0x00#8 hp hh (early := List.replicate 7 false) rfl
      (v := false) (w := false) rfl
    exact ⟨lasted, 153, hheard⟩
  · obtain ⟨k, rfl⟩ : ∃ k, n = 154 + k := ⟨n - 154, by omega⟩
    obtain ⟨lasted, hheard⟩ := Receiver.hear_held_then_high 0x00#8 hp hh (early := List.replicate 7 false) rfl
      (v := false) (w := false) rfl zeroLevels_trailing (n := k) (by omega)
    rw [← zeroLevels_eq, ← List.replicate_add] at hheard
    exact ⟨lasted, 154 + k, hheard⟩

/-- A break behind a held character's rising edge comes besides the character (R5). -/
theorem Receiver.hear_break_of_restOfStopBit (lasted e : Nat) :
    (Receiver.hearLevels .trunk { high := true, lasted, phase := ReceiverPhase.restOfStopBit none e }
      (List.replicate 176 false)).2 = [.lineBreak] := by
  unfold ReceiverPhase.restOfStopBit
  split
  · exact Receiver.hear_break_of_spent (.inl ⟨e + 1, rfl⟩) rfl
  · exact Receiver.hear_break_of_waiting rfl rfl

/-- On the branch the character 0 is FRAMING at the third sample of its stop bit, and the low behind it nothing (R5). -/
theorem Receiver.hear_long_low_branch {r : Receiver} (hp : r.phase = .waiting) (hh : r.high = true) {n : Nat}
    (hlong : 154 ≤ n) :
    (r.hearLevels .branch (List.replicate n false)).2 = [.character (.framing 0x00#8)] := by
  obtain ⟨k, rfl⟩ : ∃ k, n = 154 + k := ⟨n - 154, by omega⟩
  obtain ⟨u, -, hheard⟩ := Receiver.hear_stopBit_low .branch 0x00#8 hp hh (early := List.replicate 7 false) rfl
    (v := false) (w := false) (x := false)
  rw [afterStopSampled_branch _ rfl] at hheard
  obtain ⟨hnothing, -⟩ := Receiver.hear_spent_low (g := .branch)
    (r := { high := false, lasted := u.lastedAt false, phase := .stopBit none 154 }) (.inl ⟨154, rfl⟩) (n := k)
    fun _ _ => rfl
  rw [List.replicate_add, zeroLevels_eq, Receiver.hearLevels_append, hheard, hnothing]
  rfl

/-! ## Start bits that read high (R2) -/

/-- The receiver waits again from the third sample of the start bit on (log 24). -/
theorem Receiver.hear_false_start (g : Segment) {r : Receiver} (hp : r.phase = .waiting) (hh : r.high = true)
    {early : List Bool} (hearly : early.length = 6) {v w x : Bool} (hhigh : majority v w x = true) :
    (r.hearLevels g ([false] ++ early ++ [v, w, x])).2 = [] ∧
      (r.hearLevels g ([false] ++ early ++ [v, w, x])).1.phase = .waiting := by
  obtain ⟨u, hu, hphase, hlasted⟩ := Receiver.hear_to_third_sample g v w
    (r := { high := false, lasted := 1, phase := .character 1 [] }) rfl (early := early) (by omega) (by decide)
  rw [hearly] at hphase
  have hsplit : [false] ++ early ++ [v, w, x] = false :: ((early ++ [v, w]) ++ [x]) := by simp
  have hgiven : (ReceiverPhase.character 9 [v, w]).read g x (u.high && !x) (u.lastedAt x) = (.waiting, []) := by
    refine if_pos ⟨rfl, ?_⟩
    simp [startBitRead, sampleTriples, Samples.value, isSamplePoint, bitSixteenths, hhigh]
  have hlast := Receiver.read_of_no_break (Receiver.detectsBreak_false g u x (by dsimp only at hlasted; omega))
  rw [hphase, List.nil_append, hgiven] at hlast
  rw [hsplit, Receiver.hearLevels_cons, r.read_falling_edge g hp hh, Receiver.hearLevels_append, hu,
    Receiver.hearLevels_cons, hlast]
  exact ⟨rfl, rfl⟩

/-- Settles O11: the row by the port's state, and what the receivers take for a break, a character and a start bit. -/
theorem trunkBreakBeginsFrame : Obligations.TrunkBreakBeginsFrame := by
  refine ⟨fun line s hrun hheard => ⟨fun hport => ?_, fun sending waiting more hport => ?_⟩,
    fun r n hp hh => ⟨fun hn => ?_, ?_, ?_⟩, fun r low edges hp hedges => ?_, fun r n hp hn => ?_, fun r n hp hh => ⟨?_, ?_, ?_⟩,
    fun r b early v w x levels hp hh hearly hlow hlevels => ⟨?_, ?_, ?_, ?_⟩,
    fun g r early v w x hp hh hearly hhigh => Receiver.hear_false_start g hp hh hearly hhigh⟩
  · rw [exec_trunkBreak_heard hrun hheard, State.breakEnds_of_not_forward hport]
    rfl
  · rw [exec_trunkBreak_heard hrun hheard, State.breakEnds_of_forward hport]
    rfl
  · rw [Receiver.hear, levels_single]
    exact (Receiver.hear_low_no_break hp hh hn).2
  · rw [Receiver.hear, levels_single, Receiver.hear_break hp hh]
    exact endsWithBreak_append (Receiver.hear_low_no_break hp hh (by decide)).2
  · rw [Receiver.hear, levels_single, Receiver.hear_break hp hh]
  · obtain ⟨hlow, hquiet, hhigh⟩ := Receiver.hear_quiet_low .trunk (low + 1) hp
    rw [← List.singleton_append, Receiver.hear_append, Receiver.hear.eq_1 _ _ [_], levels_single, hlow,
      Receiver.hear_quiet_edges .trunk hedges hquiet (hhigh low.succ_pos)]
    rfl
  · obtain ⟨hevents, hphase, -⟩ := Receiver.hear_delimiter .trunk (.inr hp) hn
    rw [Receiver.hear, levels_single]
    exact ⟨hevents, hphase⟩
  · rw [Receiver.hear, levels_single]
    exact Receiver.hear_break_of_waiting hp hh
  · intro hlong hshort
    obtain ⟨lasted, e, hheard⟩ := Receiver.hear_long_low hp hh hlong hshort
    have hfirst : r.hear .trunk [(false, n), (true, 1)] = r.hearLevels .trunk (List.replicate n false ++ [true]) := rfl
    refine ⟨by rw [hfirst, hheard], ?_⟩
    rw [show [(false, n), (true, 1), (false, 176)] = [(false, n), (true, 1)] ++ [(false, 176)] from rfl,
      Receiver.hear_append, hfirst, hheard, Receiver.hear, levels_single, Receiver.hear_break_of_restOfStopBit]
    rfl
  · intro hlong
    rw [Receiver.hear, levels_single]
    exact Receiver.hear_long_low_branch hp hh hlong
  · obtain ⟨u, hu, -⟩ := Receiver.hear_stopBit_low .branch b hp hh hearly (v := v) (w := w) (x := x)
    have hdrop : levels.dropLast = sixteenths ((characterLevels b).take 9) ++ (early ++ [v, w]) := by
      rw [hlevels, show [v, w, x] = [v, w] ++ [x] from rfl, ← List.append_assoc, List.dropLast_concat, List.append_assoc]
    rw [hdrop, hu]
  · obtain ⟨u, -, hheard⟩ := Receiver.hear_stopBit_low .branch b hp hh hearly (v := v) (w := w) (x := x)
    rw [hlevels, hheard, afterStopSampled_branch b hlow]
  · rintro rfl
    obtain ⟨lasted, hheard⟩ := Receiver.hear_stopBit_high_last b hp hh hearly hlow
    rw [hlevels, hheard]
  · intro before m htrailing
    subst hlevels
    obtain rfl := last_eq_of_trailing_low htrailing
    refine ⟨fun n hn => ?_, fun n hn => Receiver.hear_held_then_break b hp hh hearly hlow htrailing hn⟩
    obtain ⟨lasted, hheard⟩ := Receiver.hear_held_then_high b hp hh hearly hlow htrailing hn
    rw [hheard]

end Sys2Proof.Machine

/-! PROOFS. How serves and captures end (O18 to O20). -/

namespace Sys2Proof.Machine

/-! ## Serves (R55, R56) -/

theorem exec_serveComplete_sent {source : ServeSource} {reply : List Byte} {sent : Transmission} {s t : State}
    (hrun : s.power = .running) (hport : s.trunk.port = .serve source reply)
    (hsent : s.sentOnTrunk reply sent = some t) :
    exec (.serveComplete sent) s = .next ((t.reportServed source).setPort .passive) := by
  have hrow : exec (.serveComplete sent) s = execServeComplete s sent := rfl
  simp only [hrow, execServeComplete, s.isRunning_iff.mpr hrun, hport, hsent]

theorem exec_trunkServeBitError_collides {source : ServeSource} {reply : List Byte} {sent : Transmission} {s t : State}
    (hrun : s.power = .running) (hport : s.trunk.port = .serve source reply)
    (hcollides : s.collidesOnTrunk reply sent = some t) :
    exec (.trunkServeBitError sent) s = .next ((t.setFlag .trunkCollision).setPort .passive) := by
  have hrow : exec (.trunkServeBitError sent) s = execTrunkServeBitError s sent := rfl
  simp only [hrow, execTrunkServeBitError, s.isRunning_iff.mpr hrun, hport, hcollides]

theorem exec_trunkBreak_of_not_forward {line : Wave} {s : State} (hrun : s.power = .running)
    (hheard : s.hearsBreak line = true) (hport : ∀ sending waiting more, s.trunk.port ≠ .forward sending waiting more) :
    exec (.trunkBreak line) s =
      .next
        { s with
          trunk :=
            { s.trunk with
              port := .header, stamp := s.sched.tickCount, receiver := (s.hearTrunk line).1 } } := by
  rw [exec_trunkBreak_heard hrun hheard, State.breakEnds_of_not_forward hport]
  rfl

/-- Settles O18: a serve ends read back as sent, in a collision or with a break. -/
theorem serveEnds : Obligations.ServeEnds := by
  rintro source reply sent r s p hrun hport rfl
  refine ⟨fun events hread hheard hbreak => ?_, fun k hcollides => ?_, fun line hline => ?_⟩
  · have hsent : s.sentOnTrunk reply sent = some (s.setReceiver r) := by
      rw [State.sentOnTrunk_eq_some hread (by rw [hheard]; exact hbreak), hheard]
    rw [exec_serveComplete_sent hrun hport hsent]
    refine ⟨?_, ?_, ?_, ?_⟩
    · rintro i v rfl
      by_cases hversion : (s.record i).state ≠ .empty ∧ (s.record i).version = v
      · have hserved : (s.setReceiver r).recordServed i v =
            (s.setReceiver r).setRecord i { s.record i with served := satSucc (s.record i).served } := if_pos hversion
        rw [State.reportServed, hserved, if_pos hversion]
        rfl
      · have hserved : (s.setReceiver r).recordServed i v = s.setReceiver r := if_neg hversion
        rw [State.reportServed, hserved, if_neg hversion]
        rfl
    · rintro rfl
      rfl
    · rintro rfl
      rfl
    · rintro (rfl | rfl | rfl | rfl) <;> rfl
  · rw [exec_trunkServeBitError_collides hrun hport (State.collidesOnTrunk_eq_some_iff.2 ⟨k, r, hcollides, rfl⟩)]
    rfl
  · exact exec_trunkBreak_of_not_forward hrun hline (by rw [hport]; nofun)

/-! ## Captures (R57, R58, R60) -/

theorem lineBreak_not_mem_goodCharacters (values : List Byte) : RxEvent.lineBreak ∉ goodCharacters values := by
  simp [goodCharacters]

theorem goodBytes_append (a b : List RxEvent) : goodBytes (a ++ b) = goodBytes a ++ goodBytes b := by
  induction a with
  | nil => rfl
  | cons event rest ih =>
    cases event with
    | lineBreak => exact ih
    | character c =>
      cases c with
      | good v => exact congrArg (v :: ·) ih
      | framing => exact ih

/-- The data bytes of a publication, behind which the check byte and more may come. -/
theorem goodBytes_take (data : List Byte) (check : Byte) (more : List RxEvent) :
    (goodBytes (goodCharacters (data ++ [check]) ++ more)).take data.length = data := by
  rw [goodBytes_append, goodBytes_goodCharacters, List.append_assoc, List.take_append_of_le_length le_rfl,
    List.take_length]

/-- An outcome of an expired window is an error class (R11). -/
theorem windowOutcome_ne_success (c : Prop) [Decidable c] :
    (if c then BranchOutcome.shortReply else .noReply) ≠ .success := by
  split <;> nofun

/-- The reply window ends a capture behind its data characters or before them (R11). -/
theorem State.captureVerdict_window {s : State} {h0 h1 : Byte} {n : Nat} {windowFirst : Bool} {line : Wave}
    {data : List Byte} (hwindow : WindowOver n s.trunk.sinceH1 line) (hlength : data.length ≤ n)
    (hbreak : RxEvent.lineBreak ∉ (s.hearCapture n line).2)
    (hcounted : (if windowFirst then
        (s.trunk.receiver.hearLevels .trunk (withinWindow n s.trunk.sinceH1 line).dropLast).2
      else (s.hearCapture n line).2) = goodCharacters data) :
    ∃ o, s.captureVerdict h0 h1 n windowFirst line = some o ∧ o ≠ .success := by
  unfold State.captureVerdict
  rw [(windowEnds_iff _ _ _).2 hwindow, take_early _ _ _ hwindow]
  dsimp only
  rw [hcounted, replyVerdict_expired hbreak (replyEnded_short _ _ _ hlength)]
  exact ⟨_, rfl, windowOutcome_ne_success _⟩

/-- A FRAMING mark ends a capture (R10). -/
theorem State.captureVerdict_framing {s : State} {h0 h1 : Byte} {n : Nat} {line : Wave} {data : List Byte} {v : Byte}
    {more : List RxEvent} (hmore : RxEvent.lineBreak ∉ more) (hlength : data.length ≤ n)
    (hheard : (s.hearCapture n line).2 = goodCharacters data ++ .character (.framing v) :: more) :
    s.captureVerdict h0 h1 n false line = some .framing := by
  refine replyVerdict_ended ?_ ?_
  · rw [hheard]
    simp [lineBreak_not_mem_goodCharacters, hmore]
  · rw [if_neg (by simp), hheard, replyEnded_framing _ _ _ _ _ hlength]

theorem exec_captureFailed_of_verdict {target : CaptureTarget} {h0 h1 : Byte} {windowFirst : Bool} {line : Wave}
    {s : State} {o : BranchOutcome} (hrun : s.power = .running) (hport : s.trunk.port = .capture target h0 h1)
    (hverdict : s.captureVerdict h0 h1 target.bytes windowFirst line = some o) (ho : o ≠ .success) :
    exec (.captureFailed ⟨line, windowFirst⟩) s =
      .next ((s.setReceiver (s.hearCapture target.bytes line).1).setPort .passive) := by
  have hrow : exec (.captureFailed ⟨line, windowFirst⟩) s = execCaptureFailed ⟨line, windowFirst⟩ s := rfl
  simp [hrow, execCaptureFailed, s.isRunning_iff.mpr hrun, hport, hverdict, ho, State.endCapture]

theorem exec_downlinkCapture_of_verdict {i : EntryIndex} {copy : Entry} {h0 h1 : Byte} {line : Wave} {s : State}
    {o : BranchOutcome} (hrun : s.power = .running) (hport : s.trunk.port = .capture (.downlink i copy) h0 h1)
    (hverdict : s.captureVerdict h0 h1 copy.bytes false line = some o) :
    exec (.downlinkCapture line) s =
      .next (if o = .success then
        ((s.setReceiver (s.hearCapture copy.bytes line).1).setPort .passive).downlinkCaptured i copy
          ((goodBytes (s.hearCapture copy.bytes line).2).take copy.bytes)
      else (s.setReceiver (s.hearCapture copy.bytes line).1).setPort .passive) := by
  have hrow : exec (.downlinkCapture line) s = execDownlinkCapture line s := rfl
  simp [hrow, execDownlinkCapture, s.isRunning_iff.mpr hrun, hport, hverdict, State.endCapture]

theorem exec_streamWrite_of_verdict {h0 h1 : Byte} {line : Wave} {s : State} {o : BranchOutcome}
    (hrun : s.power = .running) (hport : s.trunk.port = .capture .streamWrite h0 h1)
    (hverdict : s.captureVerdict h0 h1 16 false line = some o) :
    exec (.streamWrite line) s =
      .next (if o = .success then
        State.streamWritten ((goodBytes (s.hearCapture 16 line).2).take 16)
          ((s.setReceiver (s.hearCapture 16 line).1).setPort .passive)
      else (s.setReceiver (s.hearCapture 16 line).1).setPort .passive) := by
  have hrow : exec (.streamWrite line) s = execStreamWrite line s := rfl
  simp [hrow, execStreamWrite, s.isRunning_iff.mpr hrun, hport, hverdict, State.endCapture]

/-- A COMMAND row on a line that ends the reception with an error class (R57). -/
theorem exec_command_failed {c : Instr} {code tag : Byte} {ops : HeardOperands} {h0 h1 : Byte} {s : State}
    {o : BranchOutcome} (hwf : c.wellFormed = true) (hrecord : recordOfCommand c = some (code, tag, ops))
    (hrun : s.power = .running) (hport : s.trunk.port = .capture .command h0 h1)
    (hverdict : s.captureVerdict h0 h1 16 false ops.line = some o) (ho : o ≠ .success) :
    exec c s = .next ((s.setReceiver (s.hearCapture 16 ops.line).1).setPort .passive) := by
  obtain ⟨owner, after, hexec⟩ := exec_eq_takeCommandThen hwf hrecord s
  have hfailed : s.recordReception code tag ops = .failed := by
    unfold State.recordReception
    rw [s.isRunning_iff.mpr hrun, hport]
    dsimp only
    rw [hverdict]
    cases o <;> trivial
  rw [hexec, takeCommandThen_failed hfailed]

/-- Every row that names the end of a reception leaves PASSIVE and nothing else behind an error class (R57). -/
theorem exec_capture_failed {target : CaptureTarget} {h0 h1 : Byte} {line : Wave} {r : Receiver} {s p : State}
    {o : BranchOutcome} (hrun : s.power = .running) (hport : s.trunk.port = .capture target h0 h1)
    (hverdict : s.captureVerdict h0 h1 target.bytes false line = some o) (ho : o ≠ .success)
    (hr : (s.hearCapture target.bytes line).1 = r) (hp : p = (s.setReceiver r).setPort .passive) :
    exec (.captureFailed ⟨line, false⟩) s = .next p ∧
      (∀ i copy, target = .downlink i copy → exec (.downlinkCapture line) s = .next p) ∧
      (target = .streamWrite → exec (.streamWrite line) s = .next p) ∧
      ∀ c code tag ops, target = .command → c.wellFormed = true → recordOfCommand c = some (code, tag, ⟨ops, line⟩) →
        exec c s = .next p := by
  subst hr hp
  refine ⟨exec_captureFailed_of_verdict hrun hport hverdict ho, ?_, ?_, ?_⟩
  · rintro i copy rfl
    rw [exec_downlinkCapture_of_verdict hrun hport hverdict, if_neg ho]
    rfl
  · rintro rfl
    rw [exec_streamWrite_of_verdict hrun hport hverdict, if_neg ho]
    rfl
  · rintro c code tag ops rfl hwf hrecord
    exact exec_command_failed hwf hrecord hrun hport hverdict ho

/-! ## DOWNLINK captures (R58, R69) -/

theorem Entry.sameIdentity_iff (e f : Entry) : e.sameIdentity f = true ↔ SameIdentity e f := by
  simp [Entry.sameIdentity, SameIdentity, and_assoc]

theorem State.takesTrunkCapture_iff (i : EntryIndex) (copy : Entry) (s : State) :
    s.takesTrunkCapture i copy = true ↔
      SameIdentity copy (s.activeEntry i) ∧ ¬ ((s.activeEntry i).storePolicy = .hold ∧ (s.record i).pending = true) := by
  rw [← Entry.sameIdentity_iff]
  simp [State.takesTrunkCapture, imp_iff_not_or]

/-- The capture is taken: PENDING yes, and a PUBLISH requested. -/
theorem State.downlinkCaptured_of_taken {s : State} {i : EntryIndex} {copy : Entry} {data : List Byte}
    (h : s.takesTrunkCapture i copy = true) :
    s.downlinkCaptured i copy data =
      ((s.setRecord i { capturedRecord data .trunk s.sched.tickCount (s.record i) with pending := true }).request i
        .publish .downlink).takeOffered := by
  have hcapture : s.trunkCapture i copy data =
      s.setRecord i { capturedRecord data .trunk s.sched.tickCount (s.record i) with pending := true } := by
    unfold State.trunkCapture
    rw [if_pos h, State.setPendingMark, State.captureInto, State.record_setRecord_self, State.setRecord_setRecord_self]
    rfl
  rw [State.downlinkCaptured, if_pos h, hcapture]

/-- It is discarded: CAPTURE_HELD under HOLD, no flag when a commit changed the entry. -/
theorem State.downlinkCaptured_of_discarded {s : State} {i : EntryIndex} {copy : Entry} {data : List Byte}
    (h : s.takesTrunkCapture i copy = false) :
    s.downlinkCaptured i copy data =
      if copy.sameIdentity (s.activeEntry i) then s.setFlag .captureHeld else s := by
  rw [State.downlinkCaptured, State.trunkCapture, h]
  rfl

/-- Settles O19: how a reception in CAPTURE ends, and what becomes of a good publication for a DOWNLINK entry. -/
theorem downlinkCaptureTaken : Obligations.DownlinkCaptureTaken := by
  rintro target h0 h1 data more line r s p hrun hport hmore rfl
  refine ⟨?_, fun hwindow hlength hr hbreak hearly => ?_, ?_⟩
  · rintro (⟨hlength, hheard, hwindow⟩ | ⟨v, hlength, hheard⟩ | ⟨check, hlength, hcheck, hheard⟩)
    · obtain ⟨o, hverdict, ho⟩ := State.captureVerdict_window (h0 := h0) (h1 := h1) (windowFirst := false) hwindow hlength
        (by rw [hheard]; exact lineBreak_not_mem_goodCharacters data) (by rw [hheard]; rfl)
      exact exec_capture_failed hrun hport hverdict ho (congrArg Prod.fst hheard) rfl
    · have hverdict := State.captureVerdict_framing (h0 := h0) (h1 := h1) hmore hlength (congrArg Prod.snd hheard)
      exact exec_capture_failed hrun hport hverdict nofun (congrArg Prod.fst hheard) rfl
    · rw [← hlength] at hheard
      have hverdict := State.captureVerdict_check (h0 := h0) (h1 := h1) hmore (congrArg Prod.snd hheard)
      rw [if_neg hcheck, hlength] at hverdict
      rw [hlength] at hheard
      exact exec_capture_failed hrun hport hverdict nofun (congrArg Prod.fst hheard) rfl
  · obtain ⟨o, hverdict, ho⟩ := State.captureVerdict_window (h0 := h0) (h1 := h1) (windowFirst := true) hwindow hlength
      hbreak hearly
    rw [exec_captureFailed_of_verdict hrun hport hverdict ho, hr]
    rfl
  · rintro i copy rfl hlength hheard
    rw [← hlength] at hheard
    have hverdict := State.captureVerdict_check (h0 := h0) (h1 := h1) hmore (congrArg Prod.snd hheard)
    rw [hlength] at hverdict hheard
    have hexec := exec_downlinkCapture_of_verdict hrun hport hverdict
    rw [if_pos rfl, if_pos rfl, hheard] at hexec
    have hdata := goodBytes_take data (checkByte h0 h1 data) more
    rw [hlength] at hdata
    rw [hdata] at hexec
    dsimp only at hexec
    rw [hexec]
    refine ⟨fun hidentity => ?_, fun hidentity hhold hpending => ?_, fun hidentity hfree => ?_⟩
    · have hdiscards : ((s.setReceiver r).setPort .passive).takesTrunkCapture i copy = false :=
        Bool.eq_false_iff.2 fun h => hidentity ((State.takesTrunkCapture_iff _ _ _).1 h).1
      have hdiffers : copy.sameIdentity (s.activeEntry i) = false :=
        Bool.eq_false_iff.2 fun h => hidentity ((Entry.sameIdentity_iff _ _).1 h)
      rw [State.downlinkCaptured_of_discarded hdiscards, if_neg]
      · rfl
      · exact fun h => Bool.eq_false_iff.1 hdiffers h
    · have hdiscards : ((s.setReceiver r).setPort .passive).takesTrunkCapture i copy = false :=
        Bool.eq_false_iff.2 fun h => ((State.takesTrunkCapture_iff _ _ _).1 h).2 ⟨hhold, hpending⟩
      rw [State.downlinkCaptured_of_discarded hdiscards, if_pos]
      · rfl
      · exact (Entry.sameIdentity_iff _ _).2 hidentity
    · have htakes : ((s.setReceiver r).setPort .passive).takesTrunkCapture i copy = true :=
        (State.takesTrunkCapture_iff _ _ _).2 ⟨hidentity, hfree⟩
      rw [State.downlinkCaptured_of_taken htakes]
      rfl

/-! ## Stream writes (R32) -/

/-- The byte of a stream write that names the index it expects (R177). -/
theorem expectedIndex_eq (data : Vector Byte 16) : data.toList.getD 10 0#8 = data[10] := by
  simp [List.getD_eq_getElem?_getD]

theorem State.streamWritten_accepted {data : List Byte} {e : Entry} {i : EntryIndex} {s : State}
    (hentry : decodeEntry (data.take 10) = some e) (hindex : (data.getD 10 0#8).toNat = i.val)
    (hwrite : s.route.writeIndex.val = i.val) (hfree : ¬ EditHeld s) :
    State.streamWritten data s = (s.setEditEntry i e).mapRoute fun r => { r with writeIndex := i.succ } := by
  have hfree' : s.editHeld = false := Bool.eq_false_iff.2 fun h => hfree ((s.editHeld_iff).1 h)
  unfold State.streamWritten
  rw [hentry, entryIndex?_eq_some hindex]
  exact if_pos ⟨hwrite.symm, hfree'⟩

theorem State.streamWritten_refused {data : List Byte} {s : State}
    (h : s.route.writeIndex.val = 64 ∨ (data.getD 10 0#8).toNat ≠ s.route.writeIndex.val ∨
      decodeEntry (data.take 10) = none ∨ EditHeld s) :
    State.streamWritten data s = s.setFlag .writeRefused := by
  unfold State.streamWritten
  split
  next e i hentry hindex =>
    refine if_neg ?_
    rintro ⟨hwrite, hfree⟩
    obtain ⟨hlt, hi⟩ : ∃ hlt : (data.getD 10 0#8).toNat < 64, (⟨_, hlt⟩ : EntryIndex) = i := by
      simpa [entryIndex?] using hindex
    have hval : (data.getD 10 0#8).toNat = i.val := congrArg Fin.val hi
    obtain hend | hdiffers | hbad | hheld := h
    · omega
    · exact hdiffers (hval.trans hwrite)
    · rw [hentry] at hbad
      cases hbad
    · rw [(s.editHeld_iff).2 hheld] at hfree
      cases hfree
  next => rfl

/-- Settles O20: a stream write by its bytes, its index and the state of the edit bank. -/
theorem streamWriteJudged : Obligations.StreamWriteJudged := by
  rintro data h0 h1 line r s p hrun hport rfl
  refine ⟨fun hheard => ?_, ?_⟩
  · have hlength : data.toList.length = 16 := by simp
    have hverdict := State.captureVerdict_check (s := s) (h0 := h0) (h1 := h1) (line := line) (data := data.toList)
      (check := checkByte h0 h1 data.toList) (more := []) (by simp)
      (by rw [hlength, hheard, List.append_nil])
    rw [if_pos rfl, hlength] at hverdict
    have hexec := exec_streamWrite_of_verdict hrun hport hverdict
    have hdata := goodBytes_take data.toList (checkByte h0 h1 data.toList) []
    rw [hlength, List.append_nil] at hdata
    rw [if_pos rfl, hheard] at hexec
    dsimp only at hexec
    rw [hdata] at hexec
    rw [hexec, ← expectedIndex_eq]
    refine ⟨fun i e hwrite hindex hentry hfree => ?_, fun hrefused => ?_⟩
    · rw [State.streamWritten_accepted (s := (s.setReceiver r).setPort .passive) hentry hindex hwrite hfree]
      rfl
    · rw [State.streamWritten_refused (s := (s.setReceiver r).setPort .passive) hrefused]
      rfl
  · rintro windowFirst o hverdict ho rfl
    rw [exec_captureFailed_of_verdict (target := .streamWrite) hrun hport hverdict ho]
    rfl

end Sys2Proof.Machine

/-! PROOFS. Commands of the agent, of the record store and of the scheduler (O22, O29, O30, O37). -/

namespace Sys2Proof.Machine

/-! ## What the rows hand to the agent -/

theorem exec_unknownCommand {code : Byte} (hcode : isCommandCode code = false) (tag : Byte) (ops : Operands) (line : Wave)
    (u : State) :
    exec (.unknownCommand code tag ⟨ops, line⟩) u =
      .next (takeCommand code tag ⟨ops, line⟩ (fun t => (t, Answer.plain .badCommand)) u) :=
  if_neg (by simp [hcode])

theorem exec_nop (tag : Byte) (ops : Operands) (line : Wave) (u : State) :
    exec (.nop tag ⟨ops, line⟩) u =
      .next (takeCommand 0x01#8 tag ⟨ops, line⟩
        (fun t => (t, { outcome := .done, data := word16Bytes t.trunk.stamp })) u) :=
  rfl

theorem exec_clearFlags (tag : Byte) (ops : Operands) (line : Wave) (u : State) :
    exec (.clearFlags tag ⟨ops, line⟩) u =
      .next (takeCommand 0x02#8 tag ⟨ops, line⟩
        (fun t =>
          (t.mapAgent fun g => { g with flags := g.flags &&& ~~~ opWord ops 2 },
            { outcome := .done, data := word16Bytes t.agent.flags })) u) :=
  rfl

theorem exec_clearCounters (tag : Byte) (ops : Operands) (line : Wave) (u : State) :
    exec (.clearCounters tag ⟨ops, line⟩) u =
      .next (takeCommand 0x03#8 tag ⟨ops, line⟩
        (fun t => (t.mapAgent fun g => { g with counters := Counters.zero }, Answer.plain .done)) u) :=
  rfl

theorem exec_writeRecord (tag : Byte) (ops : Operands) (line : Wave) (u : State) :
    exec (.writeRecord tag ⟨ops, line⟩) u = .next (takeCommand 0x20#8 tag ⟨ops, line⟩ (writeRecordOwner ops) u) :=
  rfl

theorem exec_flushRecord (tag : Byte) (ops : Operands) (line : Wave) (u : State) :
    exec (.flushRecord tag ⟨ops, line⟩) u =
      .next (takeCommand 0x21#8 tag ⟨ops, line⟩
        (withOperand (flushOperand ops) fun named t => (t.flush named, Answer.plain .done)) u) :=
  rfl

theorem exec_refreshNow (tag : Byte) (ops : Operands) (line : Wave) (u : State) :
    exec (.refreshNow tag ⟨ops, line⟩) u =
      .next (takeCommand 0x30#8 tag ⟨ops, line⟩ (withOperand (entryIndex? (opByte ops 2)) refreshNowOwner) u) :=
  rfl

theorem exec_setOrder (tag : Byte) (ops : Operands) (line : Wave) (u : State) :
    exec (.setOrder tag ⟨ops, line⟩) u =
      .next (takeCommand 0x32#8 tag ⟨ops, line⟩
        (withOperand (orderOperand ops) fun m t => (t.mapSched fun q => { q with order := m }, Answer.plain .done)) u) :=
  rfl

theorem exec_setTick (tag : Byte) (ops : Operands) (line : Wave) (u : State) :
    exec (.setTick tag ⟨ops, line⟩) u =
      .next (takeCommand 0x33#8 tag ⟨ops, line⟩
        (withOperand (tickOperand ops) fun p t => (t.mapSched fun q => { q with tickPeriod := p }, Answer.plain .done))
        u) :=
  rfl

/-! ## The agent's own commands (R152, R157, R159, R161) -/

/-- Settles O22: each owner changes one field of the agent, or nothing. -/
theorem agentCommandsExecute : Obligations.AgentCommandsExecute := by
  intro code tag ops s hs
  refine ⟨fun hcode => ?_, ?_, ?_, ?_⟩
  · exact recordAnswers_executed (row := fun heard => .unknownCommand code tag heard) (t := s)
      (a := Answer.plain .badCommand) hs (exec_unknownCommand hcode tag ops) rfl nofun
  · exact recordAnswers_executed (t := s) (a := { outcome := .done, data := word16Bytes s.trunk.stamp }) hs
      (exec_nop tag ops) rfl nofun
  · rw [← opWord_eq_append ops 0 (by omega)]
    exact recordAnswers_executed (t := s.mapAgent fun g => { g with flags := g.flags &&& ~~~ opWord ops 2 })
      (a := { outcome := .done, data := word16Bytes s.agent.flags }) hs (exec_clearFlags tag ops) rfl nofun
  · exact recordAnswers_executed (t := s.mapAgent fun g => { g with counters := Counters.zero })
      (a := Answer.plain .done) hs (exec_clearCounters tag ops) rfl nofun

/-! ## FLUSH_RECORD (R81) -/

theorem flushOperand_eq_index {ops : Operands} {i : EntryIndex} (h : ops[0].toNat = i.val) :
    flushOperand ops = some fun j => j == i := by
  have hbyte : opByte ops 2 = ops[0] := opByte_eq_getElem ops 0 (by omega)
  have hnot : ops[0] ≠ 0xFF#8 := by
    intro hall
    rw [hall] at h
    have := i.isLt
    simp at h
    omega
  rw [flushOperand, hbyte, if_neg hnot, entryIndex?_eq_some h, Option.map_some]

theorem flushOperand_eq_all {ops : Operands} (h : ops[0] = 0xFF#8) : flushOperand ops = some fun _ => true := by
  rw [flushOperand, opByte_eq_getElem ops 0 (by omega), if_pos h]

theorem flushOperand_eq_none {ops : Operands} (h : 63 < ops[0].toNat ∧ ops[0].toNat < 255) : flushOperand ops = none := by
  obtain ⟨hlow, hhigh⟩ := h
  have hnot : ops[0] ≠ 0xFF#8 := by
    intro hall
    rw [hall] at hhigh
    simp at hhigh
  rw [flushOperand, opByte_eq_getElem ops 0 (by omega), if_neg hnot, entryIndex?_eq_none hlow, Option.map_none]

theorem State.flush_receiveRecord (named : EntryIndex → Bool) (s : State) :
    s.receiveRecord.flush named = (s.flush named).receiveRecord := by
  rw [State.flush, State.mapRecords_receiveRecord, State.removeWork_receiveRecord, State.flush]

/-- A FLUSH_RECORD that names records answers DONE. -/
theorem recordAnswers_flush {tag : Byte} {ops : Operands} {named : EntryIndex → Bool} {s : State} (hs : AcceptsRecord s)
    (h : flushOperand ops = some named) :
    RecordAnswers 0x21#8 tag ops (.flushRecord tag) s (executed 0x21#8 tag .done [] (s.flush named)) := by
  refine recordAnswers_executed (a := Answer.plain .done) hs (exec_flushRecord tag ops) ?_ nofun
  rw [withOperand_some h, State.flush_receiveRecord]

/-- Settles O30: the indices that the operand names, and the flush of those. -/
theorem flushEmptiesRecords : Obligations.FlushEmptiesRecords := by
  intro tag ops s hs
  refine ⟨fun i hi => ?_, fun hall => ?_, fun hbad => ?_⟩
  · have hflush := recordAnswers_flush (tag := tag) hs (flushOperand_eq_index hi)
    rwa [State.flush, State.mapRecords_one] at hflush
  · exact recordAnswers_flush (tag := tag) hs (flushOperand_eq_all hall)
  · exact recordAnswers_executed (a := Answer.plain .badOperand) hs (exec_flushRecord tag ops)
      (withOperand_none (flushOperand_eq_none hbad) _ _) nofun

/-! ## REFRESH_NOW, SET_ORDER and SET_TICK (R85, R95, R101) -/

theorem Entry.takesRefresh_iff (e : Entry) :
    e.takesRefresh = true ↔ e.valid = true ∧ (e.kind = .cached ∨ e.kind = .relayed ∧ e.masked = false) := by
  simp [Entry.takesRefresh]

/-- The code of the step that decides a request which is not PERIODIC. -/
theorem State.disposition_code {s : State} {origin : Origin} (e : EntryIndex) (h : origin ≠ .periodic) :
    (s.disposition e origin).code =
      if s.link.state = .quarantine then 0#8 else if s.sched.queued e then 1#8
      else if s.sched.isDeferred e then 2#8 else if s.sched.queue.length < 16 then 3#8 else 4#8 := by
  by_cases hquarantine : s.link.state = .quarantine
  · rw [State.disposition_eq_dropped e ⟨hquarantine, h⟩, if_pos hquarantine]
    rfl
  · rw [State.disposition_of_kept e fun hdropped => hquarantine hdropped.1, if_neg hquarantine, apply_ite Disposition.code,
      apply_ite Disposition.code, apply_ite Disposition.code]
    rfl

theorem refreshNowOwner_taken {s : State} {i : EntryIndex} (h : (s.activeEntry i).takesRefresh = true) :
    refreshNowOwner i s.receiveRecord =
      ((s.request i .refresh .manual).takeOffered.receiveRecord,
        { outcome := .done, data := [BitVec.ofNat 8 i.val, (s.disposition i .manual).code] }) := by
  rw [refreshNowOwner, if_pos (show (s.receiveRecord.activeEntry i).takesRefresh = true from h),
    State.request_receiveRecord, State.takeOffered_receiveRecord]
  rfl

theorem refreshNowOwner_notTaken {s : State} {i : EntryIndex} (h : ¬ (s.activeEntry i).takesRefresh = true) :
    refreshNowOwner i s.receiveRecord = (s.receiveRecord, Answer.plain .badState) :=
  if_neg h

theorem orderOperand_eq_some {ops : Operands} {m : OrderMode} (h : ops[0] = (match m with | .arrival => 0#8 | .index => 1#8)) :
    orderOperand ops = some m := by
  rw [orderOperand, opByte_eq_getElem ops 0 (by omega), h]
  cases m <;> rfl

theorem orderOperand_eq_none {ops : Operands} (h : 1 < ops[0].toNat) : orderOperand ops = none := by
  rw [orderOperand, opByte_eq_getElem ops 0 (by omega), if_neg, if_neg] <;>
    (intro heq; rw [heq] at h; simp at h)

theorem tickOperand_eq (ops : Operands) :
    tickOperand ops = if 1 ≤ ops[0].toNat ∧ ops[0].toNat ≤ 250 then some ops[0] else none := by
  rw [tickOperand, opByte_eq_getElem ops 0 (by omega)]

/-- Settles O37: the operand checks, and the owners of the three commands. -/
theorem queueCommandsExecute : Obligations.QueueCommandsExecute := by
  intro tag ops s hs
  have hbyte : opByte ops 2 = ops[0] := opByte_eq_getElem ops 0 (by omega)
  refine ⟨fun i hi => ?_, fun m hm => ?_, fun hrange => ?_, fun hbad => ?_, fun hbad => ?_, fun hbad => ?_⟩
  · have hindex : entryIndex? (opByte ops 2) = some i := by rw [hbyte, entryIndex?_eq_some hi]
    rw [← Entry.takesRefresh_iff]
    refine ⟨fun htakes => ?_, fun hnot => ?_⟩
    · rw [← State.disposition_code i (show Origin.manual ≠ .periodic by nofun)]
      exact recordAnswers_executed hs (exec_refreshNow tag ops)
        ((withOperand_some hindex _ _).trans (refreshNowOwner_taken htakes)) nofun
    · exact recordAnswers_executed hs (exec_refreshNow tag ops)
        ((withOperand_some hindex _ _).trans (refreshNowOwner_notTaken hnot)) nofun
  · exact recordAnswers_executed (t := s.mapSched fun q => { q with order := m }) (a := Answer.plain .done) hs
      (exec_setOrder tag ops) (withOperand_some (orderOperand_eq_some hm) _ _) nofun
  · have htick : tickOperand ops = some ops[0] := by rw [tickOperand_eq, if_pos hrange]
    exact recordAnswers_executed (t := s.mapSched fun q => { q with tickPeriod := ops[0] }) (a := Answer.plain .done) hs
      (exec_setTick tag ops) (withOperand_some htick _ _) nofun
  · have hindex : entryIndex? (opByte ops 2) = none := by rw [hbyte, entryIndex?_eq_none hbad]
    exact recordAnswers_executed (a := Answer.plain .badOperand) hs (exec_refreshNow tag ops)
      (withOperand_none hindex _ _) nofun
  · exact recordAnswers_executed (a := Answer.plain .badOperand) hs (exec_setOrder tag ops)
      (withOperand_none (orderOperand_eq_none hbad) _ _) nofun
  · have htick : tickOperand ops = none := by rw [tickOperand_eq, if_neg (by omega)]
    exact recordAnswers_executed (a := Answer.plain .badOperand) hs (exec_setTick tag ops)
      (withOperand_none htick _ _) nofun

/-! ## WRITE_RECORD (R70, R71) -/

theorem recordPart?_whole {b : Byte} (h : b = 0#8) : recordPart? b = some .whole :=
  if_pos h

theorem recordPart?_firstHalf {b : Byte} (h : b = 1#8) : recordPart? b = some .firstHalf := by
  subst h
  rfl

theorem recordPart?_secondHalf {b : Byte} (h : b = 2#8) : recordPart? b = some .secondHalf := by
  subst h
  rfl

theorem recordPart?_eq_none {b : Byte} (h : 2 < b.toNat) : recordPart? b = none := by
  have h0 : b ≠ 0#8 := by rintro rfl; simp at h
  have h1 : b ≠ 1#8 := by rintro rfl; simp at h
  have h2 : b ≠ 2#8 := by rintro rfl; simp at h
  rw [recordPart?, if_neg h0, if_neg h1, if_neg h2]

/-- A part number of at most 2 names a part (R70). -/
theorem recordPart?_of_le {b : Byte} (h : b.toNat ≤ 2) : ∃ part, recordPart? b = some part := by
  have hvalues : b = 0#8 ∨ b = 1#8 ∨ b = 2#8 := by bv_omega
  obtain h | h | h := hvalues
  · exact ⟨_, recordPart?_whole h⟩
  · exact ⟨_, recordPart?_firstHalf h⟩
  · exact ⟨_, recordPart?_secondHalf h⟩

theorem recordOperands_eq (ops : Operands) :
    recordOperands ops = (entryIndex? ops[0]).bind fun i => (recordPart? ops[1]).map fun part => (i, part) := by
  rw [recordOperands, opByte_eq_getElem ops 0 (by omega), opByte_eq_getElem ops 1 (by omega)]
  cases entryIndex? ops[0] <;> cases recordPart? ops[1] <;> rfl

theorem recordOperands_eq_none {ops : Operands} (h : 63 < ops[0].toNat ∨ 2 < ops[1].toNat) : recordOperands ops = none := by
  rw [recordOperands_eq]
  obtain h | h := h
  · rw [entryIndex?_eq_none h, Option.bind_none]
  · simp [recordPart?_eq_none h]

theorem State.emptyStaging_eq_ite (ops : Operands) (s : State) :
    s.emptyStaging ops =
      if ops[1] = 2#8 then { s with store := { s.store with staging := none } } else s := by
  rw [State.emptyStaging, opByte_eq_getElem ops 1 (by omega)]
  rfl

theorem State.emptyStaging_receiveRecord (ops : Operands) (s : State) :
    s.receiveRecord.emptyStaging ops = (s.emptyStaging ops).receiveRecord := by
  unfold State.emptyStaging
  split <;> rfl

theorem State.emptyStaging_activeEntry (ops : Operands) (s : State) (i : EntryIndex) :
    (s.emptyStaging ops).activeEntry i = s.activeEntry i := by
  unfold State.emptyStaging
  split <;> rfl

theorem State.emptyStaging_record (ops : Operands) (s : State) (i : EntryIndex) :
    (s.emptyStaging ops).record i = s.record i := by
  unfold State.emptyStaging
  split <;> rfl

theorem State.emptyStaging_tickCount (ops : Operands) (s : State) :
    (s.emptyStaging ops).sched.tickCount = s.sched.tickCount := by
  unfold State.emptyStaging
  split <;> rfl

/-- The record that a management capture leaves, and the PUBLISH it requests on a DOWNLINK entry (R71). -/
theorem State.managementCapture_receiveRecord (i : EntryIndex) (data : List Byte) (s : State) :
    s.receiveRecord.managementCapture i data =
      ((if (s.activeEntry i).kind = .downlink then
          ((s.setRecord i
            { capturedRecord data .management s.sched.tickCount (s.record i) with pending := true }).request i .publish
            .manual).takeOffered
        else s.setRecord i (capturedRecord data .management s.sched.tickCount (s.record i))).receiveRecord,
        { outcome := .done
          data :=
            [BitVec.ofNat 8 i.val, (s.record i).version + 1#8, lowByte s.sched.tickCount,
              highByte s.sched.tickCount] }) := by
  have hcaptured : s.receiveRecord.captureInto i data .management =
      (s.setRecord i (capturedRecord data .management s.sched.tickCount (s.record i))).receiveRecord := rfl
  have hmarked : (s.receiveRecord.captureInto i data .management).setPendingMark i true =
      (s.setRecord i
        { capturedRecord data .management s.sched.tickCount (s.record i) with pending := true }).receiveRecord := by
    rw [State.captureInto, State.setPendingMark, State.record_setRecord_self, State.setRecord_setRecord_self]
    rfl
  have hrecord : (s.receiveRecord.captureInto i data .management).record i =
      capturedRecord data .management s.sched.tickCount (s.record i) := by
    rw [State.captureInto, State.record_setRecord_self]
    rfl
  unfold State.managementCapture
  dsimp only
  rw [hmarked, hrecord, State.request_receiveRecord, State.takeOffered_receiveRecord, hcaptured]
  by_cases hkind : (s.activeEntry i).kind = .downlink
  · rw [if_pos (show (s.receiveRecord.activeEntry i).kind = .downlink from hkind), if_pos hkind]
    rfl
  · rw [if_neg (show ¬ (s.receiveRecord.activeEntry i).kind = .downlink from hkind), if_neg hkind]
    rfl

/-- A WRITE_RECORD whose operands are in range answers what its part does, with the staging buffer emptied first by a
part 2. -/
theorem recordAnswers_writeRecord {tag : Byte} {ops : Operands} {i : EntryIndex} {part : RecordPart} {s t : State}
    {a : Answer} (hs : AcceptsRecord s) (hi : ops[0].toNat = i.val) (hpart : recordPart? ops[1] = some part)
    (howner : writeRecordPart ops (s.store.stagedFor i) i part (s.emptyStaging ops).receiveRecord = (t.receiveRecord, a))
    (ha : a.outcome ≠ .pending) :
    RecordAnswers 0x20#8 tag ops (.writeRecord tag) s (executed 0x20#8 tag a.outcome a.data t) := by
  have hops : recordOperands ops = some (i, part) := by
    rw [recordOperands_eq, entryIndex?_eq_some hi, hpart, Option.bind_some, Option.map_some]
  refine recordAnswers_executed hs (exec_writeRecord tag ops) ?_ ha
  rw [writeRecordOwner, withOperand_some hops, State.emptyStaging_receiveRecord, ← howner]
  rfl

/-- The checks on the entry that fail (R70, checks 2 and 3). -/
theorem writeRecordPart_unfit {ops : Operands} {staged : Option (List Byte)} {i : EntryIndex} {part : RecordPart}
    {s : State} (h : ((s.activeEntry i).keepsRecord && part.carries (s.activeEntry i).length) = false) :
    writeRecordPart ops staged i part s.receiveRecord = (s.receiveRecord, Answer.plain .badState) :=
  if_neg (Bool.not_eq_true _ ▸ h)

/-- A part that passes the checks on the entry (R70): the whole record, its first half, its second half. -/
theorem writeRecordPart_whole {ops : Operands} {staged : Option (List Byte)} {i : EntryIndex} {s : State}
    (h : ((s.activeEntry i).keepsRecord && RecordPart.whole.carries (s.activeEntry i).length) = true) :
    writeRecordPart ops staged i .whole s.receiveRecord =
      s.receiveRecord.managementCapture i (opBytes ops 4 (s.activeEntry i).bytes) :=
  if_pos h

theorem writeRecordPart_firstHalf {ops : Operands} {staged : Option (List Byte)} {i : EntryIndex} {s : State}
    (h : ((s.activeEntry i).keepsRecord && RecordPart.firstHalf.carries (s.activeEntry i).length) = true) :
    writeRecordPart ops staged i .firstHalf s.receiveRecord =
      ((s.mapStore fun st => { st with staging := some { index := i, bytes := opBytes ops 4 8 } }).receiveRecord,
        { outcome := .done, data := [BitVec.ofNat 8 i.val] }) :=
  if_pos h

theorem writeRecordPart_secondHalf {ops : Operands} {first : List Byte} {i : EntryIndex} {s : State}
    (h : ((s.activeEntry i).keepsRecord && RecordPart.secondHalf.carries (s.activeEntry i).length) = true) :
    writeRecordPart ops (some first) i .secondHalf s.receiveRecord =
      s.receiveRecord.managementCapture i (first ++ opBytes ops 4 8) :=
  if_pos h

/-- A second half without its first half (R70, check 4). -/
theorem writeRecordPart_secondHalf_alone (ops : Operands) (i : EntryIndex) (s : State) :
    writeRecordPart ops none i .secondHalf s.receiveRecord = (s.receiveRecord, Answer.plain .badState) :=
  ite_self _

theorem RecordStore.stagedFor_eq_none {st : RecordStore} {i : EntryIndex}
    (h : ∀ bytes, st.staging ≠ some { index := i, bytes := bytes }) : st.stagedFor i = none := by
  unfold RecordStore.stagedFor
  split
  next x hx =>
    refine if_neg ?_
    rintro rfl
    exact h x.bytes hx
  next => rfl

theorem RecordStore.stagedFor_eq_some {st : RecordStore} {i : EntryIndex} {bytes : List Byte}
    (h : st.staging = some { index := i, bytes := bytes }) : st.stagedFor i = some bytes := by
  rw [RecordStore.stagedFor, h]
  exact if_pos rfl

/-- The three parts by the LENGTH they carry (R70, check 3). -/
theorem RecordPart.carries_eq (part : RecordPart) (length : LengthCode) :
    part.carries length = if part = .whole then length != 3#2 else length == 3#2 := by
  cases part <;> rfl

/-- Settles O29: the operands, the checks of R70 in turn, and the capture of R71. -/
theorem writeRecordCaptures : Obligations.WriteRecordCaptures := by
  refine ⟨?_, fun tag ops s hs hbad => ?_⟩
  · rintro tag ops i e s p hs hi rfl hp
    rw [← State.emptyStaging_eq_ite] at hp
    subst hp
    intro badState captures
    have hentry := s.emptyStaging_activeEntry ops i
    have hunfit : ∀ part : RecordPart, recordPart? ops[1] = some part →
        ((s.activeEntry i).keepsRecord && part.carries (s.activeEntry i).length) = false → badState := fun part hpart h =>
      recordAnswers_writeRecord (a := Answer.plain .badState) hs hi hpart
        (writeRecordPart_unfit (by rwa [hentry])) nofun
    have hcaptures : ∀ part data, recordPart? ops[1] = some part →
        writeRecordPart ops (s.store.stagedFor i) i part (s.emptyStaging ops).receiveRecord =
          (s.emptyStaging ops).receiveRecord.managementCapture i data → captures data := fun part data hpart h => by
      rw [State.managementCapture_receiveRecord, hentry, State.emptyStaging_record, State.emptyStaging_tickCount] at h
      exact recordAnswers_writeRecord hs hi hpart h nofun
    have hfit : ∀ part : RecordPart, ((s.activeEntry i).keepsRecord && part.carries (s.activeEntry i).length) = true →
        (((s.emptyStaging ops).activeEntry i).keepsRecord &&
          part.carries ((s.emptyStaging ops).activeEntry i).length) = true := fun part h => by rwa [hentry]
    refine ⟨fun hrange hkeeps => ?_, fun hkeeps => ⟨fun hpart hlength => ?_, fun hpart hlength => ?_,
      fun hpart hlength hstaged => ?_, fun hpart hlength => ?_, fun hpart hlength => ?_,
      fun first hpart hlength hstaged => ?_⟩⟩
    · obtain ⟨part, hpart⟩ := recordPart?_of_le hrange
      exact hunfit part hpart (by rw [hkeeps, Bool.false_and])
    · exact hunfit .whole (recordPart?_whole hpart) (by simp [RecordPart.carries_eq, hlength])
    · obtain hpart | hpart := hpart
      · exact hunfit .firstHalf (recordPart?_firstHalf hpart) (by simp [RecordPart.carries_eq, hlength])
      · exact hunfit .secondHalf (recordPart?_secondHalf hpart) (by simp [RecordPart.carries_eq, hlength])
    · refine recordAnswers_writeRecord (a := Answer.plain .badState) hs hi (recordPart?_secondHalf hpart) ?_ nofun
      rw [RecordStore.stagedFor_eq_none hstaged, writeRecordPart_secondHalf_alone]
    · have hkept : s.emptyStaging ops = s := by
        rw [State.emptyStaging_eq_ite, hpart]
        rfl
      rw [← opBytes_eq_take_drop ops 2 8 (by omega)]
      refine recordAnswers_writeRecord
        (t := s.mapStore fun st => { st with staging := some { index := i, bytes := opBytes ops 4 8 } })
        (a := { outcome := .done, data := [BitVec.ofNat 8 i.val] }) hs hi (recordPart?_firstHalf hpart) ?_ nofun
      rw [hkept]
      exact writeRecordPart_firstHalf (by simp [RecordPart.carries_eq, hlength, hkeeps])
    · have hbytes : (s.activeEntry i).bytes + 2 ≤ 14 := by
        have hsmall : ∀ l : LengthCode, l ≠ 3#2 → dataBytes l + 2 ≤ 14 := by decide
        exact hsmall _ hlength
      refine hcaptures .whole _ (recordPart?_whole hpart) ?_
      rw [writeRecordPart_whole (hfit .whole (by simp [RecordPart.carries_eq, hlength, hkeeps])),
        ← opBytes_eq_take_drop ops 2 _ (by omega), hentry]
    · refine hcaptures .secondHalf _ (recordPart?_secondHalf hpart) ?_
      rw [RecordStore.stagedFor_eq_some hstaged, ← opBytes_eq_take_drop ops 2 8 (by omega),
        writeRecordPart_secondHalf (hfit .secondHalf (by simp [RecordPart.carries_eq, hlength, hkeeps]))]
  · rw [← State.emptyStaging_eq_ite]
    refine recordAnswers_executed (a := Answer.plain .badOperand) hs (exec_writeRecord tag ops) ?_ nofun
    rw [writeRecordOwner, withOperand_none (recordOperands_eq_none hbad), State.emptyStaging_receiveRecord]

end Sys2Proof.Machine

/-! PROOFS. Commands of the branch link controller, of the loopback test and of the configuration store (O46, O47, O49,
O52 to O54). -/

namespace Sys2Proof.Machine

/-! ## What the rows hand to the agent -/

theorem exec_setLine (tag : Byte) (ops : Operands) (line : Wave) (u : State) :
    exec (.setLine tag ⟨ops, line⟩) u =
      .next (takeCommand 0x40#8 tag ⟨ops, line⟩
        (withOperand (lineOperands ops) fun l t =>
          if t.link.state.inTransaction then (t, Answer.plain .busy) else (t.writeLine l, Answer.plain .done)) u) :=
  rfl

theorem exec_releaseLink (tag : Byte) (ops : Operands) (line : Wave) (u : State) :
    exec (.releaseLink tag ⟨ops, line⟩) u =
      .next (takeCommand 0x41#8 tag ⟨ops, line⟩
        (fun t =>
          if t.link.state.isQuarantine then (t.releaseQuarantine, Answer.plain .done)
          else (t, Answer.plain .badState)) u) :=
  rfl

theorem exec_sleepBranch (tag : Byte) (ops : Operands) (line : Wave) (u : State) :
    exec (.sleepBranch tag ⟨ops, line⟩) u = .next (takeCommand 0x50#8 tag ⟨ops, line⟩ sleepOwner u) :=
  rfl

theorem exec_wakeBranch (tag : Byte) (ops : Operands) (line : Wave) (u : State) :
    exec (.wakeBranch tag ⟨ops, line⟩) u = .next (takeCommand 0x51#8 tag ⟨ops, line⟩ wakeOwner u) :=
  rfl

theorem exec_testKey (tag : Byte) (ops : Operands) (line : Wave) (u : State) :
    exec (.testKey tag ⟨ops, line⟩) u =
      .next (takeCommand 0x52#8 tag ⟨ops, line⟩ (testKeyOwner u.agent.keyState (opByte ops 2)) u) :=
  rfl

theorem exec_testExit (tag : Byte) (ops : Operands) (line : Wave) (u : State) :
    exec (.testExit tag ⟨ops, line⟩) u = .next (takeCommand 0x53#8 tag ⟨ops, line⟩ testExitOwner u) :=
  rfl

theorem exec_saveConfig (tag : Byte) (ops : Operands) (line : Wave) (u : State) :
    exec (.saveConfig tag ⟨ops, line⟩) u =
      .next (takeCommand 0x60#8 tag ⟨ops, line⟩
        (fun t => if t.editHeld then (t, Answer.plain .busy) else (t.beginSave, Answer.plain .pending)) u) :=
  rfl

theorem exec_loadConfig (tag : Byte) (ops : Operands) (line : Wave) (u : State) :
    exec (.loadConfig tag ⟨ops, line⟩) u = .next (takeCommand 0x61#8 tag ⟨ops, line⟩ loadOwner u) :=
  rfl

/-! ## Quarantine (R120, R121) -/

theorem State.releaseQuarantine_receiveRecord (s : State) :
    s.receiveRecord.releaseQuarantine = s.releaseQuarantine.receiveRecord := by
  have hlink : (s.receiveRecord.mapLink fun c => { c with state := .idle, score := 0#8, hold := 0#8, sampling := false }) =
      (s.mapLink fun c => { c with state := .idle, score := 0#8, hold := 0#8, sampling := false }).receiveRecord := rfl
  rw [State.releaseQuarantine, hlink, State.reOffer_receiveRecord, State.takeOffered_receiveRecord,
    State.releaseQuarantine]

theorem releaseOwner_quarantine {s : State} (h : s.link.state = .quarantine) :
    (if s.receiveRecord.link.state.isQuarantine then (s.receiveRecord.releaseQuarantine, Answer.plain .done)
      else (s.receiveRecord, Answer.plain .badState)) =
      (s.releaseQuarantine.receiveRecord, Answer.plain .done) := by
  rw [State.receiveRecord_link, LinkState.isQuarantine_iff.2 h, if_pos rfl, State.releaseQuarantine_receiveRecord]

theorem majority_eq_true_iff (a b c : Bool) :
    majority a b c = true ↔ a = true ∧ b = true ∨ a = true ∧ c = true ∨ b = true ∧ c = true := by
  revert a b c
  decide

theorem majority_eq_false_iff (a b c : Bool) :
    majority a b c = false ↔ a = false ∧ b = false ∨ a = false ∧ c = false ∨ b = false ∧ c = false := by
  revert a b c
  decide

theorem exec_quarantineSample_taken {a b c : Bool} {s : State} (hrun : s.power = .running)
    (hstate : s.link.state = .quarantine) (hsampling : s.link.sampling = true) :
    exec (.quarantineSample a b c) s = .next (s.decideSample (majority a b c)) := by
  have hrow : exec (.quarantineSample a b c) s = execQuarantineSample a b c s := rfl
  rw [hrow, execQuarantineSample, if_pos (by simp [s.isRunning_iff.mpr hrun, hstate, hsampling, LinkState.isQuarantine])]

/-- Settles O46: the release by command and by the third sample. -/
theorem quarantineReleased : Obligations.QuarantineReleased := by
  rintro tag ops s p hrun rfl
  refine ⟨fun hs => ⟨fun hstate => ?_, fun hstate => ?_⟩, fun hstate hsampling a b c => ⟨fun hhigh => ?_, fun hlow => ?_⟩⟩
  · exact recordAnswers_executed (t := s.releaseQuarantine) (a := Answer.plain .done) hs (exec_releaseLink tag ops)
      (releaseOwner_quarantine hstate) nofun
  · exact recordAnswers_executed (t := s) (a := Answer.plain .badState) hs (exec_releaseLink tag ops)
      (if_neg (mt LinkState.isQuarantine_iff.1 hstate)) nofun
  · rw [exec_quarantineSample_taken hrun hstate hsampling, (majority_eq_true_iff a b c).2 hhigh,
      State.decideSample, if_pos rfl, State.releaseQuarantine, State.mapLink]
  · rw [exec_quarantineSample_taken hrun hstate hsampling, (majority_eq_false_iff a b c).2 hlow]
    rfl

/-! ## SET_LINE (R124, R125) -/

theorem breakOperand_eq_none {b : Byte} (h : 1 < b.toNat) : breakOperand b = none := by
  have h0 : b ≠ 0#8 := by rintro rfl; simp at h
  have h1 : b ≠ 1#8 := by rintro rfl; simp at h
  rw [breakOperand, if_neg h0, if_neg h1]

theorem policyOperand_eq_none {b : Byte} (h : 1 < b.toNat) : policyOperand b = none := by
  have h0 : b ≠ 0#8 := by rintro rfl; simp at h
  have h1 : b ≠ 1#8 := by rintro rfl; simp at h
  rw [policyOperand, if_neg h0, if_neg h1]

theorem lineOperands_eq (ops : Operands) :
    lineOperands ops =
      (breakOperand ops[1]).bind fun breakLength => (policyOperand ops[2]).bind fun policy =>
        if ops[0].toNat ≤ 3 ∧ 1 ≤ ops[3].toNat ∧ 1 ≤ ops[4].toNat ∧ ops[4].toNat ≤ 20 ∧ 1 ≤ ops[5].toNat then
          some
            { rate := ops[0].setWidth 2, breakLength := breakLength, policy := policy, qhold := ops[3],
              wakeLen := ops[4], settleLen := ops[5] }
        else none := by
  rw [lineOperands, opByte_eq_getElem ops 0 (by omega), opByte_eq_getElem ops 1 (by omega),
    opByte_eq_getElem ops 2 (by omega), opByte_eq_getElem ops 3 (by omega), opByte_eq_getElem ops 4 (by omega),
    opByte_eq_getElem ops 5 (by omega)]
  cases breakOperand ops[1] <;> cases policyOperand ops[2] <;> rfl

theorem lineOperands_eq_some {ops : Operands} {l : LineSettings} (hrate : ops[0].toNat = l.rate.toNat)
    (hbreak : ops[1] = (match l.breakLength with | .bits13 => 0#8 | .bits17 => 1#8))
    (hpolicy : ops[2] = (match l.policy with | .auto => 0#8 | .hold => 1#8)) (hqhold : ops[3] = l.qhold)
    (hwake : ops[4] = l.wakeLen) (hsettle : ops[5] = l.settleLen) (hqhold0 : l.qhold ≠ 0#8)
    (hwake1 : 1 ≤ l.wakeLen.toNat) (hwake20 : l.wakeLen.toNat ≤ 20) (hsettle0 : l.settleLen ≠ 0#8) :
    lineOperands ops = some l := by
  have hbreak' : breakOperand ops[1] = some l.breakLength := by
    rw [hbreak]
    cases l.breakLength <;> rfl
  have hpolicy' : policyOperand ops[2] = some l.policy := by
    rw [hpolicy]
    cases l.policy <;> rfl
  have hrate' : ops[0].setWidth 2 = l.rate := by
    apply BitVec.eq_of_toNat_eq
    rw [BitVec.toNat_setWidth, hrate, Nat.mod_eq_of_lt l.rate.isLt]
  have hlt := l.rate.isLt
  have hq : 1 ≤ l.qhold.toNat := by bv_omega
  have hset : 1 ≤ l.settleLen.toNat := by bv_omega
  rw [lineOperands_eq, hbreak', hpolicy', Option.bind_some, Option.bind_some, hqhold, hwake, hsettle, hrate',
    if_pos (by omega)]

theorem lineOperands_eq_none {ops : Operands}
    (h : 3 < ops[0].toNat ∨ 1 < ops[1].toNat ∨ 1 < ops[2].toNat ∨ ops[3].toNat = 0 ∨ ops[4].toNat = 0 ∨
      20 < ops[4].toNat ∨ ops[5].toNat = 0) : lineOperands ops = none := by
  rw [lineOperands_eq]
  by_cases hbreak : 1 < ops[1].toNat
  · rw [breakOperand_eq_none hbreak, Option.bind_none]
  by_cases hpolicy : 1 < ops[2].toNat
  · rw [policyOperand_eq_none hpolicy]
    cases breakOperand ops[1] <;> rfl
  have hrange : ¬ (ops[0].toNat ≤ 3 ∧ 1 ≤ ops[3].toNat ∧ 1 ≤ ops[4].toNat ∧ ops[4].toNat ≤ 20 ∧ 1 ≤ ops[5].toNat) := by
    omega
  simp only [if_neg hrange]
  cases breakOperand ops[1] <;> cases policyOperand ops[2] <;> rfl

theorem LineSettings.holdOnEntry_eq (l : LineSettings) :
    l.holdOnEntry = match l.policy with | .auto => l.qhold | .hold => 0#8 :=
  rfl

/-- Settles O47: the operands, the state of the link, and the change of policy in QUARANTINE. -/
theorem setLineWritesSixSettings : Obligations.SetLineWritesSixSettings := by
  refine ⟨fun tag ops l s hs hrate hbreak hpolicy hqhold hwake hsettle hqhold0 hwake1 hwake20 hsettle0 => ?_,
    fun tag ops s hs hbad => ?_⟩
  · have hops := lineOperands_eq_some hrate hbreak hpolicy hqhold hwake hsettle hqhold0 hwake1 hwake20 hsettle0
    have howner := withOperand_some hops (fun l t =>
      if t.link.state.inTransaction then (t, Answer.plain .busy) else (State.writeLine l t, Answer.plain .done))
      s.receiveRecord
    rw [State.receiveRecord_link] at howner
    refine ⟨fun hframe => ?_, fun hfree => ?_⟩
    · rw [hframe, if_pos rfl] at howner
      exact recordAnswers_executed (a := Answer.plain .busy) hs (exec_setLine tag ops) howner nofun
    · rw [hfree, if_neg nofun] at howner
      have hwrites := recordAnswers_executed (t := s.writeLine l) (a := Answer.plain .done) hs (exec_setLine tag ops)
        howner nofun
      refine ⟨fun hsame => ?_, fun hquarantine hpolicies => ?_⟩
      · have hplain : s.link.withLine l = { s.link with line := l } := by
          refine if_neg ?_
          rw [LinkState.isQuarantine_iff]
          rintro ⟨hquarantine, hpolicies⟩
          exact hsame.elim (fun h => h hquarantine) hpolicies
        rw [State.writeLine, State.mapLink, hplain] at hwrites
        exact hwrites
      · have hchanged : s.link.withLine l = { s.link with line := l, hold := l.holdOnEntry, sampling := false } :=
          if_pos ⟨LinkState.isQuarantine_iff.2 hquarantine, hpolicies⟩
        rw [State.writeLine, State.mapLink, hchanged] at hwrites
        exact hwrites
  · exact recordAnswers_executed (a := Answer.plain .badOperand) hs (exec_setLine tag ops)
      (withOperand_none (lineOperands_eq_none hbad) _ _) nofun

/-! ## SLEEP_BRANCH (R138) -/

theorem LinkState.inTransaction_iff {l : LinkState} :
    l.inTransaction = true ↔ (∃ t, l = .header t) ∨ (∃ t, l = .replyWait t) ∨ ∃ t, l = .dataOut t := by
  cases l <;> simp [LinkState.inTransaction, LinkState.transaction]

theorem sleepOwner_idle {s : State} (hmode : s.link.mode = .normal) (hstate : s.link.state = .idle) :
    sleepOwner s.receiveRecord = (s.beginSleepFrame.receiveRecord, Answer.plain .pending) := by
  simp only [sleepOwner, State.receiveRecord_link, hmode, hstate]
  rfl

/-- Behind a transaction or a gap the sleep frame waits. -/
theorem sleepOwner_later {s : State} (hmode : s.link.mode = .normal)
    (hstate : (∃ rate, s.link.state = .gap rate) ∨ s.link.state.inTransaction = true) :
    sleepOwner s.receiveRecord =
      ((s.mapLink fun c => { c with sleepFramePending := true }).receiveRecord, Answer.plain .pending) := by
  rw [LinkState.inTransaction_iff] at hstate
  obtain ⟨x, h⟩ | ⟨x, h⟩ | ⟨x, h⟩ | ⟨x, h⟩ := hstate
  all_goals
    simp only [sleepOwner, State.receiveRecord_link, hmode, h]
    rfl

theorem sleepOwner_asleep {s : State} (hmode : s.link.mode = .normal) (hstate : s.link.state = .asleep) :
    sleepOwner s.receiveRecord = (s.receiveRecord, Answer.plain .done) := by
  simp only [sleepOwner, State.receiveRecord_link, hmode, hstate]

theorem sleepOwner_badState {s : State}
    (h : s.link.mode = .loopback ∨ s.link.state = .quarantine ∨ s.link.state = .wakeSettle) :
    sleepOwner s.receiveRecord = (s.receiveRecord, Answer.plain .badState) := by
  unfold sleepOwner
  rw [State.receiveRecord_link]
  cases hmode : s.link.mode with
  | loopback => rfl
  | normal =>
    rw [hmode] at h
    obtain h | h | h := h
    · cases h
    all_goals rw [h]

/-- Settles O49: the owner's cases, by mode and link state. -/
theorem sleepBranchByState : Obligations.SleepBranchByState := by
  intro tag ops s hs
  refine ⟨fun hmode hstate => ?_, fun hmode hstate => ?_, fun hmode hstate => ?_, fun hstate => ?_⟩
  · exact recordAnswers_executedPending hs (exec_sleepBranch tag ops) (sleepOwner_idle hmode hstate)
  · exact recordAnswers_executedPending hs (exec_sleepBranch tag ops) (sleepOwner_later hmode hstate)
  · exact recordAnswers_executed hs (exec_sleepBranch tag ops) (sleepOwner_asleep hmode hstate) nofun
  · exact recordAnswers_executed hs (exec_sleepBranch tag ops) (sleepOwner_badState hstate) nofun

/-! ## TEST_KEY and TEST_EXIT (R146, R147, R150) -/

/-- A COMMAND row whose owner looks at the agent before the record is received. -/
theorem recordAnswers_of_ownerOf {code tag : Byte} {ops : Operands} {row : HeardOperands → Instr}
    {owner : Agent → State → State × Answer} {s t : State} {a : Answer} (hs : AcceptsRecord s)
    (hrow : ∀ line u, exec (row ⟨ops, line⟩) u = .next (takeCommand code tag ⟨ops, line⟩ (owner u.agent) u))
    (howner : owner s.agent s.receiveRecord = (t, a)) : RecordAnswers code tag ops row s (t.recordAnswer code tag a) := by
  intro line u heard
  have hsame : u.agent = s.agent := by
    obtain ⟨r, -, rfl⟩ := heard
    rfl
  obtain ⟨hpower, hport⟩ := HearsRecord.power_port heard
  obtain ⟨hrun, hcaptures, -⟩ := id hs
  rw [hrow, hsame, takeCommand, takeCommandThen_heard (hpower.trans hrun) (hport ▸ hcaptures) heard, takeRecord,
    hs.refusesRecord, howner]
  rfl

/-- TEST_KEY by the sequence state of its moment. -/
theorem recordAnswers_testKey {tag : Byte} {ops : Operands} {s t : State} {a : Answer} (hs : AcceptsRecord s)
    (howner : testKeyOwner s.agent.keyState ops[0] s.receiveRecord = (t, a)) :
    RecordAnswers 0x52#8 tag ops (.testKey tag) s (t.recordAnswer 0x52#8 tag a) := by
  rw [← opByte_eq_getElem ops 0 (by omega)] at howner
  exact recordAnswers_of_ownerOf (owner := fun g => testKeyOwner g.keyState (opByte ops 2)) hs (exec_testKey tag ops)
    howner

theorem keyStep_first (k : KeyState) : keyStep k 0x3C#8 = some (.key1, .keyAccepted) :=
  if_pos rfl

theorem keyStep_second : keyStep .key1 0xC3#8 = some (.key2, .keyAccepted) :=
  rfl

theorem keyStep_third : keyStep .key2 0x5A#8 = none :=
  rfl

/-- Any other key begins the sequence anew (R146). -/
theorem keyStep_restart {k : KeyState} {key : Byte} (hfirst : key ≠ 0x3C#8) (hsecond : ¬ (k = .key1 ∧ key = 0xC3#8))
    (hthird : ¬ (k = .key2 ∧ key = 0x5A#8)) : keyStep k key = some (.none, .keyRestart) := by
  refine (if_neg hfirst).trans ?_
  cases k with
  | none => rfl
  | key1 => exact if_neg fun h => hsecond ⟨rfl, h⟩
  | key2 => exact if_neg fun h => hthird ⟨rfl, h⟩

theorem testKeyOwner_step {k k' : KeyState} {key : Byte} {o : CommandOutcome} (h : keyStep k key = some (k', o))
    (s : State) :
    testKeyOwner k key s =
      (s.mapAgent fun g => { g with keyState := k' }, { outcome := o, data := [k'.code.setWidth 8] }) := by
  rw [testKeyOwner, h]

theorem testKeyOwner_third {k : KeyState} {key : Byte} (h : keyStep k key = none) (s : State) :
    testKeyOwner k key s = enterLoopback s := by
  rw [testKeyOwner, h]

theorem enterLoopback_entered {s : State} (hstate : s.link.state = .idle) (hqueue : s.sched.queue = []) :
    enterLoopback s.receiveRecord =
      ((s.mapLink fun c => { c with mode := .loopback, outsideLow := none }).receiveRecord,
        { outcome := .done, data := [0#8] }) := by
  rw [enterLoopback, State.receiveRecord_link, State.receiveRecord_sched, hstate, hqueue]
  rfl

theorem enterLoopback_refused {s : State} (h : s.link.state ≠ .idle ∨ s.sched.queue ≠ []) :
    enterLoopback s.receiveRecord = (s.receiveRecord, { outcome := .badState, data := [0#8] }) := by
  refine if_neg ?_
  rw [State.receiveRecord_link, State.receiveRecord_sched, Bool.and_eq_true, List.isEmpty_iff]
  rintro ⟨hidle, hempty⟩
  have hstate : s.link.state = .idle := by
    revert hidle
    cases s.link.state <;> simp [LinkState.isIdle]
  exact h.elim (fun h => h hstate) fun h => h hempty

theorem testExitOwner_normal {s : State} (hmode : s.link.mode = .normal) :
    testExitOwner s.receiveRecord = (s.receiveRecord, Answer.plain .badState) := by
  simp only [testExitOwner, State.receiveRecord_link, hmode]

theorem testExitOwner_left {s : State} (hmode : s.link.mode = .loopback)
    (hstate : s.link.state = .idle ∨ ∃ rate, s.link.state = .gap rate) :
    testExitOwner s.receiveRecord =
      ((s.mapLink fun c => { c with mode := .normal, state := .idle }).takeOffered.receiveRecord,
        Answer.plain .done) := by
  have hlink : (s.receiveRecord.mapLink fun c => { c with mode := .normal, state := .idle }) =
      (s.mapLink fun c => { c with mode := .normal, state := .idle }).receiveRecord := rfl
  rw [← State.takeOffered_receiveRecord, ← hlink]
  obtain h | ⟨rate, h⟩ := hstate
  all_goals simp only [testExitOwner, State.receiveRecord_link, hmode, h]

theorem testExitOwner_busy {s : State} (hmode : s.link.mode = .loopback) (hstate : s.link.state.inTransaction = true) :
    testExitOwner s.receiveRecord = (s.receiveRecord, Answer.plain .busy) := by
  rw [LinkState.inTransaction_iff] at hstate
  obtain ⟨t, h⟩ | ⟨t, h⟩ | ⟨t, h⟩ := hstate
  all_goals simp only [testExitOwner, State.receiveRecord_link, hmode, h]

/-- Settles O52: the key sequence, the entry into LOOPBACK and the exit. -/
theorem loopbackEntryAndExit : Obligations.LoopbackEntryAndExit := by
  refine ⟨fun tag ops s hs => ⟨fun hkey => ?_, fun hstate hkey => ?_, fun hfirst hsecond hthird => ?_,
    fun hstate hkey => ⟨fun hidle hempty => ?_, fun hbusy => ?_⟩⟩,
    fun tag ops s hs => ⟨fun hmode => ?_, fun hmode => ⟨fun hstate => ?_, fun hstate => ?_⟩⟩⟩
  · exact recordAnswers_testKey hs (hkey ▸ testKeyOwner_step (keyStep_first _) _)
  · exact recordAnswers_testKey hs (hstate ▸ hkey ▸ testKeyOwner_step keyStep_second _)
  · exact recordAnswers_testKey hs (testKeyOwner_step (keyStep_restart hfirst hsecond hthird) _)
  · refine recordAnswers_testKey hs (t := (s.mapLink fun c => { c with mode := .loopback, outsideLow := none }).receiveRecord)
      (a := { outcome := .done, data := [0#8] }) ?_
    rw [hstate, hkey, testKeyOwner_third keyStep_third, enterLoopback_entered hidle hempty]
  · refine recordAnswers_testKey hs (t := s.receiveRecord) (a := { outcome := .badState, data := [0#8] }) ?_
    rw [hstate, hkey, testKeyOwner_third keyStep_third, enterLoopback_refused hbusy]
  · exact recordAnswers_executed hs (exec_testExit tag ops) (testExitOwner_normal hmode) nofun
  · exact recordAnswers_executed hs (exec_testExit tag ops) (testExitOwner_left hmode hstate) nofun
  · exact recordAnswers_executed hs (exec_testExit tag ops) (testExitOwner_busy hmode hstate) nofun

/-! ## The configuration store (R169, R171) -/

theorem exec_saveComplete_verified {c : ImageContents} {count : Word16} {s : State} (hrun : s.power = .running)
    (hstore : s.config.store = .saving c count) :
    exec (.saveComplete true) s =
      .next ((s.mapConfig fun g => { g with image := .written c c.integrityWord, store := .valid }).finishPending 0x60#8
        { outcome := .done, data := word16Bytes c.integrityWord ++ word16Bytes count }) := by
  have hrow : exec (.saveComplete true) s = execSaveComplete true s := rfl
  simp only [hrow, execSaveComplete, s.isRunning_iff.mpr hrun, hstore, if_true]
  rfl

theorem exec_saveComplete_failed {c : ImageContents} {count : Word16} {s : State} (hrun : s.power = .running)
    (hstore : s.config.store = .saving c count) :
    exec (.saveComplete false) s =
      .next (((s.mapConfig fun g => { g with image := .unmatched, store := .invalid }).setFlag
        .storeFailed).finishPending 0x60#8 (Answer.plain .storeFailed)) := by
  have hrow : exec (.saveComplete false) s = execSaveComplete false s := rfl
  simp only [hrow, execSaveComplete, s.isRunning_iff.mpr hrun, hstore]
  rfl

theorem exec_loadComplete_written {c : ImageContents} {word : Word16} {s : State} (hrun : s.power = .running)
    (hstore : s.config.store = .loading) (himage : s.config.image = .written c word) :
    exec .loadComplete s =
      .next (((s.applyLoad c).mapConfig fun g => { g with store := .valid }).finishPending 0x61#8
        { outcome := .done, data := word16Bytes word }) := by
  have hrow : exec .loadComplete s = execLoadComplete s := rfl
  simp only [hrow, execLoadComplete, s.isRunning_iff.mpr hrun, hstore, himage]
  rfl

/-- The command that holds the slot completes (R153). -/
theorem State.finishPending_eq_completed {s : State} {code tag : Byte} (h : s.agent.slot = some { code := code, tag := tag })
    (a : Answer) : s.finishPending code a = completed a.outcome a.data s := by
  rw [State.finishPending_of_held (State.slotHeldBy_iff.2 ⟨_, h, rfl⟩)]
  rfl

theorem saveOwner_held {s : State} (h : EditHeld s) :
    (if s.receiveRecord.editHeld then (s.receiveRecord, Answer.plain .busy)
      else (s.receiveRecord.beginSave, Answer.plain .pending)) =
      (s.receiveRecord, Answer.plain .busy) :=
  if_pos (by rwa [State.editHeld_receiveRecord, State.editHeld_iff])

theorem saveOwner_free {s : State} (h : ¬ EditHeld s) :
    (if s.receiveRecord.editHeld then (s.receiveRecord, Answer.plain .busy)
      else (s.receiveRecord.beginSave, Answer.plain .pending)) =
      (s.beginSave.receiveRecord, Answer.plain .pending) :=
  if_neg (by rwa [State.editHeld_receiveRecord, State.editHeld_iff])

/-- Settles O53: the save, its completion with either verify, and what a start finds. -/
theorem saveConfigAndItsCompletion : Obligations.SaveConfigAndItsCompletion := by
  refine ⟨fun tag ops s hs => ⟨fun hheld => ?_, fun hfree => ?_⟩,
    fun c count tag s hrun hstore hslot => ⟨?_, ?_⟩, fun c => ⟨if_pos rfl, rfl⟩⟩
  · exact recordAnswers_executed hs (exec_saveConfig tag ops) (saveOwner_held hheld) nofun
  · exact recordAnswers_executedPending hs (exec_saveConfig tag ops) (saveOwner_free hfree)
  · have hheld : (s.mapConfig fun g => { g with image := .written c c.integrityWord, store := .valid }).agent.slot =
        some { code := 0x60#8, tag := tag } := hslot
    rw [exec_saveComplete_verified hrun hstore, State.finishPending_eq_completed hheld]
    rfl
  · have hheld : ((s.mapConfig fun g => { g with image := .unmatched, store := .invalid }).setFlag
        .storeFailed).agent.slot = some { code := 0x60#8, tag := tag } := hslot
    rw [exec_saveComplete_failed hrun hstore, State.finishPending_eq_completed hheld]
    rfl

theorem loadOwner_held {s : State} (h : EditHeld s) : loadOwner s.receiveRecord = (s.receiveRecord, Answer.plain .busy) :=
  if_pos (by rwa [State.editHeld_receiveRecord, State.editHeld_iff])

theorem loadOwner_invalid {s : State} (h : ¬ EditHeld s) (hstore : s.config.store = .invalid) :
    loadOwner s.receiveRecord = (s.receiveRecord, Answer.plain .badState) := by
  rw [loadOwner, if_neg (by rwa [State.editHeld_receiveRecord, State.editHeld_iff]), State.receiveRecord_config, hstore]

theorem loadOwner_valid {s : State} (h : ¬ EditHeld s) (hstore : s.config.store = .valid) :
    loadOwner s.receiveRecord =
      ((s.mapConfig fun c => { c with store := .loading }).receiveRecord, Answer.plain .pending) := by
  rw [loadOwner, if_neg (by rwa [State.editHeld_receiveRecord, State.editHeld_iff]), State.receiveRecord_config, hstore]
  rfl

/-- The line settings as a load writes them, with the effects of SET_LINE (R125, R171). -/
theorem LinkController.withLine_eq (l : LineSettings) (c : LinkController) :
    c.withLine l =
      if c.state = .quarantine ∧ c.line.policy ≠ l.policy then
        { c with line := l, hold := l.holdOnEntry, sampling := false }
      else { c with line := l } := by
  simp only [LinkController.withLine, LinkState.isQuarantine_iff]

/-- Settles O54: the load and its completion. -/
theorem loadReplacesEditBank : Obligations.LoadReplacesEditBank := by
  refine ⟨fun tag ops s hs => ⟨fun hheld => ?_, fun hfree hstore => ?_, fun hfree hstore => ?_⟩,
    fun c word tag s hrun hstore himage hslot => ?_⟩
  · exact recordAnswers_executed hs (exec_loadConfig tag ops) (loadOwner_held hheld) nofun
  · exact recordAnswers_executed hs (exec_loadConfig tag ops) (loadOwner_invalid hfree hstore) nofun
  · exact recordAnswers_executedPending hs (exec_loadConfig tag ops) (loadOwner_valid hfree hstore)
  · have hheld : ((s.applyLoad c).mapConfig fun g => { g with store := .valid }).agent.slot =
        some { code := 0x61#8, tag := tag } := hslot
    rw [exec_loadComplete_written hrun hstore himage, State.finishPending_eq_completed hheld, State.applyLoad,
      State.writeLine, State.mapLink, LinkController.withLine_eq]
    rfl

end Sys2Proof.Machine

/-! PROOFS. The branch queue: departures, offers and re-offers (O34 to O36). -/

namespace Sys2Proof.Machine

/-! ## Departures (R93) -/

/-- What is left of the work when one entry's is removed, before the refill. -/
def Scheduler.without (q : Scheduler) (e : EntryIndex) : Scheduler :=
  { q with queue := q.queue.filter fun x => x.entry != e, deferred := q.deferred.filter fun d => d.entry != e }

theorem State.removeWork_one (e : EntryIndex) (s : State) :
    s.removeWork (fun j => j == e) = { s with sched := Scheduler.refill s.priorityOf (s.sched.without e) } :=
  rfl

theorem filter_entry_ne {α : Type} {key : α → EntryIndex} {l : List α} {e : EntryIndex} (h : ∀ x ∈ l, key x ≠ e) :
    l.filter (fun x => key x != e) = l :=
  List.filter_eq_self.2 fun x hx => bne_iff_ne.2 (h x hx)

/-- Where no two elements have the same key, one departs with a key that is there. -/
theorem length_filter_entry_ne {α : Type} {key : α → EntryIndex} {l : List α} {x : α} {e : EntryIndex}
    (hnodup : (l.map key).Nodup) (hx : x ∈ l) (he : key x = e) :
    (l.filter fun y => key y != e).length + 1 = l.length := by
  have hcount : l.countP (fun y => key y == e) = 1 := by
    have hmem : e ∈ l.map key := he ▸ List.mem_map_of_mem hx
    rw [← List.count_eq_one_of_mem hnodup hmem, List.count, List.countP_map]
    rfl
  have hsum := List.length_eq_countP_add_countP (fun y => key y == e) (l := l)
  rw [hcount, List.countP_eq_length_filter] at hsum
  have hsame : (l.filter fun y => key y != e) = l.filter fun y => decide ¬ (key y == e) = true := by
    refine List.filter_congr fun y _ => ?_
    cases hkey : key y == e <;> simp [bne, hkey]
  rw [hsame]
  omega

/-- Nothing refills a full queue, and nothing can refill where nothing is deferred. -/
theorem Scheduler.refill_of_idle (priority : EntryIndex → BitVec 2) {q : Scheduler}
    (h : q.deferred = [] ∨ 16 ≤ q.queue.length) : Scheduler.refill priority q = q := by
  have htake : q.deferred.take (16 - q.queue.length) = [] := by
    obtain hnone | hfull := h
    · rw [hnone, List.take_nil]
    · rw [Nat.sub_eq_zero_of_le hfull, List.take_zero]
  have hdrop : q.deferred.drop (16 - q.queue.length) = q.deferred := by
    obtain hnone | hfull := h
    · rw [hnone, List.drop_nil]
    · rw [Nat.sub_eq_zero_of_le hfull, List.drop_zero]
  rw [Scheduler.refill_eq, htake, hdrop]
  simp

/-- One free place takes one element. -/
theorem Scheduler.refill_one (priority : EntryIndex → BitVec 2) {q : Scheduler} {d : DeferredElement}
    {rest : List DeferredElement} (hdeferred : q.deferred = d :: rest) (hlength : q.queue.length = 15) :
    Scheduler.refill priority q =
      { q with
        queue :=
          q.queue ++
            [{ entry := d.entry, op := d.op, origin := d.origin, cls := priority d.entry, seq := q.seqCounter }]
        deferred := rest
        seqCounter := q.seqCounter + 1#16 } := by
  rw [Scheduler.refill_eq, hdeferred, hlength]
  simp

/-- Settles O35: the queue loses an item and the first deferred element takes its place; an element leaves no place. -/
theorem departureRefillsQueue : Obligations.DepartureRefillsQueue := by
  rintro e s ⟨-, hnodup, -, hdisjoint, hfull⟩
  refine ⟨?_, fun hnone => ?_⟩
  · rintro it hit rfl q rfl
    have hothers : s.sched.deferred.filter (fun d => d.entry != it.entry) = s.sched.deferred :=
      filter_entry_ne fun d hd => (hdisjoint d hd it hit).symm
    rw [State.removeWork_one]
    refine ⟨fun hempty => ?_, fun d rest hdeferred => ?_⟩
    · rw [Scheduler.refill_of_idle (q := s.sched.without it.entry) _ (.inl (hothers.trans hempty)), Scheduler.without,
        hothers]
    · have hlength := length_filter_entry_ne hnodup hit rfl
      rw [hfull (by rw [hdeferred]; nofun)] at hlength
      rw [Scheduler.refill_one (q := s.sched.without it.entry) _ (hothers.trans hdeferred) (Nat.succ_injective hlength)]
      rfl
  · have hitems : s.sched.queue.filter (fun x => x.entry != e) = s.sched.queue := filter_entry_ne hnone
    have hidle : (s.sched.without e).deferred = [] ∨ 16 ≤ (s.sched.without e).queue.length := by
      by_cases hempty : s.sched.deferred = []
      · exact .inl (by rw [Scheduler.without, hempty]; rfl)
      · exact .inr (by rw [Scheduler.without, hitems]; exact (hfull hempty).ge)
    rw [State.removeWork_one, Scheduler.refill_of_idle _ hidle, Scheduler.without, hitems]

/-! ## The offer (R94) -/

theorem le_higherClass_left (c d : BitVec 2) : c ≤ higherClass c d := by
  revert c d
  decide

theorem le_higherClass_right (c d : BitVec 2) : d ≤ higherClass c d := by
  revert c d
  decide

theorem higherClass_eq (c d : BitVec 2) : higherClass c d = c ∨ higherClass c d = d := by
  revert c d
  decide

/-- The highest class seen along a list, from some class on. -/
theorem foldl_higherClass_spec (items : List QueueItem) (c : BitVec 2) :
    let top := items.foldl (fun c it => higherClass c it.cls) c
    c ≤ top ∧ (∀ x ∈ items, x.cls ≤ top) ∧ (top = c ∨ ∃ x ∈ items, x.cls = top) := by
  induction items generalizing c with
  | nil => exact ⟨BitVec.le_refl c, nofun, .inl rfl⟩
  | cons it rest ih =>
    obtain ⟨hbase, hall, hattained⟩ := ih (higherClass c it.cls)
    refine ⟨BitVec.le_trans (le_higherClass_left c it.cls) hbase, fun x hx => ?_, ?_⟩
    · obtain rfl | hx := List.mem_cons.1 hx
      · exact BitVec.le_trans (le_higherClass_right c _) hbase
      · exact hall x hx
    · obtain htop | ⟨x, hx, hcls⟩ := hattained
      · obtain hc | hit := higherClass_eq c it.cls
        · exact .inl (htop.trans hc)
        · exact .inr ⟨it, List.mem_cons_self, (htop.trans hit).symm⟩
      · exact .inr ⟨x, List.mem_cons_of_mem _ hx, hcls⟩

theorem le_highestClass {items : List QueueItem} {x : QueueItem} (hx : x ∈ items) : x.cls ≤ highestClass items := by
  obtain ⟨-, hall, -⟩ := foldl_higherClass_spec items 0#2
  exact hall x hx

/-- Some item is of the highest class. -/
theorem exists_highestClass {items : List QueueItem} (h : items ≠ []) : ∃ x ∈ items, x.cls = highestClass items := by
  obtain ⟨-, hall, hzero | hattained⟩ := foldl_higherClass_spec items 0#2
  · obtain ⟨it, rest, rfl⟩ := List.exists_cons_of_ne_nil h
    refine ⟨it, List.mem_cons_self, ?_⟩
    have hle := hall it List.mem_cons_self
    rw [hzero] at hle
    have hbottom : ∀ c : BitVec 2, c ≤ 0#2 → c = 0#2 := by decide
    exact (hbottom _ hle).trans hzero.symm
  · exact hattained

theorem lowestEntry_spec {items : List QueueItem} {it : QueueItem} (h : lowestEntry items = some it) :
    it ∈ items ∧ ∀ x ∈ items, it.entry ≤ x.entry := by
  induction items generalizing it with
  | nil => cases h
  | cons first rest ih =>
    unfold lowestEntry at h
    split at h
    next hrest =>
      cases h
      have hempty : rest = [] := by
        cases rest with
        | nil => rfl
        | cons y ys =>
          unfold lowestEntry at hrest
          split at hrest
          · cases hrest
          · split at hrest <;> cases hrest
      subst hempty
      exact ⟨List.mem_cons_self, fun x hx => by rw [List.mem_singleton.1 hx]⟩
    next x hrest =>
      obtain ⟨hx, hlowest⟩ := ih hrest
      split at h
      next hle =>
        cases h
        refine ⟨List.mem_cons_self, fun y hy => ?_⟩
        obtain rfl | hy := List.mem_cons.1 hy
        · exact le_rfl
        · exact hle.trans (hlowest y hy)
      next hlt =>
        cases h
        refine ⟨List.mem_cons_of_mem _ hx, fun y hy => ?_⟩
        obtain rfl | hy := List.mem_cons.1 hy
        · exact (not_le.1 hlt).le
        · exact hlowest y hy

theorem lowestEntry_ne_none {items : List QueueItem} (h : items ≠ []) : lowestEntry items ≠ none := by
  obtain ⟨it, rest, rfl⟩ := List.exists_cons_of_ne_nil h
  unfold lowestEntry
  split
  · nofun
  · split <;> nofun

/-- The items of the highest class. -/
def Scheduler.top (q : Scheduler) : List QueueItem :=
  q.queue.filter fun it => it.cls == highestClass q.queue

theorem Scheduler.offer_arrival {q : Scheduler} (h : q.order = .arrival) : q.offer = q.top.head? := by
  unfold Scheduler.offer
  rw [h]
  rfl

theorem Scheduler.offer_index {q : Scheduler} (h : q.order = .index) : q.offer = lowestEntry q.top := by
  unfold Scheduler.offer
  rw [h]
  rfl

theorem Scheduler.mem_top {q : Scheduler} {it : QueueItem} :
    it ∈ q.top ↔ it ∈ q.queue ∧ it.cls = highestClass q.queue := by
  simp [Scheduler.top]

theorem Scheduler.top_ne_nil {q : Scheduler} (h : q.queue ≠ []) : q.top ≠ [] := by
  obtain ⟨x, hx, hcls⟩ := exists_highestClass h
  exact List.ne_nil_of_mem (Scheduler.mem_top.2 ⟨hx, hcls⟩)

theorem Scheduler.offer_ne_none {q : Scheduler} (h : q.queue ≠ []) : q.offer ≠ none := by
  cases horder : q.order with
  | arrival =>
    rw [Scheduler.offer_arrival horder, ne_eq, List.head?_eq_none_iff]
    exact Scheduler.top_ne_nil h
  | index =>
    rw [Scheduler.offer_index horder]
    exact lowestEntry_ne_none (Scheduler.top_ne_nil h)

theorem Scheduler.offer_mem_top {q : Scheduler} {it : QueueItem} (h : q.offer = some it) : it ∈ q.top := by
  cases horder : q.order with
  | arrival =>
    rw [Scheduler.offer_arrival horder] at h
    exact List.mem_of_head? h
  | index =>
    rw [Scheduler.offer_index horder] at h
    exact (lowestEntry_spec h).1

theorem Scheduler.offer_eq_none {q : Scheduler} (h : q.queue = []) : q.offer = none := by
  have htop : q.top = [] := by rw [Scheduler.top, h, List.filter_nil]
  cases horder : q.order with
  | arrival => rw [Scheduler.offer_arrival horder, htop, List.head?_nil]
  | index =>
    rw [Scheduler.offer_index horder, htop]
    rfl

/-- The first of its class in the list (R94). -/
theorem Scheduler.offer_first {q : Scheduler} {it : QueueItem} (h : q.offer = some it) (horder : q.order = .arrival) :
    ∃ before after, q.queue = before ++ it :: after ∧ ∀ x ∈ before, x.cls ≠ it.cls := by
  obtain ⟨-, hcls⟩ := Scheduler.mem_top.1 (Scheduler.offer_mem_top h)
  rw [Scheduler.offer_arrival horder, Scheduler.top, List.head?_filter, List.find?_eq_some_iff_append] at h
  obtain ⟨-, before, after, hsplit, hbefore⟩ := h
  refine ⟨before, after, hsplit, fun x hx => ?_⟩
  rw [hcls]
  simpa using hbefore x hx

/-- The lowest index of its class (R94). -/
theorem Scheduler.offer_lowest {q : Scheduler} {it : QueueItem} (h : q.offer = some it) (horder : q.order = .index)
    {x : QueueItem} (hx : x ∈ q.queue) (hsame : x.cls = it.cls) : it.entry ≤ x.entry := by
  obtain ⟨-, hcls⟩ := Scheduler.mem_top.1 (Scheduler.offer_mem_top h)
  rw [Scheduler.offer_index horder] at h
  obtain ⟨-, hlowest⟩ := lowestEntry_spec h
  exact hlowest x (Scheduler.mem_top.2 ⟨hx, hsame.trans hcls⟩)

/-! ## Taking the item offered (R106) -/

theorem LinkState.isIdle_iff {l : LinkState} : l.isIdle = true ↔ l = .idle := by
  cases l <;> simp [LinkState.isIdle]

theorem State.takeOffered_of_not_idle {s : State} (h : s.link.state ≠ .idle) : s.takeOffered = s :=
  if_neg (mt LinkState.isIdle_iff.1 h)

theorem State.takeOffered_of_empty {s : State} (h : s.sched.queue = []) : s.takeOffered = s := by
  unfold State.takeOffered
  rw [Scheduler.offer_eq_none h]
  exact ite_self s

theorem State.takeOffered_of_offer {s : State} {it : QueueItem} (hidle : s.link.state = .idle)
    (hoffer : s.sched.offer = some it) : s.takeOffered = s.takeItem it := by
  unfold State.takeOffered
  rw [if_pos (LinkState.isIdle_iff.2 hidle), hoffer]

/-- Taking an item removes no deferred element: none is of its entry. -/
theorem State.takeItem_eq {s : State} {it : QueueItem} (hwf : s.sched.Wf) (hit : it ∈ s.sched.queue) :
    s.takeItem it =
      (s.removeWork fun j => j == it.entry).setLinkState
        (.header
          { op := s.operationOf it, branchChannel := (s.activeEntry it.entry).branchChannel,
            length := (s.activeEntry it.entry).length, rate := s.link.line.rate,
            breakLength := s.link.line.breakLength }) := by
  obtain ⟨-, -, -, hdisjoint, -⟩ := hwf
  have hothers : s.sched.deferred.filter (fun d => d.entry != it.entry) = s.sched.deferred :=
    filter_entry_ne fun d hd => (hdisjoint d hd it hit).symm
  rw [State.removeWork_one, Scheduler.without, hothers]
  rfl

/-- Settles O34: what the scheduler offers, and what an IDLE link makes of it. -/
theorem idleLinkTakesDueItem : Obligations.IdleLinkTakesDueItem := by
  refine ⟨fun q => ⟨Scheduler.offer_ne_none, fun it hoffer => ?_⟩,
    fun s => ⟨State.takeOffered_of_not_idle, State.takeOffered_of_empty, fun it hidle hwf hoffer => ?_⟩⟩
  · obtain ⟨hit, hcls⟩ := Scheduler.mem_top.1 (Scheduler.offer_mem_top hoffer)
    exact ⟨hit, fun x hx => hcls ▸ le_highestClass hx, Scheduler.offer_first hoffer,
      fun horder x hx hsame => Scheduler.offer_lowest hoffer horder hx hsame⟩
  · obtain ⟨hit, -⟩ := Scheduler.mem_top.1 (Scheduler.offer_mem_top hoffer)
    rw [State.takeOffered_of_offer hidle hoffer, State.takeItem_eq hwf hit, State.operationOf]
    rfl

/-! ## The re-offer (R98) -/

/-- The re-offer asks for the entries that are due in the state it begins in: requests touch neither table nor
records. -/
theorem State.foldl_reOffer_eq (l : List EntryIndex) {s t : State} (hroute : t.route = s.route) (hstore : t.store = s.store) :
    l.foldl
        (fun t i => if (t.activeEntry i).takesPublish && (t.record i).pending then t.request i .publish .retry else t) t =
      (l.filter fun i => (s.activeEntry i).takesPublish && (s.record i).pending).foldl
        (fun t i => t.request i .publish .retry) t := by
  induction l generalizing t with
  | nil => rfl
  | cons i l ih =>
    have hsame : ((t.activeEntry i).takesPublish && (t.record i).pending) =
        ((s.activeEntry i).takesPublish && (s.record i).pending) := by
      rw [State.activeEntry, State.record, hroute, hstore]
      rfl
    rw [List.foldl_cons, hsame]
    cases hdue : ((s.activeEntry i).takesPublish && (s.record i).pending) with
    | true =>
      rw [if_pos rfl, List.filter_cons, hdue, if_pos rfl, List.foldl_cons]
      exact ih (by rw [State.request_route, hroute]) (by rw [State.request_store, hstore])
    | false =>
      rw [if_neg nofun, List.filter_cons, hdue, if_neg nofun]
      exact ih hroute hstore

theorem State.reOffer_eq_foldl (s : State) :
    s.reOffer =
      ((List.finRange 64).filter fun i => (s.activeEntry i).takesPublish && (s.record i).pending).foldl
        (fun t i => t.request i .publish .retry) s :=
  State.foldl_reOffer_eq entryIndices rfl rfl

/-- The re-offer of these entries, from an empty queue: 16 items, the rest deferred. -/
def State.reOffered (due : List EntryIndex) (s : State) : State :=
  { s with
    sched :=
      { s.sched with
        queue :=
          (due.take 16).mapIdx fun k i =>
            { entry := i, op := .publish, origin := .retry, cls := (s.activeEntry i).priority,
              seq := s.sched.seqCounter + BitVec.ofNat 16 k }
        deferred := (due.drop 16).map fun i => { entry := i, op := .publish, origin := .retry }
        seqCounter := s.sched.seqCounter + BitVec.ofNat 16 (due.take 16).length }
    agent :=
      { s.agent with flags := if 16 < due.length then s.agent.flags ||| 0x0020#16 else s.agent.flags } }

theorem State.reOffered_nil {s : State} (hqueue : s.sched.queue = []) (hdeferred : s.sched.deferred = []) :
    s.reOffered [] = s := by
  have hsched : (s.reOffered []).sched = s.sched := by
    rw [State.reOffered]
    simp [← hqueue, ← hdeferred]
  have heta : s.reOffered [] = { s with sched := (s.reOffered []).sched } := rfl
  rw [heta, hsched]

theorem State.reOffered_queued {due : List EntryIndex} {i : EntryIndex} (s : State) (h : i ∉ due) :
    (s.reOffered due).sched.queued i = false := by
  rw [Bool.eq_false_iff, ne_eq, Scheduler.queued_iff]
  rintro ⟨it, hit, rfl⟩
  obtain ⟨k, hk, rfl⟩ := List.mem_mapIdx.1 hit
  exact h (List.mem_of_mem_take (List.getElem_mem hk))

theorem State.reOffered_isDeferred {due : List EntryIndex} {i : EntryIndex} (s : State) (h : i ∉ due) :
    (s.reOffered due).sched.isDeferred i = false := by
  rw [Bool.eq_false_iff, ne_eq, Scheduler.isDeferred_iff]
  rintro ⟨d, hd, rfl⟩
  obtain ⟨j, hj, rfl⟩ := List.mem_map.1 hd
  exact h (List.mem_of_mem_drop hj)

theorem State.reOffered_length (due : List EntryIndex) (s : State) :
    (s.reOffered due).sched.queue.length = min 16 due.length := by
  simp [State.reOffered]

theorem State.request_of_queued {s : State} {e : EntryIndex} {op : QueueOp} {origin : Origin}
    (h : s.disposition e origin = .queued) :
    s.request e op origin = s.mapSched (Scheduler.append e op origin (s.priorityOf e)) := by
  rw [State.request, h]

theorem State.request_of_deferred {s : State} {e : EntryIndex} {op : QueueOp} {origin : Origin}
    (h : s.disposition e origin = .deferred) :
    s.request e op origin = (s.mapSched (Scheduler.defer e op origin)).setFlag .queueFull := by
  rw [State.request, h]

/-- An element above all others joins the deferred set at its end. -/
theorem insertDeferred_last {d : DeferredElement} {l : List DeferredElement} (h : ∀ x ∈ l, x.entry < d.entry) :
    insertDeferred d l = l ++ [d] := by
  induction l with
  | nil => rfl
  | cons x rest ih =>
    have hx := h x List.mem_cons_self
    rw [insertDeferred, if_neg (not_le.2 hx), ih fun y hy => h y (List.mem_cons_of_mem _ hy)]
    rfl

/-- One entry more, above those before it. -/
theorem State.request_reOffered {s : State} {due : List EntryIndex} {i : EntryIndex} (hstate : s.link.state ≠ .quarantine)
    (hlast : ∀ j ∈ due, j < i) : (s.reOffered due).request i .publish .retry = s.reOffered (due ++ [i]) := by
  have hnew : i ∉ due := fun hi => lt_irrefl i (hlast i hi)
  have hdisposition := State.disposition_of_kept (s := s.reOffered due) (origin := .retry) i fun h => hstate h.1
  rw [State.reOffered_queued s hnew, State.reOffered_isDeferred s hnew, State.reOffered_length, if_neg nofun,
    if_neg nofun] at hdisposition
  by_cases hroom : due.length < 16
  · rw [if_pos (by omega)] at hdisposition
    rw [State.request_of_queued hdisposition]
    have htake : due.take 16 = due := List.take_of_length_le (by omega)
    have htake' : (due ++ [i]).take 16 = due ++ [i] := List.take_of_length_le (by simp; omega)
    have hdrop : due.drop 16 = [] := List.drop_of_length_le (by omega)
    have hdrop' : (due ++ [i]).drop 16 = [] := List.drop_of_length_le (by simp; omega)
    have hfew : ¬ 16 < due.length := by omega
    have hfew' : ¬ 16 < (due ++ [i]).length := by simp; omega
    have hseq : s.sched.seqCounter + BitVec.ofNat 16 due.length + 1#16 =
        s.sched.seqCounter + BitVec.ofNat 16 (due ++ [i]).length := by
      rw [BitVec.add_assoc, List.length_append, BitVec.ofNat_add]
      rfl
    simp only [State.reOffered, htake, htake', hdrop, hdrop', if_neg hfew, if_neg hfew', List.mapIdx_concat, ← hseq]
    rfl
  · rw [if_neg (by omega)] at hdisposition
    rw [State.request_of_deferred hdisposition]
    have hfull : 16 ≤ due.length := by omega
    have hmany : 16 < (due ++ [i]).length := by simp; omega
    have hbelow : ∀ x ∈ (due.drop 16).map fun i => ({ entry := i, op := .publish, origin := .retry } : DeferredElement),
        x.entry < i := by
      intro x hx
      obtain ⟨j, hj, rfl⟩ := List.mem_map.1 hx
      exact hlast j (List.mem_of_mem_drop hj)
    have hinsert : (((due ++ [i]).drop 16).map fun i =>
          ({ entry := i, op := .publish, origin := .retry } : DeferredElement)) =
        insertDeferred { entry := i, op := .publish, origin := .retry }
          ((due.drop 16).map fun i => { entry := i, op := .publish, origin := .retry }) := by
      rw [insertDeferred_last hbelow, List.drop_append_of_le_length hfull, List.map_append]
      rfl
    have hflags : (if 16 < (due ++ [i]).length then s.agent.flags ||| 0x0020#16 else s.agent.flags) =
        (if 16 < due.length then s.agent.flags ||| 0x0020#16 else s.agent.flags) ||| 0x0020#16 := by
      rw [if_pos hmany]
      split
      · rw [BitVec.or_assoc, BitVec.or_self]
      · rfl
    simp only [State.reOffered, List.take_append_of_le_length hfull, hinsert, hflags]
    rfl

/-- The requests of a re-offer from an empty queue outside QUARANTINE, in ascending order. -/
theorem State.foldl_request_eq {s : State} (hstate : s.link.state ≠ .quarantine) (hqueue : s.sched.queue = [])
    (hdeferred : s.sched.deferred = []) {due : List EntryIndex} (hdue : due.Pairwise (· < ·)) :
    due.foldl (fun t i => t.request i .publish .retry) s = s.reOffered due := by
  induction due using List.reverseRecOn with
  | nil => exact (State.reOffered_nil hqueue hdeferred).symm
  | append_singleton due i ih =>
    obtain ⟨hbefore, -, hlast⟩ := List.pairwise_append.1 hdue
    rw [List.foldl_append, ih hbefore]
    exact State.request_reOffered hstate fun j hj => hlast j hj i List.mem_cons_self

/-- Settles O36: the requests of the re-offer, one after the other. -/
theorem reOfferInIndexOrder : Obligations.ReOfferInIndexOrder := by
  rintro s due hstate hqueue hdeferred rfl
  rw [State.reOffer_eq_foldl, State.foldl_request_eq hstate hqueue hdeferred ((List.pairwise_lt_finRange 64).filter _)]
  rfl

end Sys2Proof.Machine

/-! PROOFS. What a commit, a tick and the expiries of a tick do (O28, O31, O32). -/

namespace Sys2Proof.Machine

/-! ## Applying a commit (R41, R80, R88, R100) -/

theorem State.applyCommit_record (s : State) (i : EntryIndex) :
    s.applyCommit.record i =
      if SameIdentity (s.route.activeContents.entry i) (s.route.editContents.entry i) then s.record i
      else emptyRecordOf (s.record i) := by
  have hrecord : s.applyCommit.record i =
      ((s.mapRoute RouteTable.swapped).recordsAtCommit s.route.activeContents).record i := rfl
  have hactive : (s.mapRoute RouteTable.swapped).activeEntry i = s.route.editContents.entry i :=
    congrArg (fun b : Bank => b.entry i) s.route.swapped_activeContents
  rw [hrecord, State.recordsAtCommit, State.record_mapRecords, hactive]
  simp only [Entry.sameIdentity_iff]
  rfl

/-- The state whose scheduler the commit then works on. -/
def State.atCommit (s : State) : State :=
  (s.mapRoute RouteTable.swapped).recordsAtCommit s.route.activeContents

theorem State.atCommit_activeEntry (s : State) (i : EntryIndex) :
    s.atCommit.activeEntry i = s.route.editContents.entry i := by
  have hroute : s.atCommit.route = s.route.swapped := rfl
  rw [State.activeEntry, hroute, RouteTable.swapped_activeContents]

theorem State.atCommit_sched (s : State) : s.atCommit.sched = s.sched :=
  rfl

theorem State.schedAtCommit_sched (old : Bank) (s : State) :
    (s.schedAtCommit old).sched =
      { Scheduler.refill s.priorityOf
          { s.sched with
            queue := s.sched.queue.filter fun it => !(it.op.purgedAtCommit (old.entry it.entry) (s.activeEntry it.entry))
            deferred :=
              s.sched.deferred.filter fun d => !(d.op.purgedAtCommit (old.entry d.entry) (s.activeEntry d.entry)) } with
        countdowns :=
          Vector.ofFn fun i => countdownAtCommit (old.entry i) (s.activeEntry i) (s.sched.countdowns.get i) } := by
  unfold State.schedAtCommit
  rw [State.mapSched]

theorem State.applyCommit_eq (s : State) : s.applyCommit = s.atCommit.schedAtCommit s.route.activeContents := by
  rw [State.applyCommit, State.atCommit]

theorem State.applyCommit_countdown (s : State) (i : EntryIndex) :
    s.applyCommit.countdown i =
      countdownAtCommit (s.route.activeContents.entry i) (s.route.editContents.entry i) (s.countdown i) := by
  rw [State.countdown, State.applyCommit_eq, State.schedAtCommit_sched, Vector.get_eq_getElem, Vector.getElem_ofFn,
    State.atCommit_activeEntry, State.atCommit_sched]
  rfl

/-- The work that a commit leaves: what is kept, then the refill. -/
theorem State.applyCommit_sched (s : State) :
    { s.applyCommit.sched with countdowns := s.sched.countdowns } =
      Scheduler.refill (fun i => (s.route.editContents.entry i).priority)
        { s.sched with
          queue :=
            s.sched.queue.filter fun it =>
              !(it.op.purgedAtCommit (s.route.activeContents.entry it.entry) (s.route.editContents.entry it.entry))
          deferred :=
            s.sched.deferred.filter fun d =>
              !(d.op.purgedAtCommit (s.route.activeContents.entry d.entry) (s.route.editContents.entry d.entry)) } := by
  have hpriority : s.atCommit.priorityOf = fun i => (s.route.editContents.entry i).priority := by
    funext i
    rw [State.priorityOf, State.atCommit_activeEntry]
  rw [State.applyCommit_eq, State.schedAtCommit_sched, hpriority, State.atCommit_sched]
  simp only [State.atCommit_activeEntry, Scheduler.refill_eq]

/-- Work that a commit keeps (R100). -/
theorem QueueOp.not_purgedAtCommit (op : QueueOp) (old new : Entry) :
    (!op.purgedAtCommit old new) = (decide (SameIdentity old new) && op.fits new) := by
  have hsame : old.sameIdentity new = decide (SameIdentity old new) := by
    rw [Bool.eq_iff_iff, Entry.sameIdentity_iff, decide_eq_true_iff]
  rw [QueueOp.purgedAtCommit, hsame, Bool.not_or, Bool.not_not, Bool.not_not]

/-- Settles O28: the five parts of a commit. -/
theorem commitApplied : Obligations.CommitApplied := by
  rintro s t old new keptItems keptElements rfl rfl rfl rfl rfl
  refine ⟨?_, s.applyCommit_record, ?_, s.applyCommit_countdown, ?_, s.applyCommit_power, s.applyCommit_link,
    s.applyCommit_trunk, s.applyCommit_agent, s.applyCommit_config, s.applyCommit_pending⟩
  · rw [State.applyCommit_route_eq]
    rfl
  · simp only [State.applyCommit_store_readIndex, State.applyCommit_store_readHalf, State.applyCommit_store_staging]
  · rw [State.applyCommit_sched, Scheduler.refill_eq]
    simp only [QueueOp.not_purgedAtCommit]

/-! ## The expiries of a tick, taken alone (R86, R120, R144) -/

theorem reachesZero_iff (v : Byte) : reachesZero v = true ↔ v.toNat ≤ 1 :=
  decide_eq_true_iff

theorem LinkState.suppressesPeriodic_iff {l : LinkState} :
    l.suppressesPeriodic = true ↔ l = .asleep ∨ l = .quarantine := by
  cases l <;> simp [LinkState.suppressesPeriodic, LinkState.isAsleep, LinkState.isQuarantine]

theorem LinkState.isSettling_iff {l : LinkState} : l.isSettling = true ↔ l = .wakeSettle := by
  cases l <;> simp [LinkState.isSettling]

theorem Entry.countdownRuns_iff (e : Entry) : e.countdownRuns = true ↔ e.valid = true ∧ e.refresh ≠ 0#8 := by
  simp [Entry.countdownRuns]

theorem State.countdownDue_iff {s : State} {i : EntryIndex} :
    s.countdownDue i = true ↔
      ((s.activeEntry i).valid = true ∧ (s.activeEntry i).refresh ≠ 0#8) ∧ (s.countdown i).toNat ≤ 1 := by
  rw [State.countdownDue, Bool.and_eq_true, Entry.countdownRuns_iff, reachesZero_iff]

theorem LinkController.holdRuns_iff (c : LinkController) :
    c.holdRuns = true ↔ c.state = .quarantine ∧ c.line.policy = .auto ∧ c.sampling = false := by
  rw [LinkController.holdRuns, Bool.and_eq_true, Bool.and_eq_true, LinkState.isQuarantine_iff, decide_eq_true_iff,
    Bool.not_eq_true', and_assoc]

/-- A link that takes no PERIODIC request takes no item either. -/
theorem State.takeOffered_of_suppressed {s : State} (h : s.link.state = .asleep ∨ s.link.state = .quarantine) :
    s.takeOffered = s := by
  refine State.takeOffered_of_not_idle ?_
  obtain h | h := h <;> rw [h] <;> nofun

theorem exec_refreshCountdownExpiry_due {i : EntryIndex} {s : State} (hrun : s.power = .running)
    (hdue : s.countdownDue i = true) :
    exec (.refreshCountdownExpiry i) s = .next (s.countdownExpires i).takeOffered := by
  have hrow : exec (.refreshCountdownExpiry i) s = execRefreshCountdownExpiry i s := rfl
  rw [hrow, execRefreshCountdownExpiry, if_pos (by rw [s.isRunning_iff.mpr hrun, hdue]; rfl)]

theorem State.countdownExpires_eq (i : EntryIndex) (s : State) :
    s.countdownExpires i =
      if s.link.state.suppressesPeriodic then s.setCountdown i (s.activeEntry i).refresh
      else (s.setCountdown i (s.activeEntry i).refresh).request i .refresh .periodic :=
  rfl

theorem exec_settleExpiry_due {s : State} (hrun : s.power = .running) (hstate : s.link.state = .wakeSettle)
    (hdue : s.link.settle.toNat ≤ 1) : exec .settleExpiry s = .next s.settleExpires.takeOffered := by
  have hrow : exec .settleExpiry s = execSettleExpiry s := rfl
  rw [hrow, execSettleExpiry, if_pos]
  rw [s.isRunning_iff.mpr hrun, LinkState.isSettling_iff.2 hstate, (reachesZero_iff _).2 hdue]
  rfl

theorem exec_quarantineHoldExpiry_due {s : State} (hrun : s.power = .running) (hholds : s.link.holdRuns = true)
    (hdue : s.link.hold.toNat ≤ 1) : exec .quarantineHoldExpiry s = .next s.holdExpires := by
  have hrow : exec .quarantineHoldExpiry s = execQuarantineHoldExpiry s := rfl
  rw [hrow, execQuarantineHoldExpiry, if_pos]
  rw [s.isRunning_iff.mpr hrun, hholds, (reachesZero_iff _).2 hdue]
  rfl

/-- Settles O32: the three expiries. -/
theorem expiriesTakenAlone : Obligations.ExpiriesTakenAlone := by
  refine ⟨?_, ?_, fun s hrun hstate hpolicy hsampling hdue => ?_⟩
  · rintro i s p hrun hvalid hrefresh hdue rfl
    rw [exec_refreshCountdownExpiry_due hrun (State.countdownDue_iff.2 ⟨⟨hvalid, hrefresh⟩, hdue⟩),
      State.countdownExpires_eq]
    by_cases hsuppressed : s.link.state = .asleep ∨ s.link.state = .quarantine
    · rw [if_pos (LinkState.suppressesPeriodic_iff.2 hsuppressed), if_pos hsuppressed]
      exact congrArg _ (State.takeOffered_of_suppressed hsuppressed)
    · rw [if_neg (mt LinkState.suppressesPeriodic_iff.1 hsuppressed), if_neg hsuppressed]
  · rintro s p hrun hstate hdue rfl
    rw [exec_settleExpiry_due hrun hstate hdue, State.settleExpires]
    refine ⟨fun tag hslot => ?_, fun hslot => ?_⟩
    · have hheld : (s.mapLink fun c => { c with settle := 0#8, state := .idle }).agent.slot =
          some { code := Code.wakeBranch, tag := tag } := hslot
      rw [State.finishPending_eq_completed hheld]
      rfl
    · have hfree : (s.mapLink fun c => { c with settle := 0#8, state := .idle }).slotHeldBy Code.wakeBranch ≠ true :=
        Bool.eq_false_iff.1 hslot
      rw [State.finishPending_of_not_held hfree, State.mapLink]
  · rw [exec_quarantineHoldExpiry_due hrun ((LinkController.holdRuns_iff _).2 ⟨hstate, hpolicy, hsampling⟩) hdue]
    rfl

/-! ## The tick (R84) -/

theorem Record.aged_eq (limit : Word16) (r : Record) :
    r.aged limit =
      if r.state = .empty then r
      else
        { r with
          age := satSucc r.age
          state := if r.state = .fresh ∧ limit ≠ 0#16 ∧ limit ≤ satSucc r.age then .stale else r.state } := by
  obtain ⟨state, data, age, stamp, source, version, served, pending, fails, silent⟩ := r
  cases state with
  | empty => rfl
  | stale => rfl
  | fresh =>
    simp only [Record.aged, reduceCtorEq, if_false, true_and]
    split <;> rfl

theorem State.countdownTicked_eq (s : State) (i : EntryIndex) :
    s.countdownTicked i =
      if (s.activeEntry i).valid = true ∧ (s.activeEntry i).refresh ≠ 0#8 then
        if (s.countdown i).toNat ≤ 1 then (s.activeEntry i).refresh else s.countdown i - 1#8
      else s.countdown i := by
  simp only [State.countdownTicked, Entry.countdownRuns_iff, reachesZero_iff]

/-- The link controller's part of a tick: its countdown, and WAKE_BRANCH where the settle countdown reaches 0. -/
theorem State.tickLink_eq (s : State) :
    s.tickLink =
      { s with
        link :=
          if s.link.state = .quarantine ∧ s.link.line.policy = .auto ∧ s.link.sampling = false then
            if s.link.hold.toNat ≤ 1 then { s.link with hold := 0#8, sampling := true }
            else { s.link with hold := s.link.hold - 1#8 }
          else if s.link.state = .wakeSettle then
            if s.link.settle.toNat ≤ 1 then { s.link with settle := 0#8, state := .idle }
            else { s.link with settle := s.link.settle - 1#8 }
          else s.link
        agent :=
          if s.link.state = .wakeSettle ∧ s.link.settle.toNat ≤ 1 ∧ s.slotHeldBy 0x51#8 = true then
            { s.agent with slot := none, result := { s.agent.result with outcome := .done, data := [] } }
          else s.agent } := by
  rw [State.tickLink]
  by_cases hholds : s.link.holdRuns = true
  · have hquarantine := (LinkController.holdRuns_iff _).1 hholds
    have hagent : ¬ (s.link.state = .wakeSettle ∧ s.link.settle.toNat ≤ 1 ∧ s.slotHeldBy 0x51#8 = true) := by
      obtain ⟨hstate, -, -⟩ := hquarantine
      rw [hstate]
      nofun
    rw [if_pos hholds, if_pos hquarantine, if_neg hagent]
    by_cases hdue : s.link.hold.toNat ≤ 1
    · rw [if_pos ((reachesZero_iff _).2 hdue), if_pos hdue]
      rfl
    · rw [if_neg (mt (reachesZero_iff _).1 hdue), if_neg hdue]
      rfl
  rw [if_neg hholds, if_neg (mt (LinkController.holdRuns_iff _).2 hholds)]
  by_cases hsettles : s.link.state = .wakeSettle
  · rw [if_pos (LinkState.isSettling_iff.2 hsettles), if_pos hsettles]
    by_cases hdue : s.link.settle.toNat ≤ 1
    · rw [if_pos ((reachesZero_iff _).2 hdue), if_pos hdue, State.settleExpires]
      by_cases hheld : s.slotHeldBy 0x51#8 = true
      · have hheld' : (s.mapLink fun c => { c with settle := 0#8, state := .idle }).slotHeldBy Code.wakeBranch = true :=
          hheld
        rw [if_pos ⟨hsettles, hdue, hheld⟩, State.finishPending_of_held hheld']
        rfl
      · have hfree : (s.mapLink fun c => { c with settle := 0#8, state := .idle }).slotHeldBy Code.wakeBranch ≠ true :=
          hheld
        rw [if_neg fun ⟨_, _, h⟩ => hheld h, State.finishPending_of_not_held hfree]
        rfl
    · have hagent : ¬ (s.link.state = .wakeSettle ∧ s.link.settle.toNat ≤ 1 ∧ s.slotHeldBy 0x51#8 = true) :=
        fun ⟨_, h, _⟩ => hdue h
      rw [if_neg (mt (reachesZero_iff _).1 hdue), if_neg hdue, if_neg hagent]
      rfl
  · have hagent : ¬ (s.link.state = .wakeSettle ∧ s.link.settle.toNat ≤ 1 ∧ s.slotHeldBy 0x51#8 = true) :=
      fun ⟨h, _⟩ => hsettles h
    rw [if_neg (mt LinkState.isSettling_iff.1 hsettles), if_neg hsettles, if_neg hagent]

/-- A tick's part for the link controller leaves ASLEEP and QUARANTINE, and enters neither. -/
theorem State.tickLink_suppresses (s : State) :
    s.tickLink.link.state.suppressesPeriodic = s.link.state.suppressesPeriodic := by
  rw [State.tickLink]
  by_cases hholds : s.link.holdRuns = true
  · rw [if_pos hholds]
    split <;> rfl
  · rw [if_neg hholds]
    by_cases hsettles : s.link.state.isSettling = true
    · rw [if_pos hsettles]
      split
      · rw [State.settleExpires, State.finishPending_link, LinkState.isSettling_iff.1 hsettles]
        rfl
      · rfl
    · rw [if_neg hsettles]

/-- The state in which the PERIODIC requests of a tick are made. -/
def State.tickParts (s : State) : State :=
  { s with
    sched :=
      { s.sched with
        tickCount := s.sched.tickCount + 1#16
        runningPeriod := s.sched.tickPeriod
        countdowns := Vector.ofFn fun i => s.countdownTicked i }
    store := { s.store with records := Vector.ofFn fun i => (s.record i).aged (s.activeEntry i).staleLimit }
    link := s.tickLink.link
    agent := s.tickLink.agent }

/-- A tick's parts for the link and the agent do not look at the count. -/
theorem State.tickLink_ticked (s : State) :
    (s.mapSched Scheduler.ticked).tickLink = { s.tickLink with sched := s.sched.ticked } := by
  rw [State.tickLink_eq, State.tickLink_eq]
  rfl

theorem State.tickCountdowns_eq (s : State) :
    s.tickCountdowns =
      ((List.finRange 64).filter s.countdownDue).foldl
        (fun t i => if s.link.state.suppressesPeriodic then t else t.request i .refresh .periodic)
        (s.mapSched fun q => { q with countdowns := Vector.ofFn fun i => s.countdownTicked i }) := by
  have hall : (Vector.ofFn fun i => if i ∈ entryIndices then s.countdownTicked i else s.countdown i) =
      Vector.ofFn fun i => s.countdownTicked i := by
    congr 1
    funext i
    exact if_pos (List.mem_finRange i)
  rw [State.tickCountdowns, State.foldl_tickCountdown_eq entryIndices (List.nodup_finRange 64), hall, entryIndices]

/-- The tick before its offer (R84). -/
theorem State.tickCountdowns_of_parts (s : State) :
    (s.mapSched Scheduler.ticked).tickLink.ageRecords.tickCountdowns =
      ((List.finRange 64).filter s.countdownDue).foldl
        (fun t i => if s.link.state.suppressesPeriodic then t else t.request i .refresh .periodic) s.tickParts := by
  have hlink : (s.mapSched Scheduler.ticked).tickLink.ageRecords.link = s.tickLink.link := by
    rw [State.ageRecords_link, State.tickLink_ticked]
  have hdue : (s.mapSched Scheduler.ticked).tickLink.ageRecords.countdownDue = s.countdownDue := by
    funext i
    rw [State.countdownDue, State.activeEntry, State.countdown, State.ageRecords_route, State.ageRecords_sched,
      State.tickLink_route, State.tickLink_sched]
    rfl
  have hticked : (s.mapSched Scheduler.ticked).tickLink.ageRecords.countdownTicked = s.countdownTicked := by
    funext i
    rw [State.countdownTicked, State.activeEntry, State.countdown, State.ageRecords_route, State.ageRecords_sched,
      State.tickLink_route, State.tickLink_sched]
    rfl
  have hparts : ((s.mapSched Scheduler.ticked).tickLink.ageRecords.mapSched fun q =>
      { q with countdowns := Vector.ofFn fun i => s.countdownTicked i }) = s.tickParts := by
    have hframe : s.tickLink = { s with link := s.tickLink.link, agent := s.tickLink.agent } := by
      rw [State.tickLink_eq]
    rw [State.tickLink_ticked, hframe, State.tickParts, State.ageRecords, State.mapRecords]
    generalize s.tickLink = t
    simp only [State.mapStore, State.mapSched, Scheduler.ticked, State.activeEntry, State.record]
  rw [State.tickCountdowns_eq, hlink, hdue, hticked, State.tickLink_suppresses, hparts]

/-- Settles O31: the parts of a tick, the requests of the countdowns that were due, and the offer. -/
theorem tickDoesItsParts : Obligations.TickDoesItsParts := by
  rintro s p due hrun hdue hp
  have hrow : exec .tick s = execTick s := rfl
  have hparts : p = s.tickParts := by
    subst hp
    rw [State.tickParts, State.tickLink_eq]
    simp only [State.countdownTicked_eq, Record.aged_eq]
  have hdue' : (List.finRange 64).filter s.countdownDue = due := by
    rw [hdue]
    refine List.filter_congr fun i _ => ?_
    rw [Bool.eq_iff_iff, State.countdownDue_iff]
    simp
  have hlink : p.link.state.suppressesPeriodic = s.link.state.suppressesPeriodic := by
    rw [hparts]
    exact s.tickLink_suppresses
  rw [hrow, execTick, if_pos ((s.isRunning_iff).2 hrun), State.ticked, State.tickCountdowns_of_parts, hdue', ← hparts]
  by_cases hsuppressed : s.link.state = .asleep ∨ s.link.state = .quarantine
  · have hnone := LinkState.suppressesPeriodic_iff.2 hsuppressed
    have hquiet : due.foldl (fun t i => if s.link.state.suppressesPeriodic then t else t.request i .refresh .periodic) p =
        p := by
      simp [hnone]
    rw [if_pos hsuppressed, hquiet,
      State.takeOffered_of_suppressed (LinkState.suppressesPeriodic_iff.1 (hlink.trans hnone))]
  · simp only [if_neg hsuppressed, if_neg (mt LinkState.suppressesPeriodic_iff.1 hsuppressed)]

end Sys2Proof.Machine

/-! PROOFS. Headers sent, gaps, wakes and wake pulses on the branch (O39, O45, O50, O51). -/

namespace Sys2Proof.Machine

/-! ## The rate of what is on the branch (R3) -/

theorem LinkController.branchRate_of_transaction {c : LinkController} {t : Transaction}
    (h : c.state.transaction = some t) : c.branchRate = t.rate := by
  unfold LinkController.branchRate
  cases hstate : c.state <;> rw [hstate] at h <;> cases h <;> rfl

theorem LinkController.branchRate_of_header {c : LinkController} {t : Transaction} (h : c.state = .header t) :
    c.branchRate = t.rate :=
  LinkController.branchRate_of_transaction (by rw [h]; rfl)

theorem LinkController.branchRate_of_replyWait {c : LinkController} {t : Transaction} (h : c.state = .replyWait t) :
    c.branchRate = t.rate :=
  LinkController.branchRate_of_transaction (by rw [h]; rfl)

theorem LinkController.branchRate_of_dataOut {c : LinkController} {t : Transaction} (h : c.state = .dataOut t) :
    c.branchRate = t.rate :=
  LinkController.branchRate_of_transaction (by rw [h]; rfl)

theorem LinkController.branchRate_of_wakeOut {c : LinkController} {fromAsleep : Bool} {steps : Byte} {rate : RateCode}
    (h : c.state = .wakeOut fromAsleep steps rate) : c.branchRate = rate := by
  rw [LinkController.branchRate, h]
  rfl

/-! ## BRANCH_HEADER_SENT (R108, R109, R148) -/

theorem not_eq_sub (b : Byte) : ~~~ b = 0xFF#8 - b := by
  revert b
  decide

theorem responderReply_eq (r : Record) (n : Nat) :
    responderReply r n =
      if r.state = .empty then List.replicate n 0xFF#8 else r.data.map fun b => 0xFF#8 - b := by
  unfold responderReply
  simp only [← not_eq_sub]
  cases r.state <;> rfl

theorem State.awaitReply_eq (t : Transaction) (i : EntryIndex) (s : State) :
    s.awaitReply t i =
      s.mapLink fun c =>
        { c with
          state := .replyWait t
          responder :=
            if s.link.mode = .loopback then
              some (if (s.record i).state = .empty then List.replicate (dataBytes t.length) 0xFF#8
                else (s.record i).data.map fun b => 0xFF#8 - b)
            else none
          sinceH1 := 0 } := by
  rw [← responderReply_eq]
  unfold State.awaitReply State.mapLink
  dsimp only
  cases s.link.mode <;> rfl

theorem exec_branchHeaderSent_sent {t : Transaction} {sent : Transmission} {s u : State} (hrun : s.power = .running)
    (hstate : s.link.state = .header t) (hwake : NoWakeBefore s sent) (hsent : s.sentOnBranch t.headerSent sent = some u) :
    exec (.branchHeaderSent sent) s = .next (u.headerSent t) := by
  have hrow : exec (.branchHeaderSent sent) s = execBranchHeaderSent s sent := rfl
  simp only [hrow, execBranchHeaderSent, s.isRunning_iff.mpr hrun, (s.noWakeBefore_iff sent).2 hwake, hstate, hsent,
    Bool.and_self]

theorem Transaction.headerSent_eq (t : Transaction) :
    t.headerSent =
      List.replicate (match t.breakLength with | .bits13 => 13 | .bits17 => 17) false ++ [true, true] ++
        characterLevels (headerH0 t.branchChannel) ++ characterLevels (headerH1 t.branchChannel t.length) := by
  rw [Transaction.headerSent, headerLevels]
  cases t.breakLength <;> rfl

/-- Settles O39: the header read back as sent, and the state behind it by OP. -/
theorem headerSentLeavesHeader : Obligations.HeaderSentLeavesHeader := by
  rintro t sent r s p hrun hstate hwake hheard rfl
  have hsent := State.sentOnBranch_eq_some (LinkController.branchRate_of_header hstate) hheard
  rw [exec_branchHeaderSent_sent hrun hstate hwake hsent]
  refine ⟨?_, ?_, t.headerSent_eq⟩
  · rintro i o (hop | hop) <;>
      · rw [State.headerSent, hop]
        exact congrArg _ (State.awaitReply_eq t i _)
  · rintro (⟨i, o, v, d, hop⟩ | hop) <;>
      · rw [State.headerSent, hop]
        rfl

/-! ## GAP_END (R118) -/

theorem exec_gapEnd_gap {rate : RateCode} {s : State} (hrun : s.power = .running) (hstate : s.link.state = .gap rate) :
    exec .gapEnd s = .next s.gapEnds := by
  have hrow : exec .gapEnd s = execGapEnd s := rfl
  simp only [hrow, execGapEnd, s.isRunning_iff.mpr hrun, hstate]

/-- Settles O45: the sleep frame, or the wake command and the offer. -/
theorem gapEndBeginsWork : Obligations.GapEndBeginsWork := by
  rintro rate s p hrun hstate rfl
  rw [exec_gapEnd_gap hrun hstate, State.gapEnds]
  refine ⟨fun hpending => ?_, fun hpending tag hslot => ?_, fun hpending hslot => ?_⟩
  · rw [if_pos hpending]
    rfl
  · have hheld : (s.setLinkState .idle).agent.slot = some { code := Code.wakeBranch, tag := tag } := hslot
    rw [hpending, if_neg nofun, State.finishPending_eq_completed hheld]
    rfl
  · have hfree : (s.setLinkState .idle).slotHeldBy Code.wakeBranch ≠ true := Bool.eq_false_iff.1 hslot
    rw [hpending, if_neg nofun, State.finishPending_of_not_held hfree]
    rfl

/-! ## WAKE_BRANCH (R142) -/

theorem wakeOwner_pulse {s : State} (hmode : s.link.mode = .normal)
    (hstate : s.link.state = .asleep ∨ s.link.state = .idle) :
    wakeOwner s.receiveRecord =
      ((s.beginPulse (decide (s.link.state = .asleep))).receiveRecord, Answer.plain .pending) := by
  obtain h | h := hstate
  all_goals
    simp only [wakeOwner, State.receiveRecord_link, hmode, h]
    rfl

theorem wakeOwner_settling {s : State} (hmode : s.link.mode = .normal) (hstate : s.link.state = .wakeSettle) :
    wakeOwner s.receiveRecord = (s.receiveRecord, Answer.plain .pending) := by
  simp only [wakeOwner, State.receiveRecord_link, hmode, hstate]

theorem wakeOwner_badState {s : State}
    (h : s.link.mode = .loopback ∨ s.link.state.inTransaction = true ∨ (∃ rate, s.link.state = .gap rate) ∨
      s.link.state = .quarantine) :
    wakeOwner s.receiveRecord = (s.receiveRecord, Answer.plain .badState) := by
  unfold wakeOwner
  rw [State.receiveRecord_link]
  cases hmode : s.link.mode with
  | loopback => rfl
  | normal =>
    rw [hmode, LinkState.inTransaction_iff] at h
    obtain h | (⟨t, h⟩ | ⟨t, h⟩ | ⟨t, h⟩) | ⟨rate, h⟩ | h := h
    · cases h
    all_goals rw [h]

/-! ## The wake pulse (R143) -/

theorem exec_wakePulseEnd_sent {fromAsleep : Bool} {steps : Byte} {rate : RateCode} {sent : Transmission} {s u : State}
    (hrun : s.power = .running) (hstate : s.link.state = .wakeOut fromAsleep steps rate)
    (hsent : s.pulseSent steps sent = some u) : exec (.wakePulseEnd sent) s = .next (u.pulseEnds fromAsleep rate) := by
  have hrow : exec (.wakePulseEnd sent) s = execWakePulseEnd s sent := rfl
  simp only [hrow, execWakePulseEnd, s.isRunning_iff.mpr hrun, hstate, hsent]

theorem exec_wakePulseFault_cut {fromAsleep : Bool} {steps : Byte} {rate : RateCode} {sent : Transmission} {s u : State}
    (hrun : s.power = .running) (hstate : s.link.state = .wakeOut fromAsleep steps rate)
    (hcut : s.pulseCut steps sent = some u) : exec (.wakePulseFault sent) s = .next (u.pulseFails fromAsleep rate) := by
  have hrow : exec (.wakePulseFault sent) s = execWakePulseFault s sent := rfl
  simp only [hrow, execWakePulseFault, s.isRunning_iff.mpr hrun, hstate, hcut]

/-- A fault of the line raises a score that is below the quarantine limit by 16 points (R113). -/
theorem scoreAfter_lineFault {score : Byte} (h : score.toNat < 128) : scoreAfter score .lineFault = score + 16#8 := by
  apply BitVec.eq_of_toNat_eq
  simp [scoreAfter, BranchOutcome.points, BitVec.toNat_add]
  omega

theorem toNat_add_sixteen {score : Byte} (h : score.toNat < 128) : (score + 16#8).toNat = score.toNat + 16 := by
  simp [BitVec.toNat_add]
  omega

/-- The score part of a pulse that fails below the quarantine limit. -/
theorem State.scoreOutcome_lineFault {s : State} (h : s.link.score.toNat < 128) :
    s.scoreOutcome .lineFault =
      { s with
        link := { s.link with score := s.link.score + 16#8 }
        agent :=
          { s.agent with
            flags := if 64 ≤ s.link.score.toNat + 16 then s.agent.flags ||| 0x0080#16 else s.agent.flags } } := by
  unfold State.scoreOutcome
  simp only [scoreAfter_lineFault h, toNat_add_sixteen h, warningScore, State.mapLink]
  have hraised : s.link.score.toNat < s.link.score.toNat + 16 := by omega
  by_cases hwarn : 64 ≤ s.link.score.toNat + 16
  · simp only [hraised, hwarn, decide_true, Bool.and_self, if_true]
    rfl
  · simp only [hraised, hwarn, decide_true, decide_false, Bool.and_false, if_false, Bool.false_eq_true]

theorem State.finishPending_of_free {s : State} (h : s.agent.slot = none) (code : Byte) (a : Answer) :
    s.finishPending code a = s := by
  refine State.finishPending_of_not_held (fun hheld => ?_) a
  obtain ⟨sl, hslot, -⟩ := State.slotHeldBy_iff.1 hheld
  rw [h] at hslot
  cases hslot

/-- Entering QUARANTINE with the slot empty (R119). -/
theorem State.enterQuarantine_of_free {s : State} (h : s.agent.slot = none) :
    s.enterQuarantine =
      { s with
        sched := s.sched.emptied
        link :=
          { s.link with
            state := .quarantine, hold := s.link.line.holdOnEntry, sampling := false, sleepFramePending := false }
        agent := { s.agent with flags := s.agent.flags ||| 0x0100#16 } } := by
  rw [State.enterQuarantine, State.finishPending_of_free, State.finishPending_of_free]
  · rfl
  · exact h
  · rw [State.finishPending_of_free]
    · exact h
    · exact h

/-- A pulse that fails with WAKE_BRANCH in the slot, before the next state is chosen. -/
theorem State.pulseScored_eq {s : State} {tag : Byte} (hscore : s.link.score.toNat < 128)
    (hslot : s.agent.slot = some { code := 0x51#8, tag := tag }) :
    (s.scoreOutcome .lineFault).finishPending Code.wakeBranch (Answer.plain .linkFailed) =
      completed .linkFailed []
        { s with
          link := { s.link with score := s.link.score + 16#8 }
          agent :=
            { s.agent with
              flags := if 64 ≤ s.link.score.toNat + 16 then s.agent.flags ||| 0x0080#16 else s.agent.flags } } := by
  rw [State.scoreOutcome_lineFault hscore]
  exact State.finishPending_eq_completed (tag := tag) (by exact hslot) _

theorem State.pulseFails_below {s : State} {fromAsleep : Bool} {rate : RateCode} {tag : Byte}
    (hscore : s.link.score.toNat + 16 < 128) (hslot : s.agent.slot = some { code := 0x51#8, tag := tag }) :
    s.pulseFails fromAsleep rate =
      completed .linkFailed []
        { s with
          link :=
            { s.link with score := s.link.score + 16#8, state := if fromAsleep then .asleep else .gap rate }
          agent :=
            { s.agent with
              flags := if 64 ≤ s.link.score.toNat + 16 then s.agent.flags ||| 0x0080#16 else s.agent.flags } } := by
  have hbelow : s.link.score.toNat < 128 := by omega
  have hlimit : ¬ quarantineScore ≤ (s.link.score + 16#8).toNat := by
    rw [toNat_add_sixteen hbelow, quarantineScore]
    omega
  unfold State.pulseFails
  rw [State.pulseScored_eq hbelow hslot]
  refine (if_neg hlimit).trans ?_
  cases fromAsleep <;> rfl

theorem State.pulseFails_limit {s : State} {fromAsleep : Bool} {rate : RateCode} {tag : Byte}
    (hscore : 128 ≤ s.link.score.toNat + 16) (hbelow : s.link.score.toNat < 128)
    (hslot : s.agent.slot = some { code := 0x51#8, tag := tag }) :
    s.pulseFails fromAsleep rate =
      completed .linkFailed []
        { s with
          sched := { s.sched with queue := [], deferred := [] }
          link :=
            { s.link with
              score := s.link.score + 16#8, state := .quarantine, hold := s.link.line.holdOnEntry, sampling := false
              sleepFramePending := false }
          agent := { s.agent with flags := s.agent.flags ||| 0x0180#16 } } := by
  have hlimit : quarantineScore ≤ (s.link.score + 16#8).toNat := by
    rw [toNat_add_sixteen hbelow]
    exact hscore
  have hflags : s.agent.flags ||| 0x0180#16 = s.agent.flags ||| 0x0080#16 ||| 0x0100#16 := by
    rw [BitVec.or_assoc]
    rfl
  unfold State.pulseFails
  rw [State.pulseScored_eq hbelow hslot, if_pos (show 64 ≤ s.link.score.toNat + 16 by omega), hflags]
  refine (if_pos hlimit).trans ?_
  rw [State.enterQuarantine_of_free rfl]
  rfl

/-- Settles O50: the command, the pulse that ends and the pulse that fails. -/
theorem wakeBranchAndItsPulse : Obligations.WakeBranchAndItsPulse := by
  refine ⟨fun tag ops s hs => ⟨fun hmode hstate => ?_, fun hmode hstate => ?_, fun hstate => ?_⟩,
    fun fromAsleep steps rate sent r low s hrun hstate hwake => ⟨fun hheard => ?_,
      fun k tag hmode hdiffers hheard hslot => ?_⟩⟩
  · exact recordAnswers_executedPending hs (exec_wakeBranch tag ops) (wakeOwner_pulse hmode hstate)
  · exact recordAnswers_executedPending hs (exec_wakeBranch tag ops) (wakeOwner_settling hmode hstate)
  · exact recordAnswers_executed hs (exec_wakeBranch tag ops) (wakeOwner_badState hstate) nofun
  · have hsent := State.pulseSent_eq_some (LinkController.branchRate_of_wakeOut hstate) hwake hheard
    rw [exec_wakePulseEnd_sent hrun hstate hsent]
    cases fromAsleep <;> rfl
  · have hcut := State.pulseCut_eq_some (LinkController.branchRate_of_wakeOut hstate) hwake hmode hdiffers hheard
    rw [exec_wakePulseFault_cut hrun hstate hcut]
    exact ⟨fun hscore => congrArg _ (State.pulseFails_below
        (s := { s with link := { s.link with receiver := r, receiverRate := rate, outsideLow := low } }) hscore hslot),
      fun hscore hbelow => congrArg _ (State.pulseFails_limit
        (s := { s with link := { s.link with receiver := r, receiverRate := rate, outsideLow := low } })
        hscore hbelow hslot)⟩

/-! ## BRANCH_WAKE_DETECTED (R18, R141) -/

/-- A low outside a frame that returns to high as a wake does, the only one on the line (R18). -/
theorem State.hearsWake_iff (s : State) (before : Wave) (low : Nat) :
    s.hearsWake before low = true ↔
      s.link.mode = .normal ∧ WakeOn s (Wave.levels (before ++ [(false, low), (true, 1)])) ∧
        ¬ WakeOn s (Wave.levels before) := by
  rw [State.hearsWake, Bool.and_eq_true, Bool.not_eq_true', ← Bool.not_eq_true, State.wakesOn_iff, State.wakesOn_iff,
    lowAfter]
  exact ⟨fun ⟨⟨hm, hw⟩, hn⟩ => ⟨hm, hw, fun h => hn ⟨hm, h⟩⟩, fun ⟨hm, hw, hn⟩ => ⟨⟨hm, hw⟩, fun h => hn h.2⟩⟩

theorem Wave.levels_low_end (before : Wave) (low : Nat) :
    Wave.levels (before ++ [(false, low), (true, 1)]) = Wave.levels before ++ List.replicate low false ++ true :: [] := by
  rw [Wave.levels_append, List.append_assoc]
  rfl

theorem LinkController.branchRate_of_ungoverned {c : LinkController} (h : c.state.governingRate = none) :
    c.branchRate = c.receiverRate := by
  rw [LinkController.branchRate, h]
  rfl

theorem State.wakeDetected_eq {s : State} (h : s.link.state.governingRate = none) (line : Wave) :
    s.wakeDetected line =
      { s with
        link := { s.link with receiver := (s.link.receiver.hear .branch line).1, outsideLow := none }
        agent := { s.agent with flags := s.agent.flags ||| 0x0400#16 } } := by
  simp only [State.wakeDetected, State.setBranchReceiver, State.mapLink, LinkController.branchRate_of_ungoverned h]
  rfl

theorem exec_branchWakeDetected_asleep {before : Wave} {low : Nat} {s : State} (hrun : s.power = .running)
    (hheard : s.hearsWake before low = true) (hstate : s.link.state = .asleep) :
    exec (.branchWakeDetected before low) s = .next (s.wakeDetected (lowAfter before low)).beginSettle := by
  have hrow : exec (.branchWakeDetected before low) s = execBranchWakeDetected before low s := rfl
  simp only [hrow, execBranchWakeDetected, s.isRunning_iff.mpr hrun, hheard, hstate, Bool.and_self]

theorem exec_branchWakeDetected_awake {before : Wave} {low : Nat} {s : State} (hrun : s.power = .running)
    (hheard : s.hearsWake before low = true)
    (hstate : s.link.state = .wakeSettle ∨ s.link.state = .idle ∨ (∃ rate, s.link.state = .gap rate) ∨
      s.link.state = .quarantine) :
    exec (.branchWakeDetected before low) s = .next (s.wakeDetected (lowAfter before low)) := by
  have hrow : exec (.branchWakeDetected before low) s = execBranchWakeDetected before low s := rfl
  obtain h | h | ⟨rate, h⟩ | h := hstate
  all_goals simp only [hrow, execBranchWakeDetected, s.isRunning_iff.mpr hrun, hheard, h, Bool.and_self]

theorem exec_branchWakeDetected_of_frame {before : Wave} {low : Nat} {s : State}
    (hstate : s.link.state.inTransaction = true ∨ ∃ asleep steps rate, s.link.state = .wakeOut asleep steps rate) :
    exec (.branchWakeDetected before low) s = .next s := by
  have hrow : exec (.branchWakeDetected before low) s = execBranchWakeDetected before low s := rfl
  rw [LinkState.inTransaction_iff] at hstate
  obtain (⟨t, h⟩ | ⟨t, h⟩ | ⟨t, h⟩) | ⟨asleep, steps, rate, h⟩ := hstate
  all_goals
    rw [hrow, execBranchWakeDetected, h]
    cases s.isRunning && s.hearsWake before low <;> rfl

theorem exec_branchWakeDetected_unheard {before : Wave} {low : Nat} {s : State} (hheard : ¬ s.hearsWake before low = true) :
    exec (.branchWakeDetected before low) s = .next s := by
  have hrow : exec (.branchWakeDetected before low) s = execBranchWakeDetected before low s := rfl
  rw [hrow, execBranchWakeDetected, Bool.eq_false_iff.2 hheard, Bool.and_false]

/-- Settles O51: the wake handed over by state, and where none is. -/
theorem nodeWakeByState : Obligations.NodeWakeByState := by
  rintro before low length s p hrun rfl
  refine ⟨fun hmode hlow hlong hnone => ?_, fun hstate => ?_⟩
  · have hheard : s.hearsWake before low = true :=
      (s.hearsWake_iff before low).2 ⟨hmode, ⟨_, length, [], Wave.levels_low_end before low, hlow, hlong⟩, hnone⟩
    refine ⟨fun hstate => ?_, fun hstate => ?_⟩
    · rw [exec_branchWakeDetected_asleep hrun hheard hstate, State.wakeDetected_eq (by rw [hstate]; rfl)]
      rfl
    · have hrate : s.link.state.governingRate = none := by
        obtain h | h | ⟨rate, h⟩ | h := hstate <;> rw [h] <;> rfl
      rw [exec_branchWakeDetected_awake hrun hheard hstate, State.wakeDetected_eq hrate]
      rfl
  · rw [← or_assoc] at hstate
    obtain hframe | hline := hstate
    · exact exec_branchWakeDetected_of_frame hframe
    · refine exec_branchWakeDetected_unheard fun hheard => ?_
      obtain ⟨hmode, hwake, hnone⟩ := (s.hearsWake_iff before low).1 hheard
      obtain hloop | hno | hearlier := hline
      · rw [hmode] at hloop
        cases hloop
      · exact hno hwake
      · exact hnone hearlier

end Sys2Proof.Machine

/-! PROOFS. What an outcome does, part by part: the score, the records, the flags, the state after (R111 to R117). -/

namespace Sys2Proof.Machine

/-! ## Flags and records -/

theorem State.flag_congr {s t : State} (h : t.agent.flags = s.agent.flags) (f : Flag) : t.flag f = s.flag f := by
  rw [State.flag, State.flag, h]

theorem State.flag_setFlag (f g : Flag) (s : State) : (s.setFlag f).flag g = (s.flag g || decide (f = g)) := by
  by_cases h : f = g
  · rw [h, State.flag_setFlag_self, decide_eq_true rfl, Bool.or_true]
  · rw [State.flag_setFlag_of_ne h, decide_eq_false h, Bool.or_false]

@[simp] theorem State.record_setFlag (f : Flag) (s : State) (i : EntryIndex) : (s.setFlag f).record i = s.record i :=
  rfl

/-- Failures counted against SILENT_LIMIT (R77). -/
theorem Record.failed_eq (limit : BitVec 4) (r : Record) :
    r.failed limit =
      { r with
        fails := satSucc r.fails
        silent := r.silent || decide (limit ≤ satSucc r.fails)
        state := if limit ≤ satSucc r.fails ∧ r.state = .fresh then .stale else r.state } := by
  unfold Record.failed
  by_cases h : limit ≤ satSucc r.fails
  · simp only [h, if_true, true_and, decide_true, Bool.or_true]
  · simp only [h, if_false, false_and, decide_false, Bool.or_false]

theorem Record.unserved_iff (r : Record) : r.unserved = true ↔ r.state = .fresh ∧ r.served = 0#8 := by
  rw [Record.unserved, Bool.and_eq_true, decide_eq_true_iff, beq_iff_eq]

/-- Under HOLD, data not yet served since their capture are kept against a branch capture (R68). -/
abbrev HoldsData (e : Entry) (r : Record) : Prop :=
  e.storePolicy = .hold ∧ r.state = .fresh ∧ r.served = 0#8

theorem holdsData_iff (e : Entry) (r : Record) : HoldsData e r ↔ e.storePolicy = .hold ∧ r.unserved = true := by
  rw [Record.unserved_iff]

/-! ## Branch captures (R68) -/

theorem State.branchCapture_of_held {s : State} {i : EntryIndex} (h : HoldsData (s.activeEntry i) (s.record i))
    (data : List Byte) : s.branchCapture i data = (s.setRecord i (s.record i).cleared).setFlag .captureHeld :=
  if_pos ((holdsData_iff _ _).1 h)

theorem State.branchCapture_of_free {s : State} {i : EntryIndex} (h : ¬ HoldsData (s.activeEntry i) (s.record i))
    (data : List Byte) :
    s.branchCapture i data = (s.setRecord i (s.record i).cleared).captureInto i data .branch :=
  if_neg fun hheld => h ((holdsData_iff _ _).2 hheld)

theorem State.branchCapture_record_of_ne {i j : EntryIndex} (h : i ≠ j) (data : List Byte) (s : State) :
    (s.branchCapture i data).record j = s.record j := by
  by_cases hheld : HoldsData (s.activeEntry i) (s.record i)
  · rw [State.branchCapture_of_held hheld, State.record_setFlag, State.record_setRecord_of_ne h]
  · rw [State.branchCapture_of_free hheld, State.captureInto, State.record_setRecord_of_ne h,
      State.record_setRecord_of_ne h]

theorem State.branchCapture_record_held {s : State} {i : EntryIndex} (h : HoldsData (s.activeEntry i) (s.record i))
    (data : List Byte) : (s.branchCapture i data).record i = { s.record i with fails := 0#4, silent := false } := by
  rw [State.branchCapture_of_held h, State.record_setFlag, State.record_setRecord_self]
  rfl

theorem State.branchCapture_record_free {s : State} {i : EntryIndex} (h : ¬ HoldsData (s.activeEntry i) (s.record i))
    (data : List Byte) :
    (s.branchCapture i data).record i =
      { capturedRecord data .branch s.sched.tickCount (s.record i) with fails := 0#4, silent := false } := by
  rw [State.branchCapture_of_free h, State.captureInto, State.record_setRecord_self, State.record_setRecord_self]
  rfl

theorem State.branchCapture_flag (i : EntryIndex) (data : List Byte) (f : Flag) (s : State) :
    (s.branchCapture i data).flag f =
      (s.flag f || decide (Flag.captureHeld = f ∧ HoldsData (s.activeEntry i) (s.record i))) := by
  by_cases h : HoldsData (s.activeEntry i) (s.record i)
  · rw [State.branchCapture_of_held h, State.flag_setFlag]
    simp only [eq_true h, and_true]
    rfl
  · rw [State.branchCapture_of_free h, decide_eq_false fun hheld => h hheld.2, Bool.or_false]
    rfl

/-! ## Branch failures (R77) -/

theorem State.branchFailure_record_of_ne {i j : EntryIndex} (h : i ≠ j) (s : State) :
    (s.branchFailure i).record j = s.record j := by
  unfold State.branchFailure
  dsimp only
  split
  · rw [State.record_setFlag, State.record_setRecord_of_ne h]
  · rw [State.record_setRecord_of_ne h]

theorem State.branchFailure_record_self (i : EntryIndex) (s : State) :
    (s.branchFailure i).record i = (s.record i).failed (s.activeEntry i).silentLimit := by
  unfold State.branchFailure
  dsimp only
  split
  · rw [State.record_setFlag, State.record_setRecord_self]
  · rw [State.record_setRecord_self]

theorem State.branchFailure_flag (i : EntryIndex) (f : Flag) (s : State) :
    (s.branchFailure i).flag f =
      (s.flag f ||
        decide (Flag.nodeSilent = f ∧ (s.activeEntry i).silentLimit ≤ satSucc (s.record i).fails)) := by
  unfold State.branchFailure
  dsimp only
  by_cases h : (s.activeEntry i).silentLimit ≤ satSucc (s.record i).fails
  · rw [if_pos h, State.flag_setFlag]
    simp only [h, and_true]
    rfl
  · rw [if_neg h]
    simp only [h, and_false, decide_false, Bool.or_false]
    rfl

/-! ## Publication reports (R78) -/

theorem State.publishReport_success {o : BranchOutcome} (h : o = .success) (i : EntryIndex) (version : Byte) (s : State) :
    s.publishReport i version o =
      s.setRecord i
        { s.record i with
          fails := 0#4, silent := false, pending := (s.record i).pending && decide ((s.record i).version ≠ version) } := by
  have hne : ((s.record i).version != version) = decide ((s.record i).version ≠ version) := by
    rw [bne, decide_not]
    rfl
  rw [← hne]
  exact if_pos h

/-- The publication data are given up at SILENT_LIMIT (R78). -/
abbrev GivesUp (e : Entry) (r : Record) : Prop :=
  r.pending = true ∧ e.silentLimit ≤ satSucc r.fails

theorem State.publishReport_lost {o : BranchOutcome} (h : o ≠ .success) {i : EntryIndex} {s : State}
    (hlost : GivesUp (s.activeEntry i) (s.record i)) (version : Byte) :
    s.publishReport i version o = ((s.branchFailure i).setPendingMark i false).setFlag .downlinkLost := by
  unfold State.publishReport
  rw [if_neg h]
  exact if_pos hlost

theorem State.publishReport_failed {o : BranchOutcome} (h : o ≠ .success) {i : EntryIndex} {s : State}
    (hkept : ¬ GivesUp (s.activeEntry i) (s.record i)) (version : Byte) :
    s.publishReport i version o = s.branchFailure i := by
  unfold State.publishReport
  rw [if_neg h]
  exact if_neg hkept

theorem State.publishReport_record_of_ne {i j : EntryIndex} (h : i ≠ j) (version : Byte) (o : BranchOutcome) (s : State) :
    (s.publishReport i version o).record j = s.record j := by
  by_cases ho : o = .success
  · rw [State.publishReport_success ho, State.record_setRecord_of_ne h]
  by_cases hlost : GivesUp (s.activeEntry i) (s.record i)
  · rw [State.publishReport_lost ho hlost, State.record_setFlag, State.setPendingMark, State.record_setRecord_of_ne h,
      State.branchFailure_record_of_ne h]
  · rw [State.publishReport_failed ho hlost, State.branchFailure_record_of_ne h]

theorem State.publishReport_record_success {o : BranchOutcome} (h : o = .success) (i : EntryIndex) (version : Byte)
    (s : State) :
    (s.publishReport i version o).record i =
      { s.record i with
        fails := 0#4, silent := false, pending := (s.record i).pending && decide ((s.record i).version ≠ version) } := by
  rw [State.publishReport_success h, State.record_setRecord_self]

theorem State.publishReport_record_failed {o : BranchOutcome} (h : o ≠ .success) (i : EntryIndex) (version : Byte)
    (s : State) :
    (s.publishReport i version o).record i =
      { s.record i with
        fails := satSucc (s.record i).fails
        silent := (s.record i).silent || decide ((s.activeEntry i).silentLimit ≤ satSucc (s.record i).fails)
        state :=
          if (s.activeEntry i).silentLimit ≤ satSucc (s.record i).fails ∧ (s.record i).state = .fresh then .stale
          else (s.record i).state
        pending := (s.record i).pending && decide (satSucc (s.record i).fails < (s.activeEntry i).silentLimit) } := by
  by_cases hlost : GivesUp (s.activeEntry i) (s.record i)
  · obtain ⟨hpending, hlimit⟩ := hlost
    rw [State.publishReport_lost h ⟨hpending, hlimit⟩, State.record_setFlag, State.setPendingMark,
      State.record_setRecord_self, State.branchFailure_record_self, Record.failed_eq,
      decide_eq_false (BitVec.not_lt.2 hlimit), Bool.and_false]
  · rw [State.publishReport_failed h hlost, State.branchFailure_record_self, Record.failed_eq]
    cases hpending : (s.record i).pending with
    | false => rw [Bool.false_and]
    | true =>
      rw [decide_eq_true (BitVec.not_le.1 fun hlimit => hlost ⟨hpending, hlimit⟩), Bool.and_true]

theorem State.publishReport_flag (i : EntryIndex) (version : Byte) (o : BranchOutcome) (f : Flag) (s : State) :
    (s.publishReport i version o).flag f =
      (s.flag f ||
        decide (o ≠ .success ∧
          (Flag.nodeSilent = f ∧ (s.activeEntry i).silentLimit ≤ satSucc (s.record i).fails ∨
            Flag.downlinkLost = f ∧ GivesUp (s.activeEntry i) (s.record i)))) := by
  by_cases ho : o = .success
  · rw [State.publishReport_success ho, ho]
    simp only [ne_eq, not_true_eq_false, false_and, decide_false, Bool.or_false]
    rfl
  by_cases hlost : GivesUp (s.activeEntry i) (s.record i)
  · have hset : ((s.branchFailure i).setPendingMark i false).flag f = (s.branchFailure i).flag f := rfl
    rw [State.publishReport_lost ho hlost, State.flag_setFlag, hset, State.branchFailure_flag]
    simp only [ne_eq, ho, not_false_eq_true, true_and, eq_true hlost, hlost.2, and_true, Bool.decide_or, Bool.or_assoc]
  · rw [State.publishReport_failed ho hlost, State.branchFailure_flag]
    simp only [ne_eq, ho, not_false_eq_true, true_and, hlost, and_false, or_false]

/-! ## Requests outside QUARANTINE (R92) -/

theorem State.request_flag {s : State} {e : EntryIndex} {op : QueueOp} {origin : Origin} (f : Flag)
    (h : s.link.state ≠ .quarantine) :
    (s.request e op origin).flag f =
      (s.flag f ||
        decide (Flag.queueFull = f ∧ (s.sched.queued e = false ∧ s.sched.isDeferred e = false) ∧
          16 ≤ s.sched.queue.length)) := by
  have hquar : ¬ (s.link.state.isQuarantine = true ∧ origin ≠ .periodic) :=
    fun hq => h (LinkState.isQuarantine_iff.1 hq.1)
  unfold State.request State.disposition queueCapacity
  rw [if_neg hquar]
  cases hqueued : s.sched.queued e with
  | true =>
    simp only [Bool.true_eq_false, false_and, and_false, decide_false, Bool.or_false]
    rfl
  | false =>
    cases hdeferred : s.sched.isDeferred e with
    | true =>
      simp only [Bool.true_eq_false, false_and, and_false, decide_false, Bool.or_false]
      rfl
    | false =>
      by_cases hroom : s.sched.queue.length < 16
      · have hnot : ¬ 16 ≤ s.sched.queue.length := by omega
        simp only [Bool.false_eq_true, if_false, if_pos hroom, hnot, and_false, decide_false, Bool.or_false]
        rfl
      · have hfull : 16 ≤ s.sched.queue.length := by omega
        simp only [Bool.false_eq_true, if_false, if_neg hroom, hfull, and_true]
        exact State.flag_setFlag _ _ _

theorem State.flag_request_of_flag {s : State} {f : Flag} (h : s.flag f = true) (e : EntryIndex) (op : QueueOp)
    (origin : Origin) : (s.request e op origin).flag f = true := by
  unfold State.request
  split
  · rw [State.flag_setFlag, h, Bool.true_or]
  · exact h
  · exact h
  · exact h
  · rw [State.flag_setFlag, Bool.or_eq_true]
    exact Or.inl h

theorem State.request_sched_congr {s t : State} (hsched : t.sched = s.sched) (hroute : t.route = s.route)
    (hstate : t.link.state = s.link.state) (e : EntryIndex) (op : QueueOp) (origin : Origin) :
    (t.request e op origin).sched = (s.request e op origin).sched := by
  have hpriority : t.priorityOf e = s.priorityOf e := by
    rw [State.priorityOf, State.priorityOf, State.activeEntry_congr hroute]
  have hdisposition : t.disposition e origin = s.disposition e origin := by
    rw [State.disposition, State.disposition, hstate, hsched]
  unfold State.request
  rw [hdisposition, hpriority]
  cases s.disposition e origin
  all_goals simp only [State.setFlag_sched, State.mapSched_sched, hsched]

theorem Scheduler.queued_merge (e j : EntryIndex) (c : BitVec 2) (q : Scheduler) :
    (q.merge e c).queued j = q.queued j := by
  have hentry : ∀ it : QueueItem, (if it.entry = e then { it with cls := higherClass it.cls c } else it).entry = it.entry :=
    fun it => by split <;> rfl
  simp only [Scheduler.queued, Scheduler.merge, List.any_map, Function.comp_def, hentry]

theorem Scheduler.queued_append_self (e : EntryIndex) (op : QueueOp) (origin : Origin) (c : BitVec 2) (q : Scheduler) :
    (q.append e op origin c).queued e = true :=
  Scheduler.queued_iff.2 ⟨_, List.mem_append_right _ (List.mem_singleton.2 rfl), rfl⟩

theorem Scheduler.isDeferred_defer_self (e : EntryIndex) (op : QueueOp) (origin : Origin) (q : Scheduler) :
    (q.defer e op origin).isDeferred e = true :=
  Scheduler.isDeferred_iff.2 ⟨_, mem_insertDeferred.2 (Or.inl rfl), rfl⟩

/-- A request that is not dropped leaves its entry in the queue or in the deferred set. -/
theorem State.request_holds {s : State} {e : EntryIndex} {op : QueueOp} {origin : Origin}
    (h : s.link.state ≠ .quarantine) :
    (s.request e op origin).sched.queued e = true ∨ (s.request e op origin).sched.isDeferred e = true := by
  have hkept : ¬ (s.link.state.isQuarantine = true ∧ origin ≠ .periodic) :=
    fun hq => h (LinkState.isQuarantine_iff.1 hq.1)
  unfold State.request State.disposition
  rw [if_neg hkept]
  cases hqueued : s.sched.queued e with
  | true => exact Or.inl ((Scheduler.queued_merge _ _ _ _).trans hqueued)
  | false =>
    cases hdeferred : s.sched.isDeferred e with
    | true => exact Or.inr hdeferred
    | false =>
      by_cases hroom : s.sched.queue.length < queueCapacity
      · simp only [Bool.false_eq_true, if_false, if_pos hroom]
        exact Or.inl (Scheduler.queued_append_self _ _ _ _ _)
      · simp only [Bool.false_eq_true, if_false, if_neg hroom]
        exact Or.inr (Scheduler.isDeferred_defer_self _ _ _ _)

/-! ## The score and the counters (R113, R114) -/

/-- The score and the counters move first (R111). -/
def State.outcomeCounted (op : TransactionOp) (o : BranchOutcome) (s : State) : State :=
  (s.scoreOutcome o).countOutcome op o

@[simp] theorem State.scoreOutcome_link_score (o : BranchOutcome) (s : State) :
    (s.scoreOutcome o).link.score = scoreAfter s.link.score o := by
  unfold State.scoreOutcome
  dsimp only
  split <;> rfl

theorem State.scoreOutcome_flag (o : BranchOutcome) (f : Flag) (s : State) :
    (s.scoreOutcome o).flag f =
      (s.flag f ||
        decide (Flag.linkWarning = f ∧ s.link.score.toNat < (scoreAfter s.link.score o).toNat ∧
          64 ≤ (scoreAfter s.link.score o).toNat)) := by
  unfold State.scoreOutcome warningScore
  dsimp only
  rw [← Bool.decide_and]
  by_cases h : s.link.score.toNat < (scoreAfter s.link.score o).toNat ∧ 64 ≤ (scoreAfter s.link.score o).toNat
  · rw [decide_eq_true h, if_pos rfl, State.flag_setFlag]
    simp only [eq_true h, and_true]
    rfl
  · rw [decide_eq_false h, if_neg Bool.false_ne_true, decide_eq_false fun hf => h hf.2, Bool.or_false]
    rfl

theorem scoreAfter_toNat (score : Byte) (o : BranchOutcome) :
    (scoreAfter score o).toNat =
      match o with
      | .success => score.toNat - 1
      | .lineFault => min 255 (score.toNat + 16)
      | .bitError => min 255 (score.toNat + 8)
      | .framing => min 255 (score.toNat + 4)
      | .check => min 255 (score.toNat + 4)
      | .shortReply => min 255 (score.toNat + 2)
      | .noReply => min 255 (score.toNat + 1) := by
  have hlt := score.isLt
  cases o with
  | success =>
    simp only [scoreAfter, satPred]
    split
    next h => simp [h]
    next h =>
      have hpos : score.toNat ≠ 0 := fun h0 => h (BitVec.eq_of_toNat_eq h0)
      simp only [BitVec.toNat_sub, BitVec.toNat_ofNat]
      omega
  | _ =>
    simp only [scoreAfter, BranchOutcome.points, BitVec.toNat_ofNat]
    omega

theorem State.countOutcome_flag (op : TransactionOp) (o : BranchOutcome) (f : Flag) (s : State) :
    (s.countOutcome op o).flag f = s.flag f :=
  State.flag_congr (State.countOutcome_agent_flags op o s) f

section
variable (op : TransactionOp) (o : BranchOutcome) (s : State)

@[simp] theorem State.outcomeCounted_route : (s.outcomeCounted op o).route = s.route := by
  simp [State.outcomeCounted]

@[simp] theorem State.outcomeCounted_store : (s.outcomeCounted op o).store = s.store := by
  simp [State.outcomeCounted]

@[simp] theorem State.outcomeCounted_sched : (s.outcomeCounted op o).sched = s.sched := by
  simp [State.outcomeCounted]

@[simp] theorem State.outcomeCounted_trunk : (s.outcomeCounted op o).trunk = s.trunk := by
  simp [State.outcomeCounted]

@[simp] theorem State.outcomeCounted_link_state : (s.outcomeCounted op o).link.state = s.link.state := by
  simp [State.outcomeCounted]

@[simp] theorem State.outcomeCounted_link_relay : (s.outcomeCounted op o).link.relay = s.link.relay := by
  simp [State.outcomeCounted]

@[simp] theorem State.outcomeCounted_link_score : (s.outcomeCounted op o).link.score = scoreAfter s.link.score o := by
  simp [State.outcomeCounted]

@[simp] theorem State.outcomeCounted_agent_slot : (s.outcomeCounted op o).agent.slot = s.agent.slot := by
  simp [State.outcomeCounted]

@[simp] theorem State.outcomeCounted_agent_result : (s.outcomeCounted op o).agent.result = s.agent.result := by
  simp [State.outcomeCounted]

theorem State.outcomeCounted_record (i : EntryIndex) : (s.outcomeCounted op o).record i = s.record i :=
  State.record_congr (State.outcomeCounted_store op o s) i

theorem State.outcomeCounted_countdown (i : EntryIndex) : (s.outcomeCounted op o).countdown i = s.countdown i :=
  State.countdown_congr (State.outcomeCounted_sched op o s) i

theorem State.outcomeCounted_activeEntry (i : EntryIndex) : (s.outcomeCounted op o).activeEntry i = s.activeEntry i :=
  State.activeEntry_congr (State.outcomeCounted_route op o s) i

theorem State.outcomeCounted_flag (f : Flag) :
    (s.outcomeCounted op o).flag f =
      (s.flag f ||
        decide (Flag.linkWarning = f ∧ s.link.score.toNat < (scoreAfter s.link.score o).toNat ∧
          64 ≤ (scoreAfter s.link.score o).toNat)) := by
  rw [State.outcomeCounted, State.countOutcome_flag, State.scoreOutcome_flag]

theorem State.outcomeCounted_flag_of_ne {f : Flag} (h : f ≠ .linkWarning) : (s.outcomeCounted op o).flag f = s.flag f := by
  rw [State.outcomeCounted_flag, decide_eq_false fun hf => h hf.1.symm, Bool.or_false]

theorem State.outcomeCounted_counters :
    (s.outcomeCounted op o).agent.counters =
      if op = .sleep then s.agent.counters
      else if o = .success then { s.agent.counters with branchOk := satSucc s.agent.counters.branchOk }
      else { s.agent.counters with branchFailed := satSucc s.agent.counters.branchFailed } := by
  unfold State.outcomeCounted State.countOutcome
  cases op with
  | sleep => exact State.scoreOutcome_agent_counters o s
  | _ =>
    simp only [reduceCtorEq, if_false]
    split <;> rw [State.count_agent, State.scoreOutcome_agent_counters] <;> rfl

end

/-! ## The state after (R111, R119) -/

section
variable (t : Transaction) (o : BranchOutcome) {s : State}

theorem State.leaveTransaction_of_limit (h : 128 ≤ s.link.score.toNat) : s.leaveTransaction t o = s.enterQuarantine :=
  if_pos h

theorem State.leaveTransaction_of_below (h : s.link.score.toNat < 128) :
    s.leaveTransaction t o = s.setLinkState (if t.op = .sleep ∧ o = .success then .asleep else .gap t.rate) := by
  have hbelow : ¬ quarantineScore ≤ s.link.score.toNat := Nat.not_le.2 h
  unfold State.leaveTransaction
  rw [if_neg hbelow]
  split <;> rfl

theorem State.enterQuarantine_flag (f : Flag) (s : State) :
    s.enterQuarantine.flag f = (s.flag f || decide (Flag.linkQuarantined = f)) := by
  rw [← State.flag_setFlag]
  refine State.flag_congr ?_ f
  unfold State.enterQuarantine
  rw [State.finishPending_agent_flags, State.finishPending_agent_flags]
  rfl

theorem State.leaveTransaction_flag (f : Flag) (s : State) :
    (s.leaveTransaction t o).flag f = (s.flag f || decide (Flag.linkQuarantined = f ∧ 128 ≤ s.link.score.toNat)) := by
  by_cases h : 128 ≤ s.link.score.toNat
  · rw [State.leaveTransaction_of_limit t o h, State.enterQuarantine_flag]
    simp only [h, and_true]
  · rw [State.leaveTransaction_of_below t o (Nat.not_le.1 h), decide_eq_false fun hf => h hf.2, Bool.or_false]
    rfl

theorem State.leaveTransaction_sched (h : s.link.score.toNat < 128) : (s.leaveTransaction t o).sched = s.sched := by
  rw [State.leaveTransaction_of_below t o h]
  rfl

end

end Sys2Proof.Machine

/-! PROOFS. The outcome of a REFRESH and of a PUBLISH on the record store and the scheduler (O42, O43). -/

namespace Sys2Proof.Machine

/-! ## An outcome up to the commit and the next state (R111) -/

/-- The outcome after its hand-over by OP, before a pending commit and the next state (R111). -/
def State.outcomeHanded (t : Transaction) (data : List Byte) (o : BranchOutcome) (s : State) : State :=
  ((s.outcomeCounted t.op o).handOn t.op data o).mapLink fun c => { c with responder := none }

theorem State.takeOutcome_eq (t : Transaction) (data : List Byte) (o : BranchOutcome) (s : State) :
    s.takeOutcome t data o = ((s.outcomeHanded t data o).applyPendingCommit).leaveTransaction t o :=
  rfl

section
variable (t : Transaction) (data : List Byte) (o : BranchOutcome) (s : State)

@[simp] theorem State.outcomeHanded_route : (s.outcomeHanded t data o).route = s.route := by
  simp [State.outcomeHanded]

@[simp] theorem State.outcomeHanded_link_score : (s.outcomeHanded t data o).link.score = scoreAfter s.link.score o := by
  simp [State.outcomeHanded]

theorem State.outcomeHanded_flag (f : Flag) :
    (s.outcomeHanded t data o).flag f = ((s.outcomeCounted t.op o).handOn t.op data o).flag f :=
  rfl

theorem State.takeOutcome_link_score : (s.takeOutcome t data o).link.score = scoreAfter s.link.score o := by
  rw [State.takeOutcome_eq, State.leaveTransaction_link_score, State.applyPendingCommit_link,
    State.outcomeHanded_link_score]

theorem State.takeOutcome_flag (f : Flag) :
    (s.takeOutcome t data o).flag f =
      (((s.outcomeCounted t.op o).handOn t.op data o).flag f ||
        decide (Flag.linkQuarantined = f ∧ 128 ≤ (scoreAfter s.link.score o).toNat)) := by
  have hflags : (s.outcomeHanded t data o).applyPendingCommit.flag f = (s.outcomeHanded t data o).flag f :=
    State.flag_congr (State.applyPendingCommit_agent_flags _) f
  rw [State.takeOutcome_eq, State.leaveTransaction_flag, hflags, State.outcomeHanded_flag,
    State.applyPendingCommit_link, State.outcomeHanded_link_score]

end

/-! ## Outcomes with no commit pending -/

section
variable {t : Transaction} {data : List Byte} {o : BranchOutcome} {s : State}

theorem State.takeOutcome_uncommitted (h : s.route.commitPending = false) :
    s.takeOutcome t data o = (s.outcomeHanded t data o).leaveTransaction t o := by
  have hnone : ¬ (s.outcomeHanded t data o).route.commitPending = true := by
    rw [State.outcomeHanded_route, h]
    exact Bool.false_ne_true
  rw [State.takeOutcome_eq, State.applyPendingCommit, if_neg hnone]

theorem State.takeOutcome_store (h : s.route.commitPending = false) :
    (s.takeOutcome t data o).store = ((s.outcomeCounted t.op o).handOn t.op data o).store := by
  rw [State.takeOutcome_uncommitted h, State.leaveTransaction_store]
  rfl

theorem State.takeOutcome_record (h : s.route.commitPending = false) (i : EntryIndex) :
    (s.takeOutcome t data o).record i = ((s.outcomeCounted t.op o).handOn t.op data o).record i :=
  State.record_congr (State.takeOutcome_store h) i

theorem State.takeOutcome_countdown (h : s.route.commitPending = false) (i : EntryIndex) :
    (s.takeOutcome t data o).countdown i = ((s.outcomeCounted t.op o).handOn t.op data o).countdown i := by
  rw [State.countdown, State.takeOutcome_uncommitted h, State.leaveTransaction_sched_countdowns]
  rfl

theorem State.takeOutcome_trunk (h : s.route.commitPending = false) :
    (s.takeOutcome t data o).trunk = ((s.outcomeCounted t.op o).handOn t.op data o).trunk := by
  rw [State.takeOutcome_uncommitted h, State.leaveTransaction_trunk]
  rfl

theorem State.takeOutcome_link_relay (h : s.route.commitPending = false) :
    (s.takeOutcome t data o).link.relay = ((s.outcomeCounted t.op o).handOn t.op data o).link.relay := by
  rw [State.takeOutcome_uncommitted h, State.leaveTransaction_link_relay]
  rfl

theorem State.takeOutcome_sched (h : s.route.commitPending = false)
    (hscore : (s.takeOutcome t data o).link.score.toNat < 128) :
    (s.takeOutcome t data o).sched = ((s.outcomeCounted t.op o).handOn t.op data o).sched := by
  rw [State.takeOutcome_link_score, ← State.outcomeHanded_link_score t data o s] at hscore
  rw [State.takeOutcome_uncommitted h, State.leaveTransaction_sched t o hscore]
  rfl

end

/-- What an outcome of a transaction never changes in the store but the records. -/
theorem State.takeOutcome_store_but_records (t : Transaction) (data : List Byte) (o : BranchOutcome) (s : State) :
    { (s.takeOutcome t data o).store with records := s.store.records } = s.store := by
  simp

/-! ## REFRESH (R115) -/

section
variable {i : EntryIndex} {data : List Byte} {o : BranchOutcome} {s : State}

theorem State.refreshOutcome_success (h : o = .success) :
    s.refreshOutcome i data o = (s.branchCapture i data).reloadCountdown i :=
  if_pos h

theorem State.refreshOutcome_failed (h : o ≠ .success) : s.refreshOutcome i data o = s.branchFailure i :=
  if_neg h

theorem State.reloadCountdown_record (j : EntryIndex) : (s.reloadCountdown i).record j = s.record j :=
  State.record_congr (State.reloadCountdown_store i s) j

theorem State.reloadCountdown_flag (f : Flag) : (s.reloadCountdown i).flag f = s.flag f := by
  rw [State.flag, State.reloadCountdown_agent]
  rfl

theorem State.reloadCountdown_countdown_self :
    (s.reloadCountdown i).countdown i =
      if (s.activeEntry i).refresh = 0#8 then s.countdown i else (s.activeEntry i).refresh := by
  unfold State.reloadCountdown
  split
  · rfl
  · exact State.countdown_setCountdown_self _ _ _

theorem State.reloadCountdown_countdown_of_ne {j : EntryIndex} (h : i ≠ j) :
    (s.reloadCountdown i).countdown j = s.countdown j := by
  unfold State.reloadCountdown
  split
  · rfl
  · exact State.countdown_setCountdown_of_ne h _ _

theorem State.branchCapture_countdown (j : EntryIndex) : (s.branchCapture i data).countdown j = s.countdown j :=
  State.countdown_congr (State.branchCapture_sched i data s) j

theorem State.branchFailure_countdown (j : EntryIndex) : (s.branchFailure i).countdown j = s.countdown j :=
  State.countdown_congr (State.branchFailure_sched i s) j

theorem State.branchCapture_activeEntry (j : EntryIndex) : (s.branchCapture i data).activeEntry j = s.activeEntry j :=
  State.activeEntry_congr (State.branchCapture_route i data s) j

theorem State.refreshOutcome_of_ne {j : EntryIndex} (h : i ≠ j) :
    (s.refreshOutcome i data o).record j = s.record j ∧ (s.refreshOutcome i data o).countdown j = s.countdown j := by
  by_cases ho : o = .success
  · rw [State.refreshOutcome_success ho, State.reloadCountdown_record, State.branchCapture_record_of_ne h,
      State.reloadCountdown_countdown_of_ne h, State.branchCapture_countdown]
    exact ⟨rfl, rfl⟩
  · rw [State.refreshOutcome_failed ho, State.branchFailure_record_of_ne h, State.branchFailure_countdown]
    exact ⟨rfl, rfl⟩

theorem State.refreshOutcome_countdown_success (h : o = .success) :
    (s.refreshOutcome i data o).countdown i =
      if (s.activeEntry i).refresh = 0#8 then s.countdown i else (s.activeEntry i).refresh := by
  rw [State.refreshOutcome_success h, State.reloadCountdown_countdown_self, State.branchCapture_activeEntry,
    State.branchCapture_countdown]

theorem State.refreshOutcome_record_held (h : o = .success) (hheld : HoldsData (s.activeEntry i) (s.record i)) :
    (s.refreshOutcome i data o).record i = { s.record i with fails := 0#4, silent := false } := by
  rw [State.refreshOutcome_success h, State.reloadCountdown_record, State.branchCapture_record_held hheld]

theorem State.refreshOutcome_record_free (h : o = .success) (hfree : ¬ HoldsData (s.activeEntry i) (s.record i)) :
    (s.refreshOutcome i data o).record i =
      { capturedRecord data .branch s.sched.tickCount (s.record i) with fails := 0#4, silent := false } := by
  rw [State.refreshOutcome_success h, State.reloadCountdown_record, State.branchCapture_record_free hfree]

theorem State.refreshOutcome_record_failed (h : o ≠ .success) :
    (s.refreshOutcome i data o).record i =
      { s.record i with
        fails := satSucc (s.record i).fails
        silent := (s.record i).silent || decide ((s.activeEntry i).silentLimit ≤ satSucc (s.record i).fails)
        state :=
          if (s.activeEntry i).silentLimit ≤ satSucc (s.record i).fails ∧ (s.record i).state = .fresh then .stale
          else (s.record i).state } := by
  rw [State.refreshOutcome_failed h, State.branchFailure_record_self, Record.failed_eq]

theorem State.refreshOutcome_flag (f : Flag) :
    (s.refreshOutcome i data o).flag f =
      (s.flag f ||
        (decide (Flag.captureHeld = f ∧ o = .success ∧ HoldsData (s.activeEntry i) (s.record i)) ||
          decide (Flag.nodeSilent = f ∧ o ≠ .success ∧ (s.activeEntry i).silentLimit ≤ satSucc (s.record i).fails))) := by
  by_cases ho : o = .success
  · rw [State.refreshOutcome_success ho, State.reloadCountdown_flag, State.branchCapture_flag]
    simp only [ho, true_and, ne_eq, not_true_eq_false, false_and, and_false, decide_false, Bool.or_false]
  · rw [State.refreshOutcome_failed ho, State.branchFailure_flag]
    simp only [ho, false_and, and_false, decide_false, Bool.false_or, ne_eq, not_false_eq_true, true_and]

end

/-- The record of entry i and its countdown after a REFRESH's outcome, or that of an unmasked relay (R115, R133,
R134). -/
structure RefreshReported (i : EntryIndex) (data : List Byte) (o : BranchOutcome) (s s' : State) : Prop where
  others : ∀ j, j ≠ i → s'.record j = s.record j ∧ s'.countdown j = s.countdown j
  held : o = .success → HoldsData (s.activeEntry i) (s.record i) →
    s'.record i = { s.record i with fails := 0#4, silent := false }
  captured : o = .success → ¬ HoldsData (s.activeEntry i) (s.record i) →
    s'.record i = { capturedRecord data .branch s.sched.tickCount (s.record i) with fails := 0#4, silent := false }
  reloaded : o = .success →
    s'.countdown i = if (s.activeEntry i).refresh = 0#8 then s.countdown i else (s.activeEntry i).refresh
  failed : o ≠ .success →
    s'.record i =
        { s.record i with
          fails := satSucc (s.record i).fails
          silent := (s.record i).silent || decide ((s.activeEntry i).silentLimit ≤ satSucc (s.record i).fails)
          state :=
            if (s.activeEntry i).silentLimit ≤ satSucc (s.record i).fails ∧ (s.record i).state = .fresh then .stale
            else (s.record i).state } ∧
      s'.countdown i = s.countdown i

theorem State.refreshOutcome_reported (i : EntryIndex) (data : List Byte) (o : BranchOutcome) (s : State) :
    RefreshReported i data o s (s.refreshOutcome i data o) where
  others _ hj := State.refreshOutcome_of_ne hj.symm
  held := State.refreshOutcome_record_held
  captured := State.refreshOutcome_record_free
  reloaded := State.refreshOutcome_countdown_success
  failed ho :=
    ⟨State.refreshOutcome_record_failed ho, by rw [State.refreshOutcome_failed ho, State.branchFailure_countdown]⟩

/-- The report depends on records, countdowns, active entries and the tick count alone. -/
theorem RefreshReported.transport {i : EntryIndex} {data : List Byte} {o : BranchOutcome} {s s' u u' : State}
    (h : RefreshReported i data o u u') (hstore : u.store = s.store) (hsched : u.sched = s.sched)
    (hroute : u.route = s.route) (hrecord : ∀ j, s'.record j = u'.record j)
    (hcountdown : ∀ j, s'.countdown j = u'.countdown j) : RefreshReported i data o s s' := by
  obtain ⟨hothers, hheld, hcaptured, hreloaded, hfailed⟩ := h
  simp only [State.record_congr hstore, State.countdown_congr hsched, State.activeEntry_congr hroute, hsched,
    ← hrecord, ← hcountdown] at hothers hheld hcaptured hreloaded hfailed
  exact ⟨hothers, hheld, hcaptured, hreloaded, hfailed⟩

theorem State.handOn_refresh {op : TransactionOp} {i : EntryIndex} {origin : Origin} (h : op = .refresh i origin)
    (data : List Byte) (o : BranchOutcome) (s : State) : s.handOn op data o = s.refreshOutcome i data o := by
  rw [h]
  rfl

/-- The scheduler but for its countdowns, after an outcome that adds no work. -/
theorem State.takeOutcome_sched_but_countdowns {t : Transaction} {data : List Byte} {o : BranchOutcome} {s : State}
    (hcommit : s.route.commitPending = false) (hscore : (s.takeOutcome t data o).link.score.toNat < 128)
    (h : { ((s.outcomeCounted t.op o).handOn t.op data o).sched with countdowns := s.sched.countdowns } = s.sched) :
    { (s.takeOutcome t data o).sched with countdowns := s.sched.countdowns } = s.sched := by
  rw [State.takeOutcome_sched hcommit hscore]
  exact h

/-- The flags that the hand-over alone may set. -/
theorem State.takeOutcome_flag_handed {t : Transaction} {data : List Byte} {o : BranchOutcome} {s : State} {f : Flag}
    (h : f ≠ .linkQuarantined) :
    (s.takeOutcome t data o).flag f = ((s.outcomeCounted t.op o).handOn t.op data o).flag f := by
  have hother : ¬ (Flag.linkQuarantined = f ∧ 128 ≤ (scoreAfter s.link.score o).toNat) := fun hf => h hf.1.symm
  rw [State.takeOutcome_flag, decide_eq_false hother, Bool.or_false]

/-- The flags of a refresh outcome whose score has moved before. -/
theorem State.refreshOutcome_flag_counted {op : TransactionOp} {i : EntryIndex} {data : List Byte} {o : BranchOutcome}
    {s : State} {f : Flag} (h : f ≠ .linkWarning) :
    ((s.outcomeCounted op o).refreshOutcome i data o).flag f =
      (s.flag f ||
        (decide (Flag.captureHeld = f ∧ o = .success ∧ HoldsData (s.activeEntry i) (s.record i)) ||
          decide (Flag.nodeSilent = f ∧ o ≠ .success ∧ (s.activeEntry i).silentLimit ≤ satSucc (s.record i).fails))) := by
  rw [State.refreshOutcome_flag, State.outcomeCounted_record, State.outcomeCounted_activeEntry,
    State.outcomeCounted_flag_of_ne _ _ _ h]

/-- Settles O42: the capture or the failure that a REFRESH reports, on a state whose score has moved. -/
theorem refreshOutcomeOnRecord : Obligations.RefreshOutcomeOnRecord := by
  rintro t i origin data o s s' r e hop rfl rfl rfl hcommit
  have hhanded := State.handOn_refresh hop data o (s.outcomeCounted t.op o)
  obtain ⟨hothers, hheld, hcaptured, hreloaded, hfailed⟩ : RefreshReported i data o s (s.takeOutcome t data o) :=
    ((s.outcomeCounted t.op o).refreshOutcome_reported i data o).transport (State.outcomeCounted_store _ _ _)
      (State.outcomeCounted_sched _ _ _) (State.outcomeCounted_route _ _ _)
      (fun j => by rw [State.takeOutcome_record hcommit, hhanded])
      (fun j => by rw [State.takeOutcome_countdown hcommit, hhanded])
  have hflag : ∀ f ≠ Flag.linkWarning, f ≠ .linkQuarantined → (s.takeOutcome t data o).flag f =
      (s.flag f ||
        (decide (Flag.captureHeld = f ∧ o = .success ∧ HoldsData (s.activeEntry i) (s.record i)) ||
          decide (Flag.nodeSilent = f ∧ o ≠ .success ∧ (s.activeEntry i).silentLimit ≤ satSucc (s.record i).fails))) :=
    fun f hwarning hquarantined => by
      rw [State.takeOutcome_flag_handed hquarantined, hhanded, State.refreshOutcome_flag_counted hwarning]
  refine ⟨hothers, fun ho => ⟨hheld ho, hcaptured ho, hreloaded ho⟩, hfailed, ?_, ?_, ?_, ?_,
    State.takeOutcome_store_but_records t data o s, ?_, ?_, fun hscore =>
      State.takeOutcome_sched_but_countdowns hcommit hscore ?_⟩
  · simp [hflag .captureHeld nofun nofun]
  · simp [hflag .nodeSilent nofun nofun]
  · simp [hflag .downlinkLost nofun nofun]
  · simp [hflag .queueFull nofun nofun]
  · rw [State.takeOutcome_trunk hcommit, hhanded, State.refreshOutcome_trunk, State.outcomeCounted_trunk]
  · rw [State.takeOutcome_link_relay hcommit, hhanded, State.refreshOutcome_link, State.outcomeCounted_link_relay]
  · simp [hhanded]

/-! ## PUBLISH (R116, R78) -/

section
variable {i : EntryIndex} {version : Byte} {o : BranchOutcome} {s : State}

theorem State.publishOutcome_wanted (h : ((s.publishReport i version o).record i).pending = true) :
    s.publishOutcome i version o = (s.publishReport i version o).request i .publish .retry :=
  if_pos h

theorem State.publishOutcome_unwanted (h : ¬ ((s.publishReport i version o).record i).pending = true) :
    s.publishOutcome i version o = s.publishReport i version o :=
  if_neg h

theorem State.publishOutcome_record (j : EntryIndex) :
    (s.publishOutcome i version o).record j = (s.publishReport i version o).record j := by
  by_cases h : ((s.publishReport i version o).record i).pending = true
  · rw [State.publishOutcome_wanted h]
    exact State.record_congr (State.request_store _ _ _ _) j
  · rw [State.publishOutcome_unwanted h]

theorem State.publishOutcome_sched :
    (s.publishOutcome i version o).sched =
      if ((s.publishOutcome i version o).record i).pending = true then (s.request i .publish .retry).sched
      else s.sched := by
  rw [State.publishOutcome_record]
  by_cases h : ((s.publishReport i version o).record i).pending = true
  · have hlink : (s.publishReport i version o).link.state = s.link.state := by rw [State.publishReport_link]
    rw [if_pos h, State.publishOutcome_wanted h,
      State.request_sched_congr (State.publishReport_sched _ _ _ _) (State.publishReport_route _ _ _ _) hlink]
  · rw [if_neg h, State.publishOutcome_unwanted h, State.publishReport_sched]

theorem Scheduler.holds_none_iff {q : Scheduler} {e : EntryIndex} :
    (q.queued e = false ∧ q.isDeferred e = false) ↔ (∀ it ∈ q.queue, it.entry ≠ e) ∧ ∀ d ∈ q.deferred, d.entry ≠ e := by
  rw [← Bool.not_eq_true, ← Bool.not_eq_true, Scheduler.queued_iff, Scheduler.isDeferred_iff]
  push Not
  rfl

theorem State.publishOutcome_flag (f : Flag) (h : s.link.state ≠ .quarantine) :
    (s.publishOutcome i version o).flag f =
      (s.flag f ||
        decide (o ≠ .success ∧
          (Flag.nodeSilent = f ∧ (s.activeEntry i).silentLimit ≤ satSucc (s.record i).fails ∨
            Flag.downlinkLost = f ∧ GivesUp (s.activeEntry i) (s.record i))) ||
        decide (Flag.queueFull = f ∧ ((s.publishOutcome i version o).record i).pending = true ∧
          (∀ it ∈ s.sched.queue, it.entry ≠ i) ∧ (∀ d ∈ s.sched.deferred, d.entry ≠ i) ∧
            16 ≤ s.sched.queue.length)) := by
  rw [← State.publishReport_flag i version o f s, State.publishOutcome_record]
  by_cases hp : ((s.publishReport i version o).record i).pending = true
  · have hlink : (s.publishReport i version o).link.state ≠ .quarantine := by rwa [State.publishReport_link]
    rw [State.publishOutcome_wanted hp, State.request_flag f hlink]
    simp only [Scheduler.holds_none_iff, State.publishReport_sched, hp, true_and, and_assoc]
  · rw [State.publishOutcome_unwanted hp, decide_eq_false fun hf => hp hf.2.1, Bool.or_false]

end

theorem State.handOn_publish {op : TransactionOp} {i : EntryIndex} {origin : Origin} {version : Byte} {sent : List Byte}
    (h : op = .publish i origin version sent) (data : List Byte) (o : BranchOutcome) (s : State) :
    s.handOn op data o = s.publishOutcome i version o := by
  rw [h]
  rfl

theorem LinkState.ne_quarantine_of_transaction {l : LinkState} {t : Transaction} (h : l.transaction = some t) :
    l ≠ .quarantine := by
  rintro rfl
  cases h

/-- Below the quarantine limit the state after an outcome is not QUARANTINE, and at it no other. -/
theorem State.takeOutcome_below {t : Transaction} {data : List Byte} {o : BranchOutcome} {s : State}
    (h : (s.takeOutcome t data o).link.state ≠ .quarantine) : (s.takeOutcome t data o).link.score.toNat < 128 := by
  by_contra hscore
  refine h ?_
  rw [State.takeOutcome_link_score, not_lt] at hscore
  have hlimit : 128 ≤ (s.outcomeHanded t data o).applyPendingCommit.link.score.toNat := by
    rwa [State.applyPendingCommit_link, State.outcomeHanded_link_score]
  rw [State.takeOutcome_eq, State.leaveTransaction_of_limit t o hlimit, State.enterQuarantine, State.finishPending_link,
    State.finishPending_link]
  rfl

/-- Settles O43: the report of a publication and the RETRY it asks for, on a state whose score has moved. -/
theorem publishOutcomeOnRecord : Obligations.PublishOutcomeOnRecord := by
  rintro t i origin version sent data o s s' r e hop htransaction rfl rfl rfl hcommit
  have hhanded := State.handOn_publish hop data o (s.outcomeCounted t.op o)
  have hstate : (s.outcomeCounted t.op o).link.state ≠ .quarantine := by
    rw [State.outcomeCounted_link_state]
    exact LinkState.ne_quarantine_of_transaction htransaction
  have hrecord : ∀ j, (s.takeOutcome t data o).record j = ((s.outcomeCounted t.op o).publishReport i version o).record j :=
    fun j => by rw [State.takeOutcome_record hcommit, hhanded, State.publishOutcome_record]
  have hsched : (s.takeOutcome t data o).link.score.toNat < 128 → (s.takeOutcome t data o).sched =
      if ((s.takeOutcome t data o).record i).pending = true then (s.request i .publish .retry).sched else s.sched :=
    fun hscore => by
      rw [State.takeOutcome_record hcommit, State.takeOutcome_sched hcommit hscore, hhanded, State.publishOutcome_sched,
        State.request_sched_congr (State.outcomeCounted_sched t.op o s) (State.outcomeCounted_route _ _ _)
          (State.outcomeCounted_link_state _ _ _), State.outcomeCounted_sched]
  have hflag : ∀ f ≠ Flag.linkWarning, f ≠ .linkQuarantined → (s.takeOutcome t data o).flag f =
      (s.flag f ||
        decide (o ≠ .success ∧
          (Flag.nodeSilent = f ∧ (s.activeEntry i).silentLimit ≤ satSucc (s.record i).fails ∨
            Flag.downlinkLost = f ∧ GivesUp (s.activeEntry i) (s.record i))) ||
        decide (Flag.queueFull = f ∧ ((s.takeOutcome t data o).record i).pending = true ∧
          (∀ it ∈ s.sched.queue, it.entry ≠ i) ∧ (∀ d ∈ s.sched.deferred, d.entry ≠ i) ∧
            16 ≤ s.sched.queue.length)) :=
    fun f hwarning hquarantined => by
      rw [State.takeOutcome_flag_handed hquarantined, State.takeOutcome_record hcommit, hhanded,
        State.publishOutcome_flag f hstate, State.outcomeCounted_record, State.outcomeCounted_activeEntry,
        State.outcomeCounted_flag_of_ne _ _ _ hwarning, State.outcomeCounted_sched]
  refine ⟨fun j hj => ?_, fun j => ?_, fun ho => ?_, fun ho => ?_, ?_, ?_, ?_, ?_, fun hpending hstay => ?_,
    State.takeOutcome_store_but_records t data o s, ?_, ?_, hsched⟩
  · rw [hrecord, State.publishReport_record_of_ne hj.symm, State.outcomeCounted_record]
  · rw [State.takeOutcome_countdown hcommit, hhanded, State.countdown, State.publishOutcome_sched_countdowns,
      State.outcomeCounted_sched]
    rfl
  · rw [hrecord, State.publishReport_record_success ho, State.outcomeCounted_record]
  · rw [hrecord, State.publishReport_record_failed ho, State.outcomeCounted_record, State.outcomeCounted_activeEntry]
  · simp [hflag .nodeSilent nofun nofun]
  · simp [hflag .downlinkLost nofun nofun]
  · simp [hflag .captureHeld nofun nofun]
  · simp [hflag .queueFull nofun nofun]
  · rw [hsched (State.takeOutcome_below hstay), if_pos hpending]
    exact State.request_holds (LinkState.ne_quarantine_of_transaction htransaction)
  · rw [State.takeOutcome_trunk hcommit, hhanded, State.publishOutcome_trunk, State.outcomeCounted_trunk]
  · rw [State.takeOutcome_link_relay hcommit, hhanded, State.publishOutcome_link, State.outcomeCounted_link_relay]

end Sys2Proof.Machine

/-! PROOFS. The outcome of a relay on the record and on its two sides (O44). -/

namespace Sys2Proof.Machine

/-! ## The report of a relay (R133, R134) -/

/-- What an unmasked relay reports of its entry: as for a REFRESH with the characters it received (R133, R134). -/
def State.relayReported (x : RelayContext) (o : BranchOutcome) (s : State) : State :=
  if x.entry.masked then s else s.refreshOutcome x.index x.received o

section
variable {x : RelayContext} {o : BranchOutcome} {s : State}

theorem State.relayReported_masked (h : x.entry.masked = true) : s.relayReported x o = s :=
  if_pos h

theorem State.relayReported_unmasked (h : x.entry.masked = false) :
    s.relayReported x o = s.refreshOutcome x.index x.received o :=
  if_neg (Bool.eq_false_iff.1 h)

theorem State.relayReported_trunk : (s.relayReported x o).trunk = s.trunk := by
  unfold State.relayReported
  split
  · rfl
  · exact State.refreshOutcome_trunk _ _ _ _

theorem State.relayReported_link : (s.relayReported x o).link = s.link := by
  unfold State.relayReported
  split
  · rfl
  · exact State.refreshOutcome_link _ _ _ _

theorem State.relayOutcome_success (hrelay : s.link.relay = some x) (ho : o = .success) :
    s.relayOutcome o = (s.relayReported x o).setRelay x.branchSucceeded.kept := by
  have hreported : s.reportRelaySuccess x = s.relayReported x o := by
    rw [State.reportRelaySuccess, State.relayReported, State.refreshOutcome_success ho]
  unfold State.relayOutcome
  rw [hrelay, ← hreported]
  exact if_pos ho

theorem State.relayOutcome_failed (hrelay : s.link.relay = some x) (ho : o ≠ .success) :
    s.relayOutcome o = (s.relayReported x o).endBranchSide (some o) := by
  have hreported : s.reportRelayFailure x = s.relayReported x o := by
    rw [State.reportRelayFailure, State.relayReported, State.refreshOutcome_failed ho]
  unfold State.relayOutcome
  rw [hrelay, ← hreported]
  exact if_neg ho

theorem State.relayOutcome_reported (hrelay : s.link.relay = some x) :
    (s.relayOutcome o).store = (s.relayReported x o).store ∧ (s.relayOutcome o).sched = (s.relayReported x o).sched ∧
      (s.relayOutcome o).agent = (s.relayReported x o).agent := by
  by_cases ho : o = .success
  · rw [State.relayOutcome_success hrelay ho]
    exact ⟨rfl, rfl, rfl⟩
  · rw [State.relayOutcome_failed hrelay ho]
    exact ⟨State.endBranchSide_store _ _, State.endBranchSide_sched _ _, State.endBranchSide_agent _ _⟩

/-! ## The sides of a relay (R132 to R136) -/

theorem State.tellNothingMore_waiting {waiting : List ForwardChar} {more : Bool}
    (h : s.trunk.port = .forward none waiting more) : s.tellNothingMore = (s.setPort .passive).endTrunkSide := by
  rw [State.tellNothingMore, h]

theorem State.tellNothingMore_sending {c : ForwardChar} {waiting : List ForwardChar} {more : Bool}
    (h : s.trunk.port = .forward (some c) waiting more) :
    s.tellNothingMore = s.setPort (.forward (some c) waiting true) := by
  rw [State.tellNothingMore, h]

theorem State.tellNothingMore_elsewhere (h : ∀ sending waiting more, s.trunk.port ≠ .forward sending waiting more) :
    s.tellNothingMore = s := by
  unfold State.tellNothingMore
  split
  next hport => exact absurd hport (h _ _ _)
  next hport => exact absurd hport (h _ _ _)
  all_goals rfl

/-- With no relay there is no context to end. -/
theorem State.tellNothingMore_of_none (h : s.link.relay = none) : s.tellNothingMore.link.relay = none := by
  unfold State.tellNothingMore
  split
  · unfold State.endTrunkSide
    rw [State.setRelay_link, State.setPort_link, h]
    rfl
  all_goals exact h

theorem State.endBranchSide_held {outcome : Option BranchOutcome} {check : Byte} {held : List ForwardChar}
    (hrelay : s.link.relay = some x) (hside : x.trunkSide = .stillOpen check held) (hheld : held ≠ []) :
    s.endBranchSide outcome = s.setRelay (some { x with branchSide := .ended outcome }) := by
  have hempty : x.held.isEmpty = false := by
    rw [RelayContext.held, hside, List.isEmpty_eq_false_iff]
    exact hheld
  unfold State.endBranchSide
  simp only [hrelay, hempty, Bool.false_eq_true, if_false, RelayContext.kept, hside]

theorem State.endBranchSide_unheld {outcome : Option BranchOutcome} (hrelay : s.link.relay = some x)
    (hheld : x.held = []) :
    s.endBranchSide outcome =
      (s.setRelay (RelayContext.kept { x with branchSide := .ended outcome })).tellNothingMore := by
  unfold State.endBranchSide
  rw [hrelay]
  exact if_pos (by rw [hheld]; rfl)

/-- Both sides have ended: the context goes (R136). -/
theorem RelayContext.kept_of_ended {y : RelayContext} {outcome : Option BranchOutcome} (htrunk : y.trunkSide = .ended)
    (hbranch : y.branchSide = .ended outcome) : y.kept = none := by
  rw [RelayContext.kept, htrunk, hbranch]

theorem RelayContext.kept_of_open {y : RelayContext} {check : Byte} {held : List ForwardChar}
    (htrunk : y.trunkSide = .stillOpen check held) : y.kept = some y := by
  rw [RelayContext.kept, htrunk]

/-- A relay that succeeds with its trunk side open holds the trunk check byte (R132). -/
theorem State.relayOutcome_success_open {check : Byte} {held : List ForwardChar} (hrelay : s.link.relay = some x)
    (ho : o = .success) (hside : x.trunkSide = .stillOpen check held) :
    (s.relayOutcome o).link.relay =
        some
          { x with
            branchSide := .ended (some .success), trunkSide := .stillOpen check (held ++ [.check (~~~ check)]) } ∧
      (s.relayOutcome o).trunk = s.trunk := by
  have hkept : x.branchSucceeded.kept =
      some
        { x with
          branchSide := .ended (some .success), trunkSide := .stillOpen check (held ++ [.check (~~~ check)]) } := by
    unfold RelayContext.branchSucceeded
    rw [hside]
    rfl
  rw [State.relayOutcome_success hrelay ho, hkept]
  exact ⟨rfl, State.relayReported_trunk⟩

theorem State.relayOutcome_failed_held {check : Byte} {held : List ForwardChar} (hrelay : s.link.relay = some x)
    (ho : o ≠ .success) (hside : x.trunkSide = .stillOpen check held) (hheld : held ≠ []) :
    (s.relayOutcome o).link.relay = some { x with branchSide := .ended (some o) } ∧
      (s.relayOutcome o).trunk = s.trunk := by
  have hlink : (s.relayReported x o).link.relay = some x := by rw [State.relayReported_link, hrelay]
  rw [State.relayOutcome_failed hrelay ho, State.endBranchSide_held hlink hside hheld]
  exact ⟨rfl, State.relayReported_trunk⟩

/-- A failed relay that holds nothing, with no character on the trunk line: both sides have ended (R61, R134). -/
theorem State.relayOutcome_failed_waiting {waiting : List ForwardChar} {more : Bool} (hrelay : s.link.relay = some x)
    (ho : o ≠ .success) (hheld : x.held = []) (hport : s.trunk.port = .forward none waiting more) :
    (s.relayOutcome o).link.relay = none ∧ (s.relayOutcome o).trunk = { s.trunk with port := .passive } := by
  have hlink : (s.relayReported x o).link.relay = some x := by rw [State.relayReported_link, hrelay]
  have htrunk : ((s.relayReported x o).setRelay (RelayContext.kept { x with branchSide := .ended (some o) })).trunk.port =
      .forward none waiting more := by
    rw [State.setRelay_trunk, State.relayReported_trunk, hport]
  rw [State.relayOutcome_failed hrelay ho, State.endBranchSide_unheld hlink hheld, State.tellNothingMore_waiting htrunk]
  refine ⟨?_, ?_⟩
  · unfold State.endTrunkSide RelayContext.kept
    cases x.trunkSide <;> rfl
  · exact congrArg (fun k : TrunkPort => { k with port := .passive }) State.relayReported_trunk

/-- A failed relay that holds nothing, with a character on the trunk line: the port goes on with it (R61). -/
theorem State.relayOutcome_failed_sending {check : Byte} {c : ForwardChar} {waiting : List ForwardChar} {more : Bool}
    (hrelay : s.link.relay = some x) (ho : o ≠ .success) (hside : x.trunkSide = .stillOpen check [])
    (hport : s.trunk.port = .forward (some c) waiting more) :
    (s.relayOutcome o).link.relay = some { x with branchSide := .ended (some o) } ∧
      (s.relayOutcome o).trunk = { s.trunk with port := .forward (some c) waiting true } := by
  have hlink : (s.relayReported x o).link.relay = some x := by rw [State.relayReported_link, hrelay]
  have hheld : x.held = [] := by rw [RelayContext.held, hside]
  have htrunk : ((s.relayReported x o).setRelay (RelayContext.kept { x with branchSide := .ended (some o) })).trunk.port =
      .forward (some c) waiting more := by
    rw [State.setRelay_trunk, State.relayReported_trunk, hport]
  rw [State.relayOutcome_failed hrelay ho, State.endBranchSide_unheld hlink hheld, State.tellNothingMore_sending htrunk]
  exact ⟨RelayContext.kept_of_open hside,
    congrArg (fun k : TrunkPort => { k with port := .forward (some c) waiting true }) State.relayReported_trunk⟩

/-- A relay whose trunk side has ended leaves with its outcome (R136). -/
theorem State.relayOutcome_ended (hrelay : s.link.relay = some x) (hside : x.trunkSide = .ended) :
    (s.relayOutcome o).link.relay = none ∧
      ((∀ sending waiting more, s.trunk.port ≠ .forward sending waiting more) →
        (s.relayOutcome o).trunk = s.trunk) := by
  by_cases ho : o = .success
  · have hkept : x.branchSucceeded.kept = none :=
      RelayContext.kept_of_ended (by rw [RelayContext.branchSucceeded, hside]) rfl
    rw [State.relayOutcome_success hrelay ho, hkept]
    exact ⟨rfl, fun _ => State.relayReported_trunk⟩
  · have hlink : (s.relayReported x o).link.relay = some x := by rw [State.relayReported_link, hrelay]
    have hkept : RelayContext.kept { x with branchSide := .ended (some o) } = none :=
      RelayContext.kept_of_ended hside rfl
    rw [State.relayOutcome_failed hrelay ho, State.endBranchSide_unheld hlink (by rw [RelayContext.held, hside]), hkept]
    refine ⟨State.tellNothingMore_of_none rfl, fun hport => ?_⟩
    rw [State.tellNothingMore_elsewhere, State.setRelay_trunk, State.relayReported_trunk]
    rwa [State.setRelay_trunk, State.relayReported_trunk]

theorem State.relayReported_flag {f : Flag} (hcapture : f ≠ .captureHeld) (hsilent : f ≠ .nodeSilent) :
    (s.relayReported x o).flag f = s.flag f := by
  unfold State.relayReported
  split
  · rfl
  · rw [State.refreshOutcome_flag, decide_eq_false fun h => hcapture h.1.symm,
      decide_eq_false fun h => hsilent h.1.symm, Bool.or_false, Bool.or_false]

end

theorem State.handOn_relay {op : TransactionOp} {i : EntryIndex} (h : op = .relay i) (data : List Byte)
    (o : BranchOutcome) (s : State) : s.handOn op data o = s.relayOutcome o := by
  rw [h]
  rfl

/-! ## The flags of a relay's outcome -/

section
variable {t : Transaction} {i : EntryIndex} {data : List Byte} {o : BranchOutcome} {x : RelayContext} {s : State}
variable (hop : t.op = .relay i) (hrelay : s.link.relay = some x)
include hop hrelay

theorem State.takeOutcome_flag_relay (f : Flag) (hquarantined : f ≠ .linkQuarantined) :
    (s.takeOutcome t data o).flag f = ((s.outcomeCounted t.op o).relayReported x o).flag f := by
  have hlink : (s.outcomeCounted t.op o).link.relay = some x := by rw [State.outcomeCounted_link_relay, hrelay]
  obtain ⟨-, -, hagent⟩ := State.relayOutcome_reported (o := o) hlink
  rw [State.takeOutcome_flag_handed hquarantined, State.handOn_relay hop, State.flag, hagent]
  rfl

theorem State.takeOutcome_flag_relay_unmasked (hmask : x.entry.masked = false) (f : Flag)
    (hquarantined : f ≠ .linkQuarantined) (hwarning : f ≠ .linkWarning) :
    (s.takeOutcome t data o).flag f =
      (s.flag f ||
        (decide (Flag.captureHeld = f ∧ o = .success ∧ HoldsData (s.activeEntry x.index) (s.record x.index)) ||
          decide (Flag.nodeSilent = f ∧ o ≠ .success ∧
            (s.activeEntry x.index).silentLimit ≤ satSucc (s.record x.index).fails))) := by
  rw [State.takeOutcome_flag_relay hop hrelay f hquarantined, State.relayReported_unmasked hmask,
    State.refreshOutcome_flag_counted hwarning]

theorem State.takeOutcome_flag_relay_masked (hmask : x.entry.masked = true) (f : Flag)
    (hquarantined : f ≠ .linkQuarantined) (hwarning : f ≠ .linkWarning) :
    (s.takeOutcome t data o).flag f = s.flag f := by
  rw [State.takeOutcome_flag_relay hop hrelay f hquarantined, State.relayReported_masked hmask,
    State.outcomeCounted_flag_of_ne _ _ _ hwarning]

theorem State.takeOutcome_flag_relay_kept (f : Flag) (hquarantined : f ≠ .linkQuarantined) (hwarning : f ≠ .linkWarning)
    (hcapture : f ≠ .captureHeld) (hsilent : f ≠ .nodeSilent) : (s.takeOutcome t data o).flag f = s.flag f := by
  rw [State.takeOutcome_flag_relay hop hrelay f hquarantined, State.relayReported_flag hcapture hsilent,
    State.outcomeCounted_flag_of_ne _ _ _ hwarning]

end

/-- Settles O44: the report of the relay and the end of its branch side, on a state whose score has moved. -/
theorem relayOutcomeOnBothSides : Obligations.RelayOutcomeOnBothSides := by
  rintro t i data o x s s' hop hrelay rfl hcommit
  have hhanded := State.handOn_relay hop data o (s.outcomeCounted t.op o)
  have hlink : (s.outcomeCounted t.op o).link.relay = some x := by rw [State.outcomeCounted_link_relay, hrelay]
  obtain ⟨hstore, hsched, hagent⟩ := State.relayOutcome_reported (o := o) hlink
  have hrecord : ∀ j, (s.takeOutcome t data o).record j = ((s.outcomeCounted t.op o).relayReported x o).record j :=
    fun j => by
      rw [State.takeOutcome_record hcommit, hhanded]
      exact State.record_congr hstore j
  have hcountdown :
      ∀ j, (s.takeOutcome t data o).countdown j = ((s.outcomeCounted t.op o).relayReported x o).countdown j :=
    fun j => by
      rw [State.takeOutcome_countdown hcommit, hhanded]
      exact State.countdown_congr hsched j
  have hunmasked : x.entry.masked = false → RefreshReported x.index x.received o s (s.takeOutcome t data o) :=
    fun hmask => ((s.outcomeCounted t.op o).refreshOutcome_reported x.index x.received o).transport
      (State.outcomeCounted_store _ _ _) (State.outcomeCounted_sched _ _ _) (State.outcomeCounted_route _ _ _)
      (fun j => by rw [hrecord, State.relayReported_unmasked hmask])
      (fun j => by rw [hcountdown, State.relayReported_unmasked hmask])
  have htrunk : (s.takeOutcome t data o).trunk = ((s.outcomeCounted t.op o).relayOutcome o).trunk := by
    rw [State.takeOutcome_trunk hcommit, hhanded]
  have hcontext : (s.takeOutcome t data o).link.relay = ((s.outcomeCounted t.op o).relayOutcome o).link.relay := by
    rw [State.takeOutcome_link_relay hcommit, hhanded]
  rw [htrunk, hcontext, ← State.outcomeCounted_trunk t.op o s]
  refine ⟨fun hmask => ⟨?_, ?_⟩, fun j hj => ?_, fun r e hmask => ?_, fun hmask => ⟨?_, ?_⟩, ?_, ?_,
    fun check held hside => ⟨fun ho => State.relayOutcome_success_open hlink ho hside,
      fun ho hheld => State.relayOutcome_failed_held hlink ho hside hheld,
      fun ho hheld waiting more hport =>
        State.relayOutcome_failed_waiting hlink ho (by rw [RelayContext.held, hside, hheld]) hport,
      fun ho hheld c waiting more hport =>
        State.relayOutcome_failed_sending hlink ho (hheld ▸ hside) hport⟩,
    fun hside => State.relayOutcome_ended hlink hside, State.takeOutcome_store_but_records t data o s,
    fun hscore => State.takeOutcome_sched_but_countdowns hcommit hscore ?_⟩
  · rw [State.takeOutcome_store hcommit, hhanded, hstore, State.relayReported_masked hmask, State.outcomeCounted_store]
  · rw [State.takeOutcome_uncommitted hcommit, State.leaveTransaction_sched_countdowns, State.outcomeHanded,
      State.mapLink_sched, hhanded, hsched, State.relayReported_masked hmask, State.outcomeCounted_sched]
  · cases hmask : x.entry.masked with
    | true =>
      rw [hrecord, hcountdown, State.relayReported_masked hmask]
      exact ⟨State.outcomeCounted_record _ _ _ _, State.outcomeCounted_countdown _ _ _ _⟩
    | false => exact (hunmasked hmask).others j hj
  · rintro rfl rfl
    obtain ⟨-, hheld, hcaptured, hreloaded, hfailed⟩ := hunmasked hmask
    refine ⟨fun ho => ⟨hheld ho, hcaptured ho, hreloaded ho⟩, hfailed, ?_, ?_⟩
    · simp [State.takeOutcome_flag_relay_unmasked hop hrelay hmask .captureHeld nofun nofun]
    · simp [State.takeOutcome_flag_relay_unmasked hop hrelay hmask .nodeSilent nofun nofun]
  · exact State.takeOutcome_flag_relay_masked hop hrelay hmask .captureHeld nofun nofun
  · exact State.takeOutcome_flag_relay_masked hop hrelay hmask .nodeSilent nofun nofun
  · exact State.takeOutcome_flag_relay_kept hop hrelay .downlinkLost nofun nofun nofun nofun
  · exact State.takeOutcome_flag_relay_kept hop hrelay .queueFull nofun nofun nofun nofun
  · simp [hhanded]

end Sys2Proof.Machine

/-! PROOFS. Every outcome: the score, the flags, the counters, the commit, the state after (O41). -/

namespace Sys2Proof.Machine

/-! ## The flags that a hand-over leaves alone -/

/-- Flags that the record store or the scheduler sets at an outcome (R68, R77, R78, R92). -/
abbrev OutcomeFlag (f : Flag) : Prop :=
  f = .captureHeld ∨ f = .downlinkLost ∨ f = .queueFull ∨ f = .nodeSilent

theorem State.request_flag_of_ne {s : State} {f : Flag} (hfull : f ≠ .queueFull)
    (hdropped : f = .requestDropped → s.link.state ≠ .quarantine) (e : EntryIndex) (op : QueueOp) (origin : Origin) :
    (s.request e op origin).flag f = s.flag f := by
  by_cases hstate : s.link.state = .quarantine
  · have hf : Flag.requestDropped ≠ f := fun h => hdropped h.symm hstate
    unfold State.request
    split
    · exact State.flag_setFlag_of_ne hf s
    · rfl
    · rfl
    · rfl
    · exact State.flag_setFlag_of_ne hfull.symm _
  · rw [State.request_flag f hstate, decide_eq_false fun h => hfull h.1.symm, Bool.or_false]

section
variable {f : Flag} {s : State}

theorem State.branchFailure_flag_of_flag (h : s.flag f = true) (i : EntryIndex) : (s.branchFailure i).flag f = true := by
  rw [State.branchFailure_flag, h, Bool.true_or]

theorem State.refreshOutcome_flag_of_flag (h : s.flag f = true) (i : EntryIndex) (data : List Byte) (o : BranchOutcome) :
    (s.refreshOutcome i data o).flag f = true := by
  rw [State.refreshOutcome_flag, h, Bool.true_or]

theorem State.refreshOutcome_flag_of_ne (h : ¬ OutcomeFlag f) (i : EntryIndex) (data : List Byte) (o : BranchOutcome) :
    (s.refreshOutcome i data o).flag f = s.flag f := by
  rw [State.refreshOutcome_flag, decide_eq_false fun hf => h (Or.inl hf.1.symm),
    decide_eq_false fun hf => h (Or.inr (Or.inr (Or.inr hf.1.symm))), Bool.or_false, Bool.or_false]

theorem State.publishOutcome_flag_of_flag (h : s.flag f = true) (i : EntryIndex) (version : Byte) (o : BranchOutcome) :
    (s.publishOutcome i version o).flag f = true := by
  have hreport : (s.publishReport i version o).flag f = true := by rw [State.publishReport_flag, h, Bool.true_or]
  unfold State.publishOutcome
  dsimp only
  split
  · exact State.flag_request_of_flag hreport _ _ _
  · exact hreport

theorem State.publishOutcome_flag_of_ne (h : ¬ OutcomeFlag f) (hdropped : f = .requestDropped → s.link.state ≠ .quarantine)
    (i : EntryIndex) (version : Byte) (o : BranchOutcome) : (s.publishOutcome i version o).flag f = s.flag f := by
  have hreport : (s.publishReport i version o).flag f = s.flag f := by
    have hnone : ¬ (o ≠ .success ∧
        (Flag.nodeSilent = f ∧ (s.activeEntry i).silentLimit ≤ satSucc (s.record i).fails ∨
          Flag.downlinkLost = f ∧ GivesUp (s.activeEntry i) (s.record i))) := by
      rintro ⟨-, ⟨hf, -⟩ | ⟨hf, -⟩⟩
      · exact h (Or.inr (Or.inr (Or.inr hf.symm)))
      · exact h (Or.inr (Or.inl hf.symm))
    rw [State.publishReport_flag, decide_eq_false hnone, Bool.or_false]
  rw [← hreport]
  unfold State.publishOutcome
  dsimp only
  split
  · refine State.request_flag_of_ne (fun hf => h (Or.inr (Or.inr (Or.inl hf)))) ?_ _ _ _
    rwa [State.publishReport_link]
  · rfl

/-- A relay's outcome sets the flags of its report alone; with no relay it sets none. -/
theorem State.relayOutcome_flag (o : BranchOutcome) :
    (s.relayOutcome o).flag f = s.flag f ∨
      ∃ x : RelayContext, (s.relayOutcome o).flag f = (s.refreshOutcome x.index x.received o).flag f := by
  cases hrelay : s.link.relay with
  | none =>
    left
    rw [State.relayOutcome, hrelay]
  | some x =>
    obtain ⟨-, -, hagent⟩ := State.relayOutcome_reported (o := o) hrelay
    have hflag : (s.relayOutcome o).flag f = (s.relayReported x o).flag f := by
      rw [State.flag, hagent]
      rfl
    rw [hflag, State.relayReported]
    split
    · exact Or.inl rfl
    · exact Or.inr ⟨x, rfl⟩

theorem State.handOn_flag_of_flag (h : s.flag f = true) (op : TransactionOp) (data : List Byte) (o : BranchOutcome) :
    (s.handOn op data o).flag f = true := by
  cases op with
  | refresh i origin => exact State.refreshOutcome_flag_of_flag h i data o
  | publish i origin version sent => exact State.publishOutcome_flag_of_flag h i version o
  | relay i =>
    obtain hsame | ⟨x, hreport⟩ := State.relayOutcome_flag (f := f) (s := s) o
    · exact hsame.trans h
    · exact hreport.trans (State.refreshOutcome_flag_of_flag h _ _ _)
  | sleep => exact (State.flag_congr (State.sleepOutcome_agent_flags o s) f).trans h

theorem State.handOn_flag_of_ne (h : ¬ OutcomeFlag f) (hdropped : f = .requestDropped → s.link.state ≠ .quarantine)
    (op : TransactionOp) (data : List Byte) (o : BranchOutcome) : (s.handOn op data o).flag f = s.flag f := by
  cases op with
  | refresh i origin => exact State.refreshOutcome_flag_of_ne h i data o
  | publish i origin version sent => exact State.publishOutcome_flag_of_ne h hdropped i version o
  | relay i =>
    obtain hsame | ⟨x, hreport⟩ := State.relayOutcome_flag (f := f) (s := s) o
    · exact hsame
    · exact hreport.trans (State.refreshOutcome_flag_of_ne h _ _ _)
  | sleep => exact State.flag_congr (State.sleepOutcome_agent_flags o s) f

theorem State.handOn_flag_sleep {op : TransactionOp} (h : op = .sleep) (data : List Byte) (o : BranchOutcome) :
    (s.handOn op data o).flag f = s.flag f := by
  rw [h]
  exact State.flag_congr (State.sleepOutcome_agent_flags o s) f

/-! ## The flags of an outcome -/

theorem State.takeOutcome_flag_of_flag (h : s.flag f = true) (t : Transaction) (data : List Byte) (o : BranchOutcome) :
    (s.takeOutcome t data o).flag f = true := by
  have hcounted : (s.outcomeCounted t.op o).flag f = true := by rw [State.outcomeCounted_flag, h, Bool.true_or]
  rw [State.takeOutcome_flag, State.handOn_flag_of_flag hcounted, Bool.true_or]

theorem State.takeOutcome_flag_of_ne (h : ¬ OutcomeFlag f) (hwarning : f ≠ .linkWarning) (hquarantined : f ≠ .linkQuarantined)
    (hdropped : f = .requestDropped → s.link.state ≠ .quarantine) (t : Transaction) (data : List Byte)
    (o : BranchOutcome) : (s.takeOutcome t data o).flag f = s.flag f := by
  rw [State.takeOutcome_flag_handed hquarantined, State.handOn_flag_of_ne h (by rwa [State.outcomeCounted_link_state]),
    State.outcomeCounted_flag_of_ne _ _ _ hwarning]

theorem State.takeOutcome_flag_sleep {t : Transaction} (h : t.op = .sleep) (hwarning : f ≠ .linkWarning)
    (hquarantined : f ≠ .linkQuarantined) (data : List Byte) (o : BranchOutcome) :
    (s.takeOutcome t data o).flag f = s.flag f := by
  rw [State.takeOutcome_flag_handed hquarantined, State.handOn_flag_sleep h, State.outcomeCounted_flag_of_ne _ _ _ hwarning]

theorem State.takeOutcome_flag_linkWarning (t : Transaction) (data : List Byte) (o : BranchOutcome) (s : State) :
    (s.takeOutcome t data o).flag .linkWarning =
      (s.flag .linkWarning ||
        decide (s.link.score.toNat < (scoreAfter s.link.score o).toNat ∧ 64 ≤ (scoreAfter s.link.score o).toNat)) := by
  have hother : ¬ OutcomeFlag .linkWarning := by decide
  rw [State.takeOutcome_flag_handed (by decide), State.handOn_flag_of_ne hother nofun, State.outcomeCounted_flag]
  simp

theorem State.takeOutcome_flag_linkQuarantined (t : Transaction) (data : List Byte) (o : BranchOutcome) (s : State) :
    (s.takeOutcome t data o).flag .linkQuarantined =
      (s.flag .linkQuarantined || decide (128 ≤ (scoreAfter s.link.score o).toNat)) := by
  have hother : ¬ OutcomeFlag .linkQuarantined := by decide
  rw [State.takeOutcome_flag, State.handOn_flag_of_ne hother nofun, State.outcomeCounted_flag_of_ne _ _ _ (by decide)]
  simp

end

/-! ## The slot and RESULT of an outcome -/

section
variable {t : Transaction} {data : List Byte} {o : BranchOutcome} {s : State}

/-- Only the sleep frame's outcome completes a command, the SLEEP_BRANCH in the slot (R117). -/
theorem State.handOn_slot {op : TransactionOp} (h : op = .sleep → s.slotHeldBy 0x50#8 ≠ true) :
    (s.handOn op data o).agent.slot = s.agent.slot ∧ (s.handOn op data o).agent.result = s.agent.result := by
  cases op with
  | refresh i origin => exact ⟨State.refreshOutcome_agent_slot _ _ _ _, State.refreshOutcome_agent_result _ _ _ _⟩
  | publish i origin version sent =>
    exact ⟨State.publishOutcome_agent_slot _ _ _ _, State.publishOutcome_agent_result _ _ _ _⟩
  | relay i => exact ⟨State.relayOutcome_agent_slot _ _, State.relayOutcome_agent_result _ _⟩
  | sleep =>
    have hkept : s.handOn .sleep data o = s := State.finishPending_of_not_held (h rfl) _
    rw [hkept]
    exact ⟨rfl, rfl⟩

/-- The slot and RESULT before a pending commit. -/
theorem State.outcomeHanded_slot (h : t.op = .sleep → s.slotHeldBy 0x50#8 ≠ true) :
    (s.outcomeHanded t data o).agent.slot = s.agent.slot ∧
      (s.outcomeHanded t data o).agent.result = s.agent.result := by
  have hheld : t.op = .sleep → (s.outcomeCounted t.op o).slotHeldBy 0x50#8 ≠ true := by
    unfold State.slotHeldBy
    rwa [State.outcomeCounted_agent_slot]
  obtain ⟨hslot, hresult⟩ := State.handOn_slot (data := data) (o := o) hheld
  rw [State.outcomeCounted_agent_slot] at hslot
  rw [State.outcomeCounted_agent_result] at hresult
  exact ⟨hslot, hresult⟩

theorem State.outcomeHanded_sleep {tag : Byte} (hop : t.op = .sleep)
    (hslot : s.agent.slot = some { code := 0x50#8, tag := tag }) :
    (s.outcomeHanded t data o).agent.slot = none ∧
      (s.outcomeHanded t data o).agent.result =
        { s.agent.result with outcome := if o = .success then .done else .linkFailed, data := [] } := by
  have hheld : (s.outcomeCounted t.op o).agent.slot = some { code := 0x50#8, tag := tag } := by
    rw [State.outcomeCounted_agent_slot, hslot]
  have hhanded : (s.outcomeCounted t.op o).handOn t.op data o =
      completed (if o = .success then .done else .linkFailed) [] (s.outcomeCounted t.op o) := by
    have hsleep : (s.outcomeCounted t.op o).handOn t.op data o = (s.outcomeCounted t.op o).sleepOutcome o := by
      unfold State.handOn
      rw [hop]
    rw [hsleep]
    exact State.finishPending_eq_completed hheld _
  rw [State.outcomeHanded, hhanded]
  refine ⟨rfl, ?_⟩
  rw [← State.outcomeCounted_agent_result t.op o s]
  rfl

/-- The next state completes nothing once the slot is empty. -/
theorem State.leaveTransaction_slot_of_free (h : s.agent.slot = none) :
    (s.leaveTransaction t o).agent.slot = none ∧ (s.leaveTransaction t o).agent.result = s.agent.result := by
  by_cases hscore : 128 ≤ s.link.score.toNat
  · rw [State.leaveTransaction_of_limit t o hscore, State.enterQuarantine_of_free h]
    exact ⟨h, rfl⟩
  · rw [State.leaveTransaction_of_below t o (Nat.not_le.1 hscore)]
    exact ⟨h, rfl⟩

theorem State.applyPendingCommit_of_free (h : s.agent.slot = none) :
    s.applyPendingCommit.agent.slot = none ∧ s.applyPendingCommit.agent.result = s.agent.result := by
  unfold State.applyPendingCommit
  split
  · rw [State.finishPending_of_free (by rw [State.applyCommit_agent, h]), State.applyCommit_agent]
    exact ⟨h, rfl⟩
  · exact ⟨h, rfl⟩

/-- A commit applied completes COMMIT with the data of R176. -/
theorem State.applyPendingCommit_completes {tag : Byte} (hpending : s.route.commitPending = true)
    (hslot : s.agent.slot = some { code := 0x15#8, tag := tag }) :
    s.applyPendingCommit.agent.slot = none ∧
      s.applyPendingCommit.agent.result =
        { s.agent.result with
          outcome := .done
          data :=
            [match s.route.activeBank with | .a => 1#8 | .b => 0#8,
              (s.route.commitCount + 1#16).extractLsb' 0 8, (s.route.commitCount + 1#16).extractLsb' 8 8] } := by
  have hheld : s.applyCommit.agent.slot = some { code := Code.commit, tag := tag } := by
    rw [State.applyCommit_agent, hslot]
    rfl
  rw [State.applyPendingCommit, if_pos hpending, State.finishPending_eq_completed hheld, completed,
    State.applyCommit_agent, State.applyCommit_commitData]
  refine ⟨rfl, ?_⟩
  cases s.route.activeBank <;> rfl

/-! ## QUARANTINE and the other states after (R111, R119) -/

theorem State.enterQuarantine_link (s : State) :
    s.enterQuarantine.link =
      { s.link with
        state := .quarantine, hold := s.link.line.holdOnEntry, sampling := false, sleepFramePending := false } := by
  rw [State.enterQuarantine, State.finishPending_link, State.finishPending_link]
  rfl

theorem State.enterQuarantine_sched (s : State) : s.enterQuarantine.sched = s.sched.emptied := by
  rw [State.enterQuarantine, State.finishPending_sched, State.finishPending_sched]
  rfl

theorem State.enterQuarantine_not_held (s : State) :
    s.enterQuarantine.slotHeldBy 0x50#8 ≠ true ∧ s.enterQuarantine.slotHeldBy 0x51#8 ≠ true :=
  ⟨State.not_held_finishPending _ (Or.inr (State.not_held_finishPending _ (Or.inl rfl))),
    State.not_held_finishPending _ (Or.inl rfl)⟩

theorem State.takeOutcome_limit (h : 128 ≤ (s.takeOutcome t data o).link.score.toNat) :
    s.takeOutcome t data o = (s.outcomeHanded t data o).applyPendingCommit.enterQuarantine := by
  rw [State.takeOutcome_link_score, ← State.outcomeHanded_link_score t data o s,
    ← State.applyPendingCommit_link (s.outcomeHanded t data o)] at h
  rw [State.takeOutcome_eq, State.leaveTransaction_of_limit t o h]

theorem State.takeOutcome_next (h : (s.takeOutcome t data o).link.score.toNat < 128) :
    s.takeOutcome t data o =
      (s.outcomeHanded t data o).applyPendingCommit.setLinkState
        (if t.op = .sleep ∧ o = .success then .asleep else .gap t.rate) := by
  rw [State.takeOutcome_link_score, ← State.outcomeHanded_link_score t data o s,
    ← State.applyPendingCommit_link (s.outcomeHanded t data o)] at h
  rw [State.takeOutcome_eq, State.leaveTransaction_of_below t o h]

theorem State.takeOutcome_link_state :
    (s.takeOutcome t data o).link.state =
      if 128 ≤ (s.takeOutcome t data o).link.score.toNat then .quarantine
      else if t.op = .sleep ∧ o = .success then .asleep else .gap t.rate := by
  by_cases h : 128 ≤ (s.takeOutcome t data o).link.score.toNat
  · rw [if_pos h, State.takeOutcome_limit h, State.enterQuarantine_link]
  · rw [if_neg h, State.takeOutcome_next (Nat.not_le.1 h)]
    rfl

theorem State.applyPendingCommit_route (s : State) :
    s.applyPendingCommit.route = if s.route.commitPending = true then s.route.swapped else s.route := by
  unfold State.applyPendingCommit
  split
  · rw [State.finishPending_route, State.applyCommit_route_eq]
  · rfl

theorem State.takeOutcome_route :
    (s.takeOutcome t data o).route = if s.route.commitPending = true then s.route.swapped else s.route := by
  rw [State.takeOutcome_eq, State.leaveTransaction_route, State.applyPendingCommit_route, State.outcomeHanded_route]

theorem State.takeOutcome_counters :
    (s.takeOutcome t data o).agent.counters = (s.outcomeCounted t.op o).agent.counters := by
  rw [State.takeOutcome_eq, State.leaveTransaction_agent_counters, State.applyPendingCommit_agent_counters,
    State.outcomeHanded, State.mapLink_agent, State.handOn_agent_counters]

theorem State.takeOutcome_responder : (s.takeOutcome t data o).link.responder = none := by
  rw [State.takeOutcome_eq, State.leaveTransaction_link_responder, State.applyPendingCommit_link]
  rfl

end

end Sys2Proof.Machine

/-! PROOFS. An outcome with and without a pending commit, and every outcome together (O41). -/

namespace Sys2Proof.Machine

/-! ## The pending indication does not bear on what an outcome does before the commit -/

/-- The same state with no commit pending. -/
def State.withoutCommit (s : State) : State :=
  { s with route := { s.route with commitPending := false } }

theorem State.withoutCommit_ite {c d : Prop} [Decidable c] [Decidable d] {s t s' t' : State} (h : d ↔ c)
    (hs : s' = s.withoutCommit) (ht : t' = t.withoutCommit) :
    (if d then s' else t') = (if c then s else t).withoutCommit := by
  rw [hs, ht, apply_ite State.withoutCommit]
  exact if_congr h rfl rfl

theorem State.scoreOutcome_withoutCommit (o : BranchOutcome) (s : State) :
    s.withoutCommit.scoreOutcome o = (s.scoreOutcome o).withoutCommit := by
  unfold State.scoreOutcome
  exact State.withoutCommit_ite Iff.rfl rfl rfl

theorem State.countOutcome_withoutCommit (op : TransactionOp) (o : BranchOutcome) (s : State) :
    s.withoutCommit.countOutcome op o = (s.countOutcome op o).withoutCommit := by
  cases op with
  | sleep => rfl
  | _ =>
    unfold State.countOutcome
    exact State.withoutCommit_ite Iff.rfl rfl rfl

theorem State.branchCapture_withoutCommit (i : EntryIndex) (data : List Byte) (s : State) :
    s.withoutCommit.branchCapture i data = (s.branchCapture i data).withoutCommit := by
  unfold State.branchCapture
  exact State.withoutCommit_ite Iff.rfl rfl rfl

theorem State.reloadCountdown_withoutCommit (i : EntryIndex) (s : State) :
    s.withoutCommit.reloadCountdown i = (s.reloadCountdown i).withoutCommit := by
  unfold State.reloadCountdown
  exact State.withoutCommit_ite Iff.rfl rfl rfl

theorem State.branchFailure_withoutCommit (i : EntryIndex) (s : State) :
    s.withoutCommit.branchFailure i = (s.branchFailure i).withoutCommit := by
  unfold State.branchFailure
  exact State.withoutCommit_ite Iff.rfl rfl rfl

theorem State.refreshOutcome_withoutCommit (i : EntryIndex) (data : List Byte) (o : BranchOutcome) (s : State) :
    s.withoutCommit.refreshOutcome i data o = (s.refreshOutcome i data o).withoutCommit := by
  unfold State.refreshOutcome
  rw [State.branchCapture_withoutCommit, State.reloadCountdown_withoutCommit, State.branchFailure_withoutCommit]
  exact State.withoutCommit_ite Iff.rfl rfl rfl

theorem State.publishReport_withoutCommit (i : EntryIndex) (version : Byte) (o : BranchOutcome) (s : State) :
    s.withoutCommit.publishReport i version o = (s.publishReport i version o).withoutCommit := by
  by_cases ho : o = .success
  · rw [State.publishReport_success ho, State.publishReport_success ho]
    rfl
  by_cases hlost : GivesUp (s.activeEntry i) (s.record i)
  · rw [State.publishReport_lost ho hlost, State.publishReport_lost (s := s.withoutCommit) ho hlost,
      State.branchFailure_withoutCommit]
    rfl
  · rw [State.publishReport_failed ho hlost, State.publishReport_failed (s := s.withoutCommit) ho hlost,
      State.branchFailure_withoutCommit]

theorem State.request_withoutCommit (e : EntryIndex) (op : QueueOp) (origin : Origin) (s : State) :
    s.withoutCommit.request e op origin = (s.request e op origin).withoutCommit := by
  have hdisposition : s.withoutCommit.disposition e origin = s.disposition e origin := rfl
  unfold State.request
  rw [hdisposition]
  cases s.disposition e origin <;> rfl

theorem State.publishOutcome_withoutCommit (i : EntryIndex) (version : Byte) (o : BranchOutcome) (s : State) :
    s.withoutCommit.publishOutcome i version o = (s.publishOutcome i version o).withoutCommit := by
  have hwants : s.withoutCommit.wantsRetry i version o = s.wantsRetry i version o := by
    rw [State.wantsRetry, State.publishReport_withoutCommit]
    rfl
  unfold State.publishOutcome
  rw [State.publishReport_withoutCommit, hwants]
  exact State.withoutCommit_ite Iff.rfl (State.request_withoutCommit _ _ _ _) rfl

theorem State.tellNothingMore_withoutCommit (s : State) :
    s.withoutCommit.tellNothingMore = s.tellNothingMore.withoutCommit := by
  have hport : s.withoutCommit.trunk.port = s.trunk.port := rfl
  unfold State.tellNothingMore
  rw [hport]
  split <;> rfl

theorem State.setRelay_withoutCommit (r : Option RelayContext) (s : State) :
    s.withoutCommit.setRelay r = (s.setRelay r).withoutCommit :=
  rfl

theorem State.endBranchSide_withoutCommit (outcome : Option BranchOutcome) (s : State) :
    s.withoutCommit.endBranchSide outcome = (s.endBranchSide outcome).withoutCommit := by
  cases hrelay : s.link.relay with
  | none =>
    have hlink : s.withoutCommit.link.relay = none := hrelay
    rw [State.endBranchSide, State.endBranchSide, hrelay, hlink]
  | some x =>
    have hlink : s.withoutCommit.link.relay = some x := hrelay
    simp only [State.endBranchSide, hrelay, hlink, State.setRelay_withoutCommit]
    exact State.withoutCommit_ite Iff.rfl (State.tellNothingMore_withoutCommit _) rfl

theorem State.relayOutcome_withoutCommit (o : BranchOutcome) (s : State) :
    s.withoutCommit.relayOutcome o = (s.relayOutcome o).withoutCommit := by
  cases hrelay : s.link.relay with
  | none =>
    have hlink : s.withoutCommit.link.relay = none := hrelay
    rw [State.relayOutcome, State.relayOutcome, hrelay, hlink]
  | some x =>
    have hlink : s.withoutCommit.link.relay = some x := hrelay
    have hreported : s.withoutCommit.relayReported x o = (s.relayReported x o).withoutCommit := by
      unfold State.relayReported
      rw [State.refreshOutcome_withoutCommit]
      exact State.withoutCommit_ite Iff.rfl rfl rfl
    by_cases ho : o = .success
    · rw [State.relayOutcome_success hrelay ho, State.relayOutcome_success hlink ho, hreported]
      rfl
    · rw [State.relayOutcome_failed hrelay ho, State.relayOutcome_failed hlink ho, hreported,
        State.endBranchSide_withoutCommit]

theorem State.finishPending_withoutCommit (code : Byte) (a : Answer) (s : State) :
    s.withoutCommit.finishPending code a = (s.finishPending code a).withoutCommit := by
  unfold State.finishPending
  exact State.withoutCommit_ite Iff.rfl rfl rfl

theorem State.handOn_withoutCommit (op : TransactionOp) (data : List Byte) (o : BranchOutcome) (s : State) :
    s.withoutCommit.handOn op data o = (s.handOn op data o).withoutCommit := by
  cases op with
  | refresh i origin => exact State.refreshOutcome_withoutCommit i data o s
  | publish i origin version sent => exact State.publishOutcome_withoutCommit i version o s
  | relay i => exact State.relayOutcome_withoutCommit o s
  | sleep => exact State.finishPending_withoutCommit _ _ s

theorem State.outcomeHanded_withoutCommit (t : Transaction) (data : List Byte) (o : BranchOutcome) (s : State) :
    s.withoutCommit.outcomeHanded t data o = (s.outcomeHanded t data o).withoutCommit := by
  rw [State.outcomeHanded, State.outcomeCounted, State.scoreOutcome_withoutCommit, State.countOutcome_withoutCommit,
    State.handOn_withoutCommit]
  rfl

/-! ## The commit on the records and the scheduler that an outcome leaves -/

theorem State.applyCommit_sched_congr {s t : State} (hsched : t.sched = s.sched)
    (hactive : t.route.activeContents = s.route.activeContents) (hedit : t.route.editContents = s.route.editContents) :
    t.applyCommit.sched = s.applyCommit.sched := by
  have hpriority : t.atCommit.priorityOf = s.atCommit.priorityOf :=
    funext fun i => by rw [State.priorityOf, State.priorityOf, State.atCommit_activeEntry, State.atCommit_activeEntry, hedit]
  rw [State.applyCommit_eq, State.applyCommit_eq, State.schedAtCommit_sched, State.schedAtCommit_sched, hpriority]
  simp only [State.atCommit_activeEntry, State.atCommit_sched, hsched, hactive, hedit]

theorem State.withoutCommit_applyCommit_sched (l : LinkState) (s : State) :
    (s.withoutCommit.setLinkState l).applyCommit.sched = s.applyCommit.sched :=
  State.applyCommit_sched_congr rfl rfl rfl

theorem State.applyPendingCommit_pending_eq {s : State} (h : s.route.commitPending = true) :
    s.applyPendingCommit.store = s.applyCommit.store ∧ s.applyPendingCommit.sched = s.applyCommit.sched := by
  rw [State.applyPendingCommit, if_pos h, State.finishPending_store, State.finishPending_sched]
  exact ⟨rfl, rfl⟩

theorem State.leaveTransaction_agent_flags (t : Transaction) (o : BranchOutcome) (s : State) :
    (s.leaveTransaction t o).agent.flags =
      if 128 ≤ s.link.score.toNat then s.agent.flags ||| Flag.linkQuarantined.mask else s.agent.flags := by
  by_cases h : 128 ≤ s.link.score.toNat
  · rw [if_pos h, State.leaveTransaction_of_limit t o h, State.enterQuarantine, State.finishPending_agent_flags,
      State.finishPending_agent_flags]
    rfl
  · rw [if_neg h, State.leaveTransaction_of_below t o (Nat.not_le.1 h)]
    rfl

section
variable {t : Transaction} {data : List Byte} {o : BranchOutcome} {s : State}

/-- The same outcome with no commit pending, up to the next state. -/
theorem State.takeOutcome_withoutCommit :
    s.withoutCommit.takeOutcome t data o = ((s.outcomeHanded t data o).withoutCommit).leaveTransaction t o := by
  rw [State.takeOutcome_uncommitted rfl, State.outcomeHanded_withoutCommit]

theorem State.takeOutcome_withoutCommit_record (i : EntryIndex) :
    (s.withoutCommit.takeOutcome t data o).record i = (s.outcomeHanded t data o).record i := by
  rw [State.takeOutcome_withoutCommit, State.record, State.leaveTransaction_store]
  rfl

theorem State.takeOutcome_withoutCommit_countdown (i : EntryIndex) :
    (s.withoutCommit.takeOutcome t data o).countdown i = (s.outcomeHanded t data o).countdown i := by
  rw [State.takeOutcome_withoutCommit, State.countdown, State.leaveTransaction_sched_countdowns]
  rfl

theorem State.takeOutcome_withoutCommit_flags :
    (s.takeOutcome t data o).agent.flags = (s.withoutCommit.takeOutcome t data o).agent.flags := by
  rw [State.takeOutcome_withoutCommit, State.takeOutcome_eq, State.leaveTransaction_agent_flags,
    State.leaveTransaction_agent_flags, State.applyPendingCommit_link, State.applyPendingCommit_agent_flags]
  rfl

theorem State.takeOutcome_committed_record (h : s.route.commitPending = true) (i : EntryIndex) :
    (s.takeOutcome t data o).record i =
      if SameIdentity (s.route.activeContents.entry i) (s.route.editContents.entry i) then
        (s.withoutCommit.takeOutcome t data o).record i
      else emptyRecordOf ((s.withoutCommit.takeOutcome t data o).record i) := by
  have hpending : (s.outcomeHanded t data o).route.commitPending = true := by rw [State.outcomeHanded_route, h]
  obtain ⟨hstore, -⟩ := State.applyPendingCommit_pending_eq hpending
  have hrecord : (s.takeOutcome t data o).record i = (s.outcomeHanded t data o).applyCommit.record i :=
    State.record_congr (by rw [State.takeOutcome_eq, State.leaveTransaction_store, hstore]) i
  rw [hrecord, State.applyCommit_record, State.outcomeHanded_route, State.takeOutcome_withoutCommit_record]

theorem State.takeOutcome_committed_countdown (h : s.route.commitPending = true) (i : EntryIndex) :
    (s.takeOutcome t data o).countdown i =
      countdownAtCommit (s.route.activeContents.entry i) (s.route.editContents.entry i)
        ((s.withoutCommit.takeOutcome t data o).countdown i) := by
  have hpending : (s.outcomeHanded t data o).route.commitPending = true := by rw [State.outcomeHanded_route, h]
  obtain ⟨-, hsched⟩ := State.applyPendingCommit_pending_eq hpending
  have hcountdown : (s.takeOutcome t data o).countdown i = (s.outcomeHanded t data o).applyCommit.countdown i := by
    rw [State.takeOutcome_eq, State.countdown, State.leaveTransaction_sched_countdowns, hsched]
    rfl
  rw [hcountdown, State.applyCommit_countdown, State.outcomeHanded_route, State.takeOutcome_withoutCommit_countdown]

theorem State.takeOutcome_committed_sched (h : s.route.commitPending = true)
    (hscore : (s.takeOutcome t data o).link.score.toNat < 128) :
    (s.takeOutcome t data o).sched = (s.withoutCommit.takeOutcome t data o).applyCommit.sched := by
  have hpending : (s.outcomeHanded t data o).route.commitPending = true := by rw [State.outcomeHanded_route, h]
  obtain ⟨-, hsched⟩ := State.applyPendingCommit_pending_eq hpending
  have hbelow : (s.outcomeHanded t data o).withoutCommit.link.score.toNat < 128 := by
    have hlink : (s.outcomeHanded t data o).withoutCommit.link = (s.outcomeHanded t data o).link := rfl
    rwa [hlink, State.outcomeHanded_link_score, ← State.takeOutcome_link_score t data o s]
  rw [State.takeOutcome_next hscore, State.setLinkState_sched, hsched, State.takeOutcome_withoutCommit,
    State.leaveTransaction_of_below t o hbelow]
  exact (State.withoutCommit_applyCommit_sched _ _).symm

/-! ## What an outcome leaves alone -/

/-- Outcomes but those of a publication add no work (R111). -/
theorem State.outcomeHanded_work (h : ∀ i origin version sent, t.op ≠ .publish i origin version sent) :
    { (s.outcomeHanded t data o).sched with countdowns := s.sched.countdowns } = s.sched := by
  rw [State.outcomeHanded, State.mapLink_sched]
  cases hop : t.op with
  | refresh i origin => simp [State.handOn]
  | publish i origin version sent => exact absurd hop (h _ _ _ _)
  | relay i => simp [State.handOn]
  | sleep => simp [State.handOn]

theorem State.outcomeHanded_sleep_store (h : t.op = .sleep) :
    (s.outcomeHanded t data o).store = s.store ∧ (s.outcomeHanded t data o).sched = s.sched := by
  rw [State.outcomeHanded, State.mapLink_store, State.mapLink_sched, h]
  simp [State.handOn]

theorem State.handOn_trunk_relay {op : TransactionOp} (h : ∀ i, op ≠ .relay i) (s : State) :
    (s.handOn op data o).trunk = s.trunk ∧ (s.handOn op data o).link.relay = s.link.relay := by
  cases op with
  | relay i => exact absurd rfl (h i)
  | _ => simp [State.handOn]

theorem State.takeOutcome_trunk_relay (h : ∀ i, t.op ≠ .relay i) :
    (s.takeOutcome t data o).trunk = s.trunk ∧ (s.takeOutcome t data o).link.relay = s.link.relay := by
  obtain ⟨htrunk, hrelay⟩ := State.handOn_trunk_relay (data := data) (o := o) h (s.outcomeCounted t.op o)
  rw [State.takeOutcome_eq, State.leaveTransaction_trunk, State.leaveTransaction_link_relay,
    State.applyPendingCommit_trunk, State.applyPendingCommit_link, State.outcomeHanded, State.mapLink_trunk,
    State.mapLink_link, htrunk, hrelay, State.outcomeCounted_trunk, State.outcomeCounted_link_relay]
  exact ⟨rfl, rfl⟩

end

end Sys2Proof.Machine

/-! PROOFS. Every outcome: the clauses of O41. -/

namespace Sys2Proof.Machine

section
variable {t : Transaction} {data : List Byte} {o : BranchOutcome} {s : State}

/-- What the entry into QUARANTINE leaves (R119). -/
theorem State.takeOutcome_quarantined (h : 128 ≤ (s.takeOutcome t data o).link.score.toNat) :
    (s.takeOutcome t data o).sched.queue = [] ∧ (s.takeOutcome t data o).sched.deferred = [] ∧
      (s.takeOutcome t data o).link.hold = s.link.line.holdOnEntry ∧
      (s.takeOutcome t data o).link.sleepFramePending = false ∧
      (s.takeOutcome t data o).slotHeldBy 0x50#8 = false ∧ (s.takeOutcome t data o).slotHeldBy 0x51#8 = false := by
  obtain ⟨hsleep, hwake⟩ := State.enterQuarantine_not_held (s.outcomeHanded t data o).applyPendingCommit
  have hline : (s.outcomeHanded t data o).link.line = s.link.line := by
    simp [State.outcomeHanded, State.outcomeCounted]
  rw [State.takeOutcome_limit h, State.enterQuarantine_sched, State.enterQuarantine_link, State.applyPendingCommit_link,
    hline]
  exact ⟨rfl, rfl, rfl, rfl, Bool.eq_false_iff.2 hsleep, Bool.eq_false_iff.2 hwake⟩

/-- COMMIT completes in the outcome that applies it. -/
theorem State.takeOutcome_commit_completes {sl : Slot} (hpending : s.route.commitPending = true)
    (hslot : s.agent.slot = some sl) (hcode : sl.code = 0x15#8) :
    (s.takeOutcome t data o).agent.slot = none ∧
      (s.takeOutcome t data o).agent.result =
        { s.agent.result with
          outcome := .done
          data :=
            [match s.route.activeBank with | .a => 1#8 | .b => 0#8,
              (s.route.commitCount + 1#16).extractLsb' 0 8, (s.route.commitCount + 1#16).extractLsb' 8 8] } := by
  obtain ⟨code, tag⟩ := sl
  obtain rfl : code = 0x15#8 := hcode
  have hother : t.op = .sleep → s.slotHeldBy 0x50#8 ≠ true := fun _ hheld => by
    have hcommit : s.slotHeldBy 0x15#8 = true := State.slotHeldBy_iff.2 ⟨_, hslot, rfl⟩
    exact absurd (State.slotHeldBy_unique hheld hcommit) (by decide)
  obtain ⟨hkept, hresult⟩ := State.outcomeHanded_slot (data := data) (o := o) hother
  obtain ⟨hfree, hdone⟩ := State.applyPendingCommit_completes (s := s.outcomeHanded t data o) (tag := tag)
    (by rw [State.outcomeHanded_route, hpending]) (by rw [hkept, hslot])
  obtain ⟨hnone, hfinal⟩ := State.leaveTransaction_slot_of_free (t := t) (o := o) hfree
  rw [State.outcomeHanded_route, hresult] at hdone
  exact ⟨hnone, hfinal.trans hdone⟩

/-- SLEEP_BRANCH completes with the outcome of the sleep frame. -/
theorem State.takeOutcome_sleep_completes {tag : Byte} (hop : t.op = .sleep)
    (hslot : s.agent.slot = some { code := 0x50#8, tag := tag }) :
    (s.takeOutcome t data o).agent.slot = none ∧
      (s.takeOutcome t data o).agent.result =
        { s.agent.result with outcome := if o = .success then .done else .linkFailed, data := [] } := by
  obtain ⟨hfree, hdone⟩ := State.outcomeHanded_sleep (data := data) (o := o) hop hslot
  obtain ⟨hfree', hkept⟩ := State.applyPendingCommit_of_free hfree
  obtain ⟨hnone, hfinal⟩ := State.leaveTransaction_slot_of_free (t := t) (o := o) hfree'
  exact ⟨hnone, hfinal.trans (hkept.trans hdone)⟩

theorem State.takeOutcome_sleep_store (hcommit : s.route.commitPending = false) (hop : t.op = .sleep) :
    (s.takeOutcome t data o).store = s.store ∧ (s.takeOutcome t data o).sched.countdowns = s.sched.countdowns := by
  obtain ⟨hstore, hsched⟩ := State.outcomeHanded_sleep_store (data := data) (o := o) (s := s) hop
  rw [State.takeOutcome_uncommitted hcommit, State.leaveTransaction_store, State.leaveTransaction_sched_countdowns,
    hstore, hsched]
  exact ⟨rfl, rfl⟩

/-- Below a score of 128 and with no commit pending, the rest of the state that an outcome keeps. -/
theorem State.takeOutcome_kept (hscore : (s.takeOutcome t data o).link.score.toNat < 128)
    (hcommit : s.route.commitPending = false) :
    ((∀ i origin version sent, t.op ≠ .publish i origin version sent) →
        { (s.takeOutcome t data o).sched with countdowns := s.sched.countdowns } = s.sched) ∧
      (t.op ≠ .sleep →
        (s.takeOutcome t data o).agent.slot = s.agent.slot ∧
          (s.takeOutcome t data o).agent.result = s.agent.result) ∧
      (s.takeOutcome t data o).link.hold = s.link.hold ∧ (s.takeOutcome t data o).link.sampling = s.link.sampling ∧
      (s.takeOutcome t data o).link.sleepFramePending = s.link.sleepFramePending := by
  have hbelow : (s.outcomeHanded t data o).link.score.toNat < 128 := by
    rwa [State.outcomeHanded_link_score, ← State.takeOutcome_link_score t data o s]
  rw [State.takeOutcome_uncommitted hcommit, State.leaveTransaction_of_below t o hbelow]
  refine ⟨fun hop => State.outcomeHanded_work hop,
    fun hop => State.outcomeHanded_slot fun hsleep => absurd hsleep hop, ?_, ?_, ?_⟩
  all_goals simp [State.outcomeHanded, State.outcomeCounted]

end

/-- Settles O41: clause by clause, from the parts of an outcome in their order. -/
theorem outcomeMovesScoreAndState : Obligations.OutcomeMovesScoreAndState := by
  rintro t data o s s' rfl
  have hscore := State.takeOutcome_link_score t data o s
  refine ⟨?score, ?warning, ?quarantined, ?counters, State.takeOutcome_link_state, fun h => State.takeOutcome_quarantined h,
    ?swapped, ?kept, fun sl hpending hslot hcode => State.takeOutcome_commit_completes hpending hslot hcode,
    fun tag hop hslot => State.takeOutcome_sleep_completes hop hslot, State.takeOutcome_link_line _ _ _ _,
    State.takeOutcome_link_mode _ _ _ _, State.takeOutcome_link_settle _ _ _ _, State.takeOutcome_link_receiver _ _ _ _,
    State.takeOutcome_link_receiverRate _ _ _ _, State.takeOutcome_responder, State.takeOutcome_power _ _ _ _,
    State.takeOutcome_config _ _ _ _, State.takeOutcome_pending _ _ _ _, State.takeOutcome_trunk_stamp _ _ _ _,
    State.takeOutcome_trunk_rate _ _ _ _, State.takeOutcome_trunk_receiver _ _ _ _,
    State.takeOutcome_agent_keyState _ _ _ _, State.takeOutcome_agent_unit _ _ _ _,
    State.takeOutcome_sched_tickCount _ _ _ _, State.takeOutcome_sched_tickPeriod _ _ _ _,
    State.takeOutcome_sched_runningPeriod _ _ _ _, State.takeOutcome_sched_order _ _ _ _,
    State.takeOutcome_store_but_records t data o s, fun f h => State.takeOutcome_flag_of_flag h t data o,
    fun hop f hf => State.takeOutcome_flag_sleep hop ?_ ?_ data o, fun hstate f hf => ?others,
    State.takeOutcome_trunk_relay, State.takeOutcome_sleep_store, State.takeOutcome_kept, ?commit⟩
  case score => exact (congrArg BitVec.toNat hscore).trans (scoreAfter_toNat _ _)
  case warning => rw [hscore, State.takeOutcome_flag_linkWarning]
  case quarantined => rw [hscore, State.takeOutcome_flag_linkQuarantined]
  case counters => rw [State.takeOutcome_counters, State.outcomeCounted_counters]
  case swapped => exact fun h => by rw [State.takeOutcome_route, if_pos h]
  case kept => exact fun h => by rw [State.takeOutcome_route, h, if_neg Bool.false_ne_true]
  case others =>
    simp only [List.mem_cons, List.not_mem_nil, or_false, not_or] at hf
    obtain ⟨hcapture, hlost, hfull, hwarning, hquarantined, hsilent⟩ := hf
    have hother : ¬ OutcomeFlag f := by
      rintro (h | h | h | h)
      · exact hcapture h
      · exact hlost h
      · exact hfull h
      · exact hsilent h
    exact State.takeOutcome_flag_of_ne hother hwarning hquarantined (fun _ => hstate) t data o
  case commit =>
    rintro u old new hpending rfl rfl rfl
    exact ⟨State.takeOutcome_committed_sched hpending, State.takeOutcome_withoutCommit_flags,
      fun i => ⟨State.takeOutcome_committed_record hpending i, State.takeOutcome_committed_countdown hpending i⟩⟩
  all_goals
    rintro rfl
    simp at hf

end Sys2Proof.Machine

/-! PROOFS. Which outcome an event of the branch line takes (O40). -/

namespace Sys2Proof.Machine

/-! ## Faults of the line, and publications sent (R13, R14, R110) -/

section
variable {t : Transaction} {sent : Transmission} {k : Nat} {s : State}

theorem exec_branchLineFault_differs (hrun : s.power = .running) (hstate : s.link.state = .header t)
    (hwake : NoWakeBefore s sent) (hdiffers : s.differsOnBranch t.headerSent sent = some k)
    (hk : k < t.breakLength.bits + 2) :
    exec (.branchLineFault sent) s = .next ((s.cutOnBranch sent k).takeOutcome t [] .lineFault) := by
  have hrow : exec (.branchLineFault sent) s = execBranchLineFault s sent := rfl
  have hbits : k < t.breakBits := hk
  simp only [hrow, execBranchLineFault, s.isRunning_iff.mpr hrun, (s.noWakeBefore_iff sent).2 hwake, hstate, hdiffers,
    hbits, Bool.and_self, if_true]

theorem exec_branchBitError_header (hrun : s.power = .running) (hstate : s.link.state = .header t)
    (hwake : NoWakeBefore s sent) (hdiffers : s.differsOnBranch t.headerSent sent = some k)
    (hk : t.breakLength.bits + 2 ≤ k) :
    exec (.branchBitError sent) s = .next ((s.cutOnBranch sent k).takeOutcome t [] .bitError) := by
  have hrow : exec (.branchBitError sent) s = execBranchBitError s sent := rfl
  have hbits : ¬ k < t.breakBits := Nat.not_lt.2 hk
  simp only [hrow, execBranchBitError, s.isRunning_iff.mpr hrun, (s.noWakeBefore_iff sent).2 hwake, hstate, hdiffers,
    hbits, if_false]

theorem exec_branchBitError_data (hrun : s.power = .running) (hstate : s.link.state = .dataOut t)
    (hdiffers : s.differsOnBranch (charactersLevels t.published) sent = some k) :
    exec (.branchBitError sent) s = .next ((s.cutOnBranch sent k).takeOutcome t [] .bitError) := by
  have hrow : exec (.branchBitError sent) s = execBranchBitError s sent := rfl
  simp only [hrow, execBranchBitError, s.isRunning_iff.mpr hrun, hstate, hdiffers]

theorem exec_publishDataSent_sent {u : State} (hrun : s.power = .running) (hstate : s.link.state = .dataOut t)
    (hsent : s.sentOnBranch (charactersLevels t.published) sent = some u) :
    exec (.publishDataSent sent) s = .next (u.takeOutcome t [] .success) := by
  have hrow : exec (.publishDataSent sent) s = execPublishDataSent s sent := rfl
  simp only [hrow, execPublishDataSent, s.isRunning_iff.mpr hrun, hstate, hsent]

theorem loopback_ne_normal (h : s.link.mode = .loopback) : s.link.mode ≠ .normal := by
  rw [h]
  nofun

/-- Faults of the line change nothing in LOOPBACK (R148). -/
theorem exec_branchFault_loopback (h : s.link.mode = .loopback) (sent : Transmission) :
    exec (.branchLineFault sent) s = .next s ∧ exec (.branchBitError sent) s = .next s :=
  ⟨exec_branchLineFault_idle fun _ _ _ hmode => absurd hmode (loopback_ne_normal h),
    exec_branchBitError_idle (fun _ _ _ hmode => absurd hmode (loopback_ne_normal h))
      (fun _ _ _ hmode => absurd hmode (loopback_ne_normal h))⟩

end

/-! ## The end of a reply reception (R10, R11) -/

section
variable {s : State} {n : Nat} {line : Wave}

theorem State.earlyReply_of_over {events : List RxEvent} (h : WindowOver n s.link.sinceH1 line)
    (hearly : HearsEarly s n line events) : s.earlyReply n line = events := by
  rw [State.earlyReply, take_early _ _ _ h]
  exact hearly

theorem State.earlyReply_of_open (h : ¬ WindowOver n s.link.sinceH1 line) :
    s.earlyReply n line = (s.hearReply n line).2 := by
  rw [State.earlyReply, take_early_of_not _ _ _ h]
  rfl

/-- What counts of the reply characters while the window is open, whichever is taken first. -/
theorem State.countedReply_of_open (h : ¬ WindowOver n s.link.sinceH1 line) (first : Bool) :
    (if first then s.earlyReply n line else (s.hearReply n line).2) = (s.hearReply n line).2 := by
  rw [State.earlyReply_of_open h, ite_self]

theorem windowEnds_of_open {sinceH1 : Nat} (h : ¬ WindowOver n sinceH1 line) : windowEnds n sinceH1 line = false :=
  Bool.eq_false_iff.2 fun hends => h ((windowEnds_iff _ _ _).1 hends)

theorem State.setBranchReceiver_at {rate : RateCode} (h : s.link.branchRate = rate) (r : Receiver) :
    s.setBranchReceiver r =
      { s with link := { s.link with receiver := r, receiverRate := rate, outsideLow := none } } := by
  rw [← h]
  rfl

end

/-! ## REFRESH (R109, R115) -/

section
variable {t : Transaction} {s : State} {line : Wave} {first : Bool} {n : Nat}

theorem exec_branchReplyEnd_refresh {i : EntryIndex} {origin : Origin} (ending : ReplyEnd) (hrun : s.power = .running)
    (hstate : s.link.state = .replyWait t) (hop : t.op = .refresh i origin) :
    exec (.branchReplyEnd ending) s = .next (s.replyEnds t (s.refreshReception t ending)) := by
  have hrow : exec (.branchReplyEnd ending) s = execBranchReplyEnd ending s := rfl
  simp only [hrow, execBranchReplyEnd, s.isRunning_iff.mpr hrun, hstate, hop]

/-- The verdict on what came of a REFRESH's reply. -/
def State.refreshVerdict (t : Transaction) (line : Wave) (first : Bool) (s : State) : Option BranchOutcome :=
  replyVerdict t.register (dataBytes t.length) false (windowEnds (dataBytes t.length) s.link.sinceH1 line)
    (if first then s.earlyReply (dataBytes t.length) line else (s.hearReply (dataBytes t.length) line).2)
    (s.hearReply (dataBytes t.length) line)

theorem State.refreshReception_normal (h : s.link.mode = .normal) :
    s.refreshReception t ⟨line, first⟩ =
      (s.refreshVerdict t line first).map fun o =>
        { after := s.setBranchReceiver (s.hearReply (dataBytes t.length) line).1
          data := (goodBytes (s.hearReply (dataBytes t.length) line).2).take (dataBytes t.length), outcome := o } := by
  rw [State.refreshReception, h]
  rfl

/-- A REFRESH whose reply reception ends takes the outcome of the verdict. -/
theorem exec_branchReplyEnd_refresh_verdict {i : EntryIndex} {origin : Origin} {r : Receiver} {events : List RxEvent}
    {o : BranchOutcome} (hrun : s.power = .running) (hstate : s.link.state = .replyWait t) (hop : t.op = .refresh i origin)
    (hmode : s.link.mode = .normal) (hheard : s.hearReply (dataBytes t.length) line = (r, events))
    (hverdict : s.refreshVerdict t line first = some o) :
    exec (.branchReplyEnd ⟨line, first⟩) s =
      .next (({ s with link := { s.link with receiver := r, receiverRate := t.rate, outsideLow := none } } :
        State).takeOutcome t ((goodBytes events).take (dataBytes t.length)) o) := by
  rw [exec_branchReplyEnd_refresh _ hrun hstate hop, State.refreshReception_normal hmode, hverdict, hheard,
    State.setBranchReceiver_at (LinkController.branchRate_of_replyWait hstate)]
  rfl

theorem exec_branchReplyEnd_refresh_open {i : EntryIndex} {origin : Origin} (hrun : s.power = .running)
    (hstate : s.link.state = .replyWait t) (hop : t.op = .refresh i origin) (hmode : s.link.mode = .normal)
    (hverdict : s.refreshVerdict t line first = none) : exec (.branchReplyEnd ⟨line, first⟩) s = .next s := by
  rw [exec_branchReplyEnd_refresh _ hrun hstate hop, State.refreshReception_normal hmode, hverdict]
  rfl

section
variable {data : List Byte} {r : Receiver}

theorem State.refreshVerdict_check {check : Byte} {more : List RxEvent} (hmore : RxEvent.lineBreak ∉ more)
    (hlength : data.length = dataBytes t.length)
    (hheard : s.hearReply (dataBytes t.length) line = (r, goodCharacters (data ++ [check]) ++ more)) :
    s.refreshVerdict t line false =
      some
        (if check = checkByte (headerH0 t.branchChannel) (headerH1 t.branchChannel t.length) data then .success
        else .check) := by
  refine replyVerdict_ended ?_ ?_
  · rw [hheard]
    simp [lineBreak_not_mem_goodCharacters, hmore]
  · rw [if_neg Bool.false_ne_true, hheard, ← hlength]
    exact replyEnded_check t.register data check more

theorem State.refreshVerdict_framing {v : Byte} {more : List RxEvent} (hmore : RxEvent.lineBreak ∉ more)
    (hlength : data.length ≤ dataBytes t.length)
    (hheard : s.hearReply (dataBytes t.length) line = (r, goodCharacters data ++ .character (.framing v) :: more)) :
    s.refreshVerdict t line false = some .framing := by
  refine replyVerdict_ended ?_ ?_
  · rw [hheard]
    simp [lineBreak_not_mem_goodCharacters, hmore]
  · rw [if_neg Bool.false_ne_true, hheard, replyEnded_framing _ _ _ _ _ hlength]

theorem goodCharacters_eq_nil {values : List Byte} : goodCharacters values = [] ↔ values = [] :=
  List.map_eq_nil_iff

theorem State.refreshVerdict_window (hlength : data.length ≤ dataBytes t.length)
    (hheard : s.hearReply (dataBytes t.length) line = (r, goodCharacters data))
    (hover : WindowOver (dataBytes t.length) s.link.sinceH1 line) :
    s.refreshVerdict t line false =
      some (if data ≠ [] ∨ r.midCharacter = true then .shortReply else .noReply) := by
  rw [State.refreshVerdict, (windowEnds_iff _ _ _).2 hover, if_neg Bool.false_ne_true, hheard,
    replyVerdict_expired (lineBreak_not_mem_goodCharacters data) (replyEnded_short _ _ _ hlength)]
  simp only [Bool.false_eq_true, false_or, ne_eq, goodCharacters_eq_nil]

theorem State.refreshVerdict_late {c : RxChar} (hlength : data.length ≤ dataBytes t.length)
    (hheard : s.hearReply (dataBytes t.length) line = (r, goodCharacters data ++ [.character c]))
    (hearly : HearsEarly s (dataBytes t.length) line (goodCharacters data))
    (hover : WindowOver (dataBytes t.length) s.link.sinceH1 line) :
    s.refreshVerdict t line true = some .shortReply := by
  have hbreak : RxEvent.lineBreak ∉ (s.hearReply (dataBytes t.length) line).2 := by
    rw [hheard]
    simp [lineBreak_not_mem_goodCharacters]
  rw [State.refreshVerdict, (windowEnds_iff _ _ _).2 hover, if_pos rfl, State.earlyReply_of_over hover hearly,
    replyVerdict_expired hbreak (replyEnded_short _ _ _ hlength), hheard]
  simp

theorem State.refreshVerdict_open (hlength : data.length ≤ dataBytes t.length)
    (hheard : s.hearReply (dataBytes t.length) line = (r, goodCharacters data))
    (hopen : ¬ WindowOver (dataBytes t.length) s.link.sinceH1 line) (first : Bool) :
    s.refreshVerdict t line first = none := by
  rw [State.refreshVerdict, windowEnds_of_open hopen, State.countedReply_of_open hopen, hheard,
    replyVerdict_open (replyEnded_short _ _ _ hlength)]

theorem State.refreshReception_loopback (h : s.link.mode = .loopback) (hresponder : s.link.responder = some data)
    (ending : ReplyEnd) :
    s.refreshReception t ending =
      some
        { after := s.hearLoopback (replyLevels
            (data ++ [checkByte (headerH0 t.branchChannel) (headerH1 t.branchChannel t.length) data]))
          data := data, outcome := .success } := by
  rw [State.refreshReception, h, hresponder]
  rfl

end

end

/-! ## RELAY (R109, R130) -/

section
variable {t : Transaction} {x : RelayContext} {s : State} {line : Wave} {first : Bool} {r : Receiver}

theorem exec_branchReplyEnd_relay {i : EntryIndex} (ending : ReplyEnd) (hrun : s.power = .running)
    (hstate : s.link.state = .replyWait t) (hop : t.op = .relay i) (hrelay : s.link.relay = some x) :
    exec (.branchReplyEnd ending) s = .next (s.replyEnds t (s.relayReception x ending)) := by
  have hrow : exec (.branchReplyEnd ending) s = execBranchReplyEnd ending s := rfl
  simp only [hrow, execBranchReplyEnd, s.isRunning_iff.mpr hrun, hstate, hop, hrelay]

/-- The verdict on what came of the end of a relay's reply. -/
def State.relayVerdict (x : RelayContext) (line : Wave) (first : Bool) (s : State) : Option BranchOutcome :=
  replyVerdict x.branchCheck (x.entry.bytes - x.received.length) (!x.received.isEmpty)
    (windowEnds x.entry.bytes s.link.sinceH1 line)
    (if first then s.earlyReply x.entry.bytes line else (s.hearReply x.entry.bytes line).2)
    (s.hearReply x.entry.bytes line)

/-- A relay's reply reception where no data character is missing, or none has come in time. -/
theorem State.relayReception_normal (h : s.link.mode = .normal)
    (hdata : ¬ (x.received.length < x.entry.bytes ∧
      goodBytes (if first then s.earlyReply x.entry.bytes line else (s.hearReply x.entry.bytes line).2) ≠ [])) :
    s.relayReception x ⟨line, first⟩ =
      (s.relayVerdict x line first).map fun o =>
        { after := s.setBranchReceiver (s.hearReply x.entry.bytes line).1, data := [], outcome := o } := by
  rw [State.relayReception, h]
  exact if_neg hdata

theorem exec_branchReplyEnd_relay_verdict {i : EntryIndex} {events : List RxEvent} {o : BranchOutcome}
    (hrun : s.power = .running) (hstate : s.link.state = .replyWait t) (hop : t.op = .relay i)
    (hrelay : s.link.relay = some x) (hmode : s.link.mode = .normal)
    (hdata : ¬ (x.received.length < x.entry.bytes ∧
      goodBytes (if first then s.earlyReply x.entry.bytes line else (s.hearReply x.entry.bytes line).2) ≠ []))
    (hheard : s.hearReply x.entry.bytes line = (r, events)) (hverdict : s.relayVerdict x line first = some o) :
    exec (.branchReplyEnd ⟨line, first⟩) s =
      .next (({ s with link := { s.link with receiver := r, receiverRate := t.rate, outsideLow := none } } :
        State).takeOutcome t [] o) := by
  rw [exec_branchReplyEnd_relay _ hrun hstate hop hrelay, State.relayReception_normal hmode hdata, hverdict, hheard,
    State.setBranchReceiver_at (LinkController.branchRate_of_replyWait hstate)]
  rfl

theorem State.relayVerdict_check {check : Byte} {more : List RxEvent} (hmore : RxEvent.lineBreak ∉ more)
    (hlength : x.received.length = x.entry.bytes)
    (hheard : s.hearReply x.entry.bytes line = (r, .character (.good check) :: more)) :
    s.relayVerdict x line false = some (if check = ~~~ x.branchCheck then .success else .check) := by
  refine replyVerdict_ended ?_ ?_
  · rw [hheard]
    simp [hmore]
  · rw [if_neg Bool.false_ne_true, hheard, hlength, Nat.sub_self]
    rfl

theorem State.relayVerdict_framing {v : Byte}
    (hheard : s.hearReply x.entry.bytes line = (r, [.character (.framing v)])) :
    s.relayVerdict x line false = some .framing := by
  refine replyVerdict_ended ?_ ?_
  · rw [hheard]
    simp
  · rw [if_neg Bool.false_ne_true, hheard]
    exact replyEnded_framing _ _ [] v [] (Nat.zero_le _)

/-- Nothing at all does not end a reception. -/
theorem replyEnded_nil (register : Byte) (n : Nat) : replyEnded register n [] = none :=
  replyEnded_short register n [] (Nat.zero_le _)

theorem State.relayVerdict_window (hheard : s.hearReply x.entry.bytes line = (r, []))
    (hover : WindowOver x.entry.bytes s.link.sinceH1 line) :
    s.relayVerdict x line false =
      some (if x.received ≠ [] ∨ r.midCharacter = true then .shortReply else .noReply) := by
  rw [State.relayVerdict, (windowEnds_iff _ _ _).2 hover, if_neg Bool.false_ne_true, hheard,
    replyVerdict_expired List.not_mem_nil (replyEnded_nil _ _)]
  simp

theorem State.relayVerdict_late {c : RxChar} (hheard : s.hearReply x.entry.bytes line = (r, [.character c]))
    (hearly : HearsEarly s x.entry.bytes line []) (hover : WindowOver x.entry.bytes s.link.sinceH1 line) :
    s.relayVerdict x line true = some .shortReply := by
  have hbreak : RxEvent.lineBreak ∉ (s.hearReply x.entry.bytes line).2 := by
    rw [hheard]
    simp
  rw [State.relayVerdict, (windowEnds_iff _ _ _).2 hover, if_pos rfl, State.earlyReply_of_over hover hearly,
    replyVerdict_expired hbreak (replyEnded_nil _ _), hheard]
  simp

theorem State.relayVerdict_open (hheard : s.hearReply x.entry.bytes line = (r, []))
    (hopen : ¬ WindowOver x.entry.bytes s.link.sinceH1 line) (first : Bool) : s.relayVerdict x line first = none := by
  rw [State.relayVerdict, windowEnds_of_open hopen, State.countedReply_of_open hopen, hheard,
    replyVerdict_open (replyEnded_nil _ _)]

theorem State.relayReception_loopback (h : s.link.mode = .loopback) (hlength : x.received.length = x.entry.bytes)
    (ending : ReplyEnd) :
    s.relayReception x ending =
      some { after := s.hearLoopback (characterLevels (~~~ x.branchCheck)), data := [], outcome := .success } := by
  rw [State.relayReception, h]
  exact if_pos hlength

end

/-! ## The three parts together -/

/-- Transmissions: the fault or the success, at the rate of the transaction. -/
theorem transmissions_takeOutcome {t : Transaction} {sent : Transmission} {k : Nat} {r : Receiver} {s p : State}
    (hrun : s.power = .running)
    (hp : p = { s with link := { s.link with receiver := r, receiverRate := t.rate, outsideLow := none } }) :
    (s.link.state = .header t → s.link.mode = .normal → NoWakeBefore s sent → DiffersFirst t.headerSent sent k →
        HearsFrame s t.rate (Wave.levels sent.before) ((Wave.levels sent.during).take (16 * k + 10)) r →
          (k < t.breakLength.bits + 2 → exec (.branchLineFault sent) s = .next (p.takeOutcome t [] .lineFault)) ∧
            (t.breakLength.bits + 2 ≤ k → exec (.branchBitError sent) s = .next (p.takeOutcome t [] .bitError))) ∧
      (s.link.state = .dataOut t →
        (s.link.mode = .normal ∧ ReadsBack (charactersLevels t.published) sent ∧
              HearsFrame s t.rate (Wave.levels sent.before)
                (Transmission.filled sent (charactersLevels t.published)) r ∨
            s.link.mode = .loopback ∧
              HearsFrame s t.rate (Wave.levels (sent.before.map fun y => (true, y.2)))
                (sixteenths (charactersLevels t.published)) r →
          exec (.publishDataSent sent) s = .next (p.takeOutcome t [] .success)) ∧
        (s.link.mode = .normal → DiffersFirst (charactersLevels t.published) sent k →
          HearsFrame s t.rate (Wave.levels sent.before) ((Wave.levels sent.during).take (16 * k + 10)) r →
            exec (.branchBitError sent) s = .next (p.takeOutcome t [] .bitError))) := by
  subst hp
  refine ⟨fun hstate hmode hwake hfirst hheard => ?_, fun hstate => ⟨fun hheard => ?_, fun hmode hfirst hheard => ?_⟩⟩
  · have hdiffers := State.differsOnBranch_eq_some_iff.2 ⟨hmode, hfirst⟩
    have hcut := State.cutOnBranch_eq (LinkController.branchRate_of_header hstate) hheard
    refine ⟨fun hk => ?_, fun hk => ?_⟩
    · rw [exec_branchLineFault_differs hrun hstate hwake hdiffers hk, hcut]
    · rw [exec_branchBitError_header hrun hstate hwake hdiffers hk, hcut]
  · exact exec_publishDataSent_sent hrun hstate
      (State.sentOnBranch_eq_some (LinkController.branchRate_of_dataOut hstate) hheard)
  · have hdiffers := State.differsOnBranch_eq_some_iff.2 ⟨hmode, hfirst⟩
    rw [exec_branchBitError_data hrun hstate hdiffers,
      State.cutOnBranch_eq (LinkController.branchRate_of_dataOut hstate) hheard]

/-- Settles O40: transmissions by the bit that differs, receptions by what came and by the window. -/
theorem lineEventsTakeOutcome : Obligations.LineEventsTakeOutcome := by
  refine ⟨fun t sent k r s p hrun hp => ?_, ?refresh, ?relay⟩
  · obtain ⟨hheader, hdata⟩ := transmissions_takeOutcome (sent := sent) (k := k) hrun hp
    exact ⟨hheader, hdata, fun hmode => exec_branchFault_loopback hmode sent⟩
  case refresh =>
    rintro t i o line r data more n s p hrun hstate hop rfl hmore rfl
    refine ⟨fun hmode => ⟨fun check hlength hheard => ?_, fun v hlength hheard => ?_, fun hlength hheard hover => ?_,
      fun c hlength hheard hearly hover => ?_, fun hlength hheard hopen first =>
        exec_branchReplyEnd_refresh_open hrun hstate hop hmode (State.refreshVerdict_open hlength hheard hopen first)⟩,
      fun ending hmode hresponder hr => ?_⟩
    · rw [exec_branchReplyEnd_refresh_verdict hrun hstate hop hmode hheard
        (State.refreshVerdict_check hmore hlength hheard), ← hlength, goodBytes_take]
    · rw [exec_branchReplyEnd_refresh_verdict hrun hstate hop hmode hheard
        (State.refreshVerdict_framing hmore hlength hheard), goodBytes_append, goodBytes_goodCharacters]
      rfl
    · rw [exec_branchReplyEnd_refresh_verdict hrun hstate hop hmode hheard
        (State.refreshVerdict_window hlength hheard hover), goodBytes_goodCharacters, List.take_of_length_le hlength]
    · rw [exec_branchReplyEnd_refresh_verdict hrun hstate hop hmode hheard
        (State.refreshVerdict_late hlength hheard hearly hover), goodBytes_append, goodBytes_goodCharacters]
    · rw [exec_branchReplyEnd_refresh _ hrun hstate hop, State.refreshReception_loopback hmode hresponder,
        State.hearLoopback, ← hr, State.setBranchReceiver_at (LinkController.branchRate_of_replyWait hstate)]
      rfl
  case relay =>
    rintro t i x line r more n s p hrun hstate hop hrelay rfl hlength hmore rfl
    refine ⟨fun hmode => ⟨fun check hall hheard => ?_, fun v hheard => ?_, fun hheard hover => ?_,
      fun c hheard hearly hover => ?_, fun hheard hopen first => ?_⟩, fun ending hmode hall hr => ?_⟩
    · exact exec_branchReplyEnd_relay_verdict hrun hstate hop hrelay hmode (fun h => absurd hall h.1.ne) hheard
        (State.relayVerdict_check hmore hall hheard)
    · refine exec_branchReplyEnd_relay_verdict hrun hstate hop hrelay hmode (fun h => h.2 ?_) hheard
        (State.relayVerdict_framing hheard)
      rw [if_neg Bool.false_ne_true, hheard]
      rfl
    · refine exec_branchReplyEnd_relay_verdict hrun hstate hop hrelay hmode (fun h => h.2 ?_) hheard
        (State.relayVerdict_window hheard hover)
      rw [if_neg Bool.false_ne_true, hheard]
      rfl
    · refine exec_branchReplyEnd_relay_verdict hrun hstate hop hrelay hmode (fun h => h.2 ?_) hheard
        (State.relayVerdict_late hheard hearly hover)
      rw [if_pos rfl, State.earlyReply_of_over hover hearly]
      rfl
    · have hnone : ¬ (x.received.length < x.entry.bytes ∧
          goodBytes (if first then s.earlyReply x.entry.bytes line else (s.hearReply x.entry.bytes line).2) ≠ []) := by
        rw [State.countedReply_of_open hopen, hheard]
        exact fun h => h.2 rfl
      rw [exec_branchReplyEnd_relay _ hrun hstate hop hrelay, State.relayReception_normal hmode hnone,
        State.relayVerdict_open hheard hopen]
      rfl
    · rw [exec_branchReplyEnd_relay _ hrun hstate hop hrelay, State.relayReception_loopback hmode hall,
        State.hearLoopback, ← hr, State.setBranchReceiver_at (LinkController.branchRate_of_replyWait hstate)]
      rfl

end Sys2Proof.Machine

/-! PROOFS. Relayed characters on their way to the trunk (O55). -/

namespace Sys2Proof.Machine

/-! ## RELAY_CHARACTER_RECEIVED (R130) -/

section
variable {line : Wave} {b : Byte} {r : Receiver} {t : Transaction} {x : RelayContext} {s : State}

theorem exec_relayCharacterReceived_heard {i : EntryIndex} {u : State} (hrun : s.power = .running)
    (hstate : s.link.state = .replyWait t) (hop : t.op = .relay i) (hrelay : s.link.relay = some x)
    (hcount : x.received.length < x.entry.bytes)
    (hheard : s.replyCharacter x.entry.bytes x.received.length line = some (b, u)) :
    exec (.relayCharacterReceived line) s = .next (u.setRelay (some (x.receive b))) := by
  have hrow : exec (.relayCharacterReceived line) s = execRelayCharacterReceived line s := rfl
  have hawaits : s.link.state.awaitsRelay = true := by rw [hstate, LinkState.awaitsRelay, hop]
  simp only [hrow, execRelayCharacterReceived, s.isRunning_iff.mpr hrun, hawaits, Bool.and_self, hrelay, hcount, if_true,
    hheard]

theorem State.replyCharacter_normal {n k : Nat} (hmode : s.link.mode = .normal)
    (hheard : s.hearReply n line = (r, [.character (.good b)])) :
    s.replyCharacter n k line =
      some (b, s.receiveReply r (s.link.sinceH1 +
        min (16 * (48 + 14 * (n + 1)) - s.link.sinceH1) (Wave.levels line).length)) := by
  have hlength : (withinWindow n s.link.sinceH1 line).length =
      min (16 * (48 + 14 * (n + 1)) - s.link.sinceH1) (Wave.levels line).length := by
    rw [withinWindow, List.length_take]
    rfl
  rw [← hlength, State.replyCharacter, hmode, hheard]

theorem State.replyCharacter_loopback {reply : List Byte} (hmode : s.link.mode = .loopback)
    (hresponder : s.link.responder = some reply) (n k : Nat) (line : Wave) :
    s.replyCharacter n k line =
      some (reply.getD k 0#8, s.hearLoopback (characterLevels (reply.getD k 0#8))) := by
  rw [State.replyCharacter, hmode, LinkController.responderByte, hresponder]
  rfl

/-- The character of a relay, received at the rate of its transaction. -/
theorem exec_relayCharacterReceived_of_heard {since : Nat} {i : EntryIndex} (hrun : s.power = .running)
    (hstate : s.link.state = .replyWait t) (hop : t.op = .relay i) (hrelay : s.link.relay = some x)
    (hcount : x.received.length < x.entry.bytes)
    (hheard : s.link.mode = .normal ∧ s.hearReply x.entry.bytes line = (r, [.character (.good b)]) ∧
          since = s.link.sinceH1 +
            min (16 * (48 + 14 * (x.entry.bytes + 1)) - s.link.sinceH1) (Wave.levels line).length ∨
      ∃ reply, since = s.link.sinceH1 ∧ s.link.mode = .loopback ∧ s.link.responder = some reply ∧
        b = reply.getD x.received.length 0#8 ∧
        r = (s.link.receiver.hearLevels .branch (sixteenths (characterLevels b))).1) :
    exec (.relayCharacterReceived line) s =
      .next
        { s with
          link :=
            { s.link with
              receiver := r, receiverRate := t.rate, sinceH1 := since, outsideLow := none
              relay := some (x.receive b) } } := by
  have hrate := LinkController.branchRate_of_replyWait hstate
  obtain ⟨hmode, hcharacter, rfl⟩ | ⟨reply, hsince, hmode, hresponder, hb, hr⟩ := hheard
  · rw [exec_relayCharacterReceived_heard hrun hstate hop hrelay hcount (State.replyCharacter_normal hmode hcharacter),
      State.receiveReply, State.setBranchReceiver_at hrate]
    rfl
  · rw [exec_relayCharacterReceived_heard hrun hstate hop hrelay hcount
        (b := b) (u := s.hearLoopback (characterLevels b))
        (by rw [State.replyCharacter_loopback hmode hresponder, ← hb]), State.hearLoopback,
      State.setBranchReceiver_at hrate, ← hr, hsince]
    rfl

end

/-! ## FORWARD_CHARACTER_HANDOFF (R131, R134) -/

theorem BranchSide.failed_iff (side : BranchSide) :
    side.failed = true ↔ side ≠ .stillOpen ∧ side ≠ .ended (some .success) := by
  cases side with
  | stillOpen => simp [BranchSide.failed]
  | ended outcome =>
    cases outcome with
    | none => simp [BranchSide.failed]
    | some o => cases o <;> simp [BranchSide.failed]

theorem BranchSide.last_failed (side : BranchSide) (rest : List ForwardChar) :
    (rest.isEmpty && side.failed) = decide (rest = [] ∧ side ≠ .stillOpen ∧ side ≠ .ended (some .success)) := by
  rw [Bool.eq_iff_iff, Bool.and_eq_true, List.isEmpty_iff, BranchSide.failed_iff, decide_eq_true_iff]

theorem PortState.handed_forward (c : ForwardChar) (last : Bool) (sending : Option ForwardChar)
    (waiting : List ForwardChar) (more : Bool) :
    PortState.handed c last (.forward sending waiting more) =
      .forward (some (sending.getD c)) (if sending = none then waiting else waiting ++ [c]) (more || last) := by
  cases sending <;> rfl

theorem exec_forwardCharacterHandoff_held {sending : Option ForwardChar} {waiting : List ForwardChar} {more : Bool}
    {check : Byte} {c : ForwardChar} {rest : List ForwardChar} {x : RelayContext} {s : State} (hrun : s.power = .running)
    (hport : s.trunk.port = .forward sending waiting more) (hrelay : s.link.relay = some x)
    (hside : x.trunkSide = .stillOpen check (c :: rest)) :
    exec .forwardCharacterHandoff s =
      .next ((s.setRelay (some { x with trunkSide := .stillOpen check rest })).setPort
        (PortState.handed c (rest.isEmpty && x.branchSide.failed) (.forward sending waiting more))) := by
  have hrow : exec .forwardCharacterHandoff s = execForwardCharacterHandoff s := rfl
  simp only [hrow, execForwardCharacterHandoff, s.isRunning_iff.mpr hrun, hport, hrelay, hside]

/-! ## The end of forwarding (R61, R132, R135) -/

section
variable {waiting : List ForwardChar} {more : Bool} {sent : Transmission} {s u : State}

theorem exec_trunkForwardBitError_collides {c : ForwardChar} (hrun : s.power = .running)
    (hport : s.trunk.port = .forward (some c) waiting more) (hcollides : s.collidesOnTrunk [c.value] sent = some u) :
    exec (.trunkForwardBitError sent) s = .next (((u.setFlag .trunkCollision).setPort .passive).endTrunkSide) := by
  have hrow : exec (.trunkForwardBitError sent) s = execTrunkForwardBitError s sent := rfl
  simp only [hrow, execTrunkForwardBitError, s.isRunning_iff.mpr hrun, hport, hcollides]

theorem exec_relayTrunkComplete_sent {b : Byte} (hrun : s.power = .running)
    (hport : s.trunk.port = .forward (some (.check b)) waiting more) (hsent : s.sentOnTrunk [b] sent = some u) :
    exec (.relayTrunkComplete sent) s = .next (((u.count .relayedOk).setPort .passive).endTrunkSide) := by
  have hrow : exec (.relayTrunkComplete sent) s = execRelayTrunkComplete s sent := rfl
  simp only [hrow, execRelayTrunkComplete, s.isRunning_iff.mpr hrun, hport, hsent]

theorem exec_forwardedCharacterFinished_next {b : Byte} {d : ForwardChar} {rest : List ForwardChar}
    (hrun : s.power = .running) (hport : s.trunk.port = .forward (some (.data b)) (d :: rest) more)
    (hsent : s.sentOnTrunk [b] sent = some u) :
    exec (.forwardedCharacterFinished sent) s = .next (u.setPort (.forward (some d) rest more)) := by
  have hrow : exec (.forwardedCharacterFinished sent) s = execForwardedCharacterFinished s sent := rfl
  simp only [hrow, execForwardedCharacterFinished, s.isRunning_iff.mpr hrun, hport, hsent]

theorem exec_forwardedCharacterFinished_last {b : Byte} (hrun : s.power = .running)
    (hport : s.trunk.port = .forward (some (.data b)) [] true) (hsent : s.sentOnTrunk [b] sent = some u) :
    exec (.forwardedCharacterFinished sent) s = .next ((u.setPort .passive).endTrunkSide) := by
  have hrow : exec (.forwardedCharacterFinished sent) s = execForwardedCharacterFinished s sent := rfl
  simp only [hrow, execForwardedCharacterFinished, s.isRunning_iff.mpr hrun, hport, hsent]

theorem exec_forwardedCharacterFinished_idles {b : Byte} (hrun : s.power = .running)
    (hport : s.trunk.port = .forward (some (.data b)) [] false) (hsent : s.sentOnTrunk [b] sent = some u) :
    exec (.forwardedCharacterFinished sent) s = .next (u.setPort (.forward none [] false)) := by
  have hrow : exec (.forwardedCharacterFinished sent) s = execForwardedCharacterFinished s sent := rfl
  simp only [hrow, execForwardedCharacterFinished, s.isRunning_iff.mpr hrun, hport, hsent]

theorem State.endTrunkSide_of_relay {x : RelayContext} (h : s.link.relay = some x) :
    s.endTrunkSide = s.setRelay (if x.branchSide = .stillOpen then some { x with trunkSide := .ended } else none) := by
  rw [State.endTrunkSide, h, ← RelayContext.endTrunk_eq]
  rfl

end

/-- Settles O55: the character received, the one handed over, and how forwarding ends. -/
theorem relayedCharactersReachTrunk : Obligations.RelayedCharactersReachTrunk := by
  refine ⟨fun line b r since t i x s hrun hstate hop hrelay hcount hheard => ?_,
    fun sending waiting more check c rest x s hrun hport hrelay hside => ?_, ?ends⟩
  · exact exec_relayCharacterReceived_of_heard hrun hstate hop hrelay hcount hheard
  · rw [exec_forwardCharacterHandoff_held hrun hport hrelay hside, PortState.handed_forward, BranchSide.last_failed]
    rfl
  case ends =>
    rintro c waiting more x sent r s p hrun hport hrelay rfl
    refine ⟨fun k hcollides => ?_, fun events hreads hheard hbreak => ?_⟩
    · have hcollision := State.collidesOnTrunk_eq_some_iff.2 ⟨k, r, hcollides, rfl⟩
      rw [exec_trunkForwardBitError_collides hrun hport hcollision, State.endTrunkSide_of_relay
        (s := ((s.setReceiver r).setFlag .trunkCollision).setPort .passive) hrelay]
      rfl
    · rw [← charactersLevels_singleton] at hreads hheard
      have hsent : s.sentOnTrunk [c.value] sent = some (s.setReceiver r) := by
        rw [State.sentOnTrunk_eq_some hreads (by rwa [hheard]), hheard]
      refine ⟨?_, ?_, ?_, ?_⟩
      · rintro b rfl
        rw [exec_relayTrunkComplete_sent hrun hport hsent,
          State.endTrunkSide_of_relay (s := ((s.setReceiver r).count .relayedOk).setPort .passive) hrelay]
        rfl
      · rintro b d rest rfl rfl
        rw [exec_forwardedCharacterFinished_next hrun hport hsent]
        rfl
      · rintro b rfl rfl rfl
        rw [exec_forwardedCharacterFinished_last hrun hport hsent,
          State.endTrunkSide_of_relay (s := (s.setReceiver r).setPort .passive) hrelay]
        rfl
      · rintro b rfl rfl rfl
        rw [exec_forwardedCharacterFinished_idles hrun hport hsent]
        rfl

end Sys2Proof.Machine

/-! PROOFS. The work that a segment reset leaves: the publications offered again, and no other (R98, R122, R123). -/

namespace Sys2Proof.Machine

/-! ## Work for an entry, and work of a re-offer alone -/

/-- The queue or the deferred set holds the entry. -/
def Scheduler.Holds (q : Scheduler) (i : EntryIndex) : Prop :=
  q.queued i = true ∨ q.isDeferred i = true

/-- Every item and every deferred element is a PUBLISH of a RETRY, as a re-offer makes them (R98). -/
def Scheduler.RetriesOnly (q : Scheduler) : Prop :=
  (∀ it ∈ q.queue, it.op = .publish ∧ it.origin = .retry) ∧ ∀ d ∈ q.deferred, d.op = .publish ∧ d.origin = .retry

theorem Scheduler.RetriesOnly.filter {q : Scheduler} (h : q.RetriesOnly) (keepItem : QueueItem → Bool)
    (keepElement : DeferredElement → Bool) :
    ({ q with queue := q.queue.filter keepItem, deferred := q.deferred.filter keepElement } :
      Scheduler).RetriesOnly := by
  obtain ⟨hitems, helements⟩ := h
  exact ⟨fun it hit => hitems it (List.mem_of_mem_filter hit), fun d hd => helements d (List.mem_of_mem_filter hd)⟩

theorem Scheduler.RetriesOnly.refill {q : Scheduler} (h : q.RetriesOnly) (priority : EntryIndex → BitVec 2) :
    (Scheduler.refill priority q).RetriesOnly := by
  obtain ⟨hitems, helements⟩ := h
  rw [Scheduler.refill_eq]
  refine ⟨fun it hit => ?_, fun d hd => helements d (List.mem_of_mem_drop hd)⟩
  obtain hit | hit := List.mem_append.1 hit
  · exact hitems it hit
  · obtain ⟨k, hk, rfl⟩ := List.mem_mapIdx.1 hit
    exact helements _ (List.mem_of_mem_take (List.getElem_mem hk))

theorem Scheduler.Holds.refill {q : Scheduler} {i : EntryIndex} (h : q.Holds i) (priority : EntryIndex → BitVec 2) :
    (Scheduler.refill priority q).Holds i := by
  rw [Scheduler.Holds, Scheduler.queued_iff, Scheduler.isDeferred_iff] at h ⊢
  rw [Scheduler.refill_eq]
  obtain ⟨it, hit, rfl⟩ | ⟨d, hd, rfl⟩ := h
  · exact Or.inl ⟨it, List.mem_append_left _ hit, rfl⟩
  · rw [← List.take_append_drop (16 - q.queue.length) q.deferred, List.mem_append] at hd
    obtain hd | hd := hd
    · obtain ⟨k, hk, rfl⟩ := List.getElem_of_mem hd
      exact Or.inl ⟨_, List.mem_append_right _ (List.mem_mapIdx.2 ⟨k, hk, rfl⟩), rfl⟩
    · exact Or.inr ⟨d, hd, rfl⟩

theorem Scheduler.Holds.filter {q : Scheduler} {i : EntryIndex} (h : q.Holds i) {keepItem : QueueItem → Bool}
    {keepElement : DeferredElement → Bool} (hitems : ∀ it ∈ q.queue, it.entry = i → keepItem it = true)
    (helements : ∀ d ∈ q.deferred, d.entry = i → keepElement d = true) :
    ({ q with queue := q.queue.filter keepItem, deferred := q.deferred.filter keepElement } : Scheduler).Holds i := by
  rw [Scheduler.Holds, Scheduler.queued_iff, Scheduler.isDeferred_iff] at h ⊢
  obtain ⟨it, hit, hi⟩ | ⟨d, hd, hi⟩ := h
  · exact Or.inl ⟨it, List.mem_filter.2 ⟨hit, hitems it hit hi⟩, hi⟩
  · exact Or.inr ⟨d, List.mem_filter.2 ⟨hd, helements d hd hi⟩, hi⟩

theorem Scheduler.Holds.of_eq {p q : Scheduler} {i : EntryIndex} (h : p.Holds i) (hqueue : q.queue = p.queue)
    (hdeferred : q.deferred = p.deferred) : q.Holds i := by
  rw [Scheduler.Holds, Scheduler.queued_iff, Scheduler.isDeferred_iff] at h ⊢
  rwa [hqueue, hdeferred]

theorem Scheduler.RetriesOnly.of_eq {p q : Scheduler} (h : p.RetriesOnly) (hqueue : q.queue = p.queue)
    (hdeferred : q.deferred = p.deferred) : q.RetriesOnly := by
  rw [Scheduler.RetriesOnly] at h ⊢
  rwa [hqueue, hdeferred]

/-! ## The re-offer from an empty queue -/

/-- The entries of the re-offer (R98). -/
def State.owed (s : State) : List EntryIndex :=
  (List.finRange 64).filter fun i => (s.activeEntry i).takesPublish && (s.record i).pending

theorem State.mem_owed {s : State} {i : EntryIndex} :
    i ∈ s.owed ↔ (s.activeEntry i).takesPublish = true ∧ (s.record i).pending = true := by
  rw [State.owed, List.mem_filter, Bool.and_eq_true]
  exact and_iff_right (List.mem_finRange i)

theorem State.reOffered_retriesOnly (due : List EntryIndex) (s : State) : (s.reOffered due).sched.RetriesOnly := by
  refine ⟨fun it hit => ?_, fun d hd => ?_⟩
  · obtain ⟨k, hk, rfl⟩ := List.mem_mapIdx.1 hit
    exact ⟨rfl, rfl⟩
  · obtain ⟨j, -, rfl⟩ := List.mem_map.1 hd
    exact ⟨rfl, rfl⟩

theorem State.reOffered_holds {due : List EntryIndex} {i : EntryIndex} (h : i ∈ due) (s : State) :
    (s.reOffered due).sched.Holds i := by
  rw [Scheduler.Holds, Scheduler.queued_iff, Scheduler.isDeferred_iff]
  rw [← List.take_append_drop 16 due, List.mem_append] at h
  obtain h | h := h
  · obtain ⟨k, hk, rfl⟩ := List.getElem_of_mem h
    exact Or.inl ⟨_, List.mem_mapIdx.2 ⟨k, hk, rfl⟩, rfl⟩
  · exact Or.inr ⟨_, List.mem_map.2 ⟨i, h, rfl⟩, rfl⟩

section
variable {p : State}

theorem State.reOffer_eq_reOffered (hidle : p.link.state = .idle) (hqueue : p.sched.queue = [])
    (hdeferred : p.sched.deferred = []) : p.reOffer = p.reOffered p.owed := by
  have hstate : p.link.state ≠ .quarantine := by
    rw [hidle]
    nofun
  rw [State.reOffer_eq_foldl, State.foldl_request_eq hstate hqueue hdeferred ((List.pairwise_lt_finRange 64).filter _)]
  rfl

/-! ## A commit after the re-offer (R100) -/

theorem Scheduler.work_of_countdowns {p q : Scheduler} {v : Vector Byte 64} (h : { p with countdowns := v } = q) :
    p.queue = q.queue ∧ p.deferred = q.deferred := by
  rw [← h]
  exact ⟨rfl, rfl⟩

theorem State.applyCommit_retriesOnly {s : State} (h : s.sched.RetriesOnly) : s.applyCommit.sched.RetriesOnly := by
  obtain ⟨hqueue, hdeferred⟩ := Scheduler.work_of_countdowns s.applyCommit_sched
  exact ((h.filter _ _).refill _).of_eq hqueue hdeferred

/-- A commit keeps the publications of the entries whose identity it keeps. -/
theorem State.applyCommit_holds {s : State} {i : EntryIndex} (h : s.sched.Holds i) (hretries : s.sched.RetriesOnly)
    (hsame : SameIdentity (s.route.activeContents.entry i) (s.route.editContents.entry i))
    (hpublish : (s.route.editContents.entry i).takesPublish = true) : s.applyCommit.sched.Holds i := by
  have hkept : (!QueueOp.publish.purgedAtCommit (s.route.activeContents.entry i) (s.route.editContents.entry i)) = true := by
    rw [QueueOp.not_purgedAtCommit, decide_eq_true hsame, Bool.true_and]
    exact hpublish
  obtain ⟨hqueue, hdeferred⟩ := Scheduler.work_of_countdowns s.applyCommit_sched
  obtain ⟨hitems, helements⟩ := hretries
  refine ((h.filter ?_ ?_).refill _).of_eq hqueue hdeferred
  · rintro it hit rfl
    rw [(hitems it hit).1]
    exact hkept
  · rintro d hd rfl
    rw [(helements d hd).1]
    exact hkept

/-! ## Taking an item of a re-offer (R106, R123) -/

theorem State.takeItem_sched (it : QueueItem) (s : State) :
    (s.takeItem it).sched =
      Scheduler.refill s.priorityOf { s.sched with queue := s.sched.queue.filter fun x => x.entry != it.entry } := by
  rw [State.takeItem, State.setLinkState_sched, State.mapSched_sched]

/-- What an IDLE link makes of a re-offer: nothing without items, and otherwise a PUBLISH in HEADER. -/
theorem State.takeOffered_of_retriesOnly (hidle : p.link.state = .idle) (h : p.sched.RetriesOnly) :
    p.takeOffered = p ∧ p.sched.queue = [] ∨
      ∃ it ∈ p.sched.queue, p.takeOffered = p.takeItem it ∧
        p.operationOf it = .publish it.entry .retry (p.record it.entry).version (p.record it.entry).data := by
  by_cases hqueue : p.sched.queue = []
  · exact Or.inl ⟨State.takeOffered_of_empty hqueue, hqueue⟩
  · obtain ⟨it, hoffer⟩ := Option.ne_none_iff_exists'.1 (Scheduler.offer_ne_none hqueue)
    obtain ⟨hit, -⟩ := Scheduler.mem_top.1 (Scheduler.offer_mem_top hoffer)
    obtain ⟨hitems, -⟩ := h
    obtain ⟨hop, horigin⟩ := hitems it hit
    exact Or.inr ⟨it, hit, State.takeOffered_of_offer hidle hoffer, by rw [State.operationOf, hop, horigin]⟩

/-- The state of the link behind a re-offer and the taking of its item. -/
theorem State.takeOffered_publishes (hidle : p.link.state = .idle) (h : p.sched.RetriesOnly) :
    p.takeOffered.link.state = .idle ∧ p.takeOffered.sched.queue = [] ∨
      ∃ x i v d, p.takeOffered.link.state = .header x ∧ x.op = .publish i .retry v d := by
  obtain ⟨hsame, hqueue⟩ | ⟨it, -, htake, hop⟩ := State.takeOffered_of_retriesOnly hidle h
  · rw [hsame]
    exact Or.inl ⟨hidle, hqueue⟩
  · rw [htake]
    exact Or.inr ⟨_, it.entry, _, _, rfl, hop⟩

/-- Work that the queue or the deferred set holds is there behind the taking of an item, or in HEADER. -/
theorem State.takeOffered_holds {i : EntryIndex} (hidle : p.link.state = .idle) (h : p.sched.RetriesOnly)
    (hholds : p.sched.Holds i) :
    p.takeOffered.sched.queued i = true ∨ p.takeOffered.sched.isDeferred i = true ∨
      ∃ x ∈ p.takeOffered.link.state.transaction, x.publishes i = true := by
  obtain ⟨hsame, -⟩ | ⟨it, hit, htake, hop⟩ := State.takeOffered_of_retriesOnly hidle h
  · rw [hsame]
    exact or_assoc.1 (Or.inl hholds)
  · rw [htake]
    by_cases hentry : it.entry = i
    · refine Or.inr (Or.inr ⟨_, rfl, ?_⟩)
      rw [Transaction.publishes, hop]
      exact beq_iff_eq.2 hentry
    · have hothers : ({ p.sched with queue := p.sched.queue.filter fun x => x.entry != it.entry } : Scheduler).Holds i := by
        have hkept := hholds.filter (keepItem := fun x => x.entry != it.entry) (keepElement := fun _ => true)
          (fun x _ hx => bne_iff_ne.2 fun he => hentry (he.symm.trans hx)) (fun _ _ _ => rfl)
        rwa [List.filter_true] at hkept
      have hsched := hothers.refill p.priorityOf
      rw [← State.takeItem_sched] at hsched
      exact or_assoc.1 (Or.inl hsched)

end

end Sys2Proof.Machine

/-! PROOFS. RESET_BRANCH: the segment reset, the re-offer, the pending commit and the item taken (O48). -/

namespace Sys2Proof.Machine

/-! ## The slot and RESULT beside the rest of the state -/

/-- The state with that slot and RESULT. -/
def State.withSlot (sl : Option Slot) (res : ResultRecord) (s : State) : State :=
  s.mapAgent fun g => { g with slot := sl, result := res }

section
variable (sl : Option Slot) (res : ResultRecord)

theorem State.withSlot_route (s : State) : (s.withSlot sl res).route = s.route :=
  rfl

theorem State.request_withSlot (e : EntryIndex) (op : QueueOp) (origin : Origin) (s : State) :
    (s.withSlot sl res).request e op origin = (s.request e op origin).withSlot sl res := by
  have hdisposition : (s.withSlot sl res).disposition e origin = s.disposition e origin := rfl
  unfold State.request
  rw [hdisposition]
  cases s.disposition e origin <;> rfl

theorem State.reOffer_withSlot (s : State) : (s.withSlot sl res).reOffer = s.reOffer.withSlot sl res := by
  have howed : (s.withSlot sl res).owed = s.owed := rfl
  have hfold : ∀ (due : List EntryIndex) (u : State),
      due.foldl (fun t i => t.request i .publish .retry) (u.withSlot sl res) =
        (due.foldl (fun t i => t.request i .publish .retry) u).withSlot sl res := by
    intro due
    induction due with
    | nil => exact fun _ => rfl
    | cons i due ih =>
      intro u
      rw [List.foldl_cons, List.foldl_cons, State.request_withSlot]
      exact ih _
  rw [State.reOffer_eq_foldl, State.reOffer_eq_foldl, ← hfold]
  exact congrArg (fun due => List.foldl _ _ due) howed

theorem State.mapRecords_withSlot (f : EntryIndex → Record → Record) (s : State) :
    (s.withSlot sl res).mapRecords f = (s.mapRecords f).withSlot sl res := by
  rw [State.mapRecords, State.mapRecords]
  generalize hf : (fun st : RecordStore => { st with records := Vector.ofFn fun i => f i (st.records.get i) }) = g
  rfl

theorem State.applyCommit_withSlot (s : State) : (s.withSlot sl res).applyCommit = s.applyCommit.withSlot sl res := by
  have hrecords : ∀ t : State,
      (t.withSlot sl res).recordsAtCommit s.route.activeContents =
        (t.recordsAtCommit s.route.activeContents).withSlot sl res :=
    fun t => t.mapRecords_withSlot sl res _
  have hsched : ∀ t : State,
      (t.withSlot sl res).schedAtCommit s.route.activeContents =
        (t.schedAtCommit s.route.activeContents).withSlot sl res := fun _ => rfl
  rw [State.applyCommit, State.applyCommit, ← hsched, ← hrecords]
  rfl

theorem State.takeOffered_withSlot (s : State) : (s.withSlot sl res).takeOffered = s.takeOffered.withSlot sl res := by
  have hlink : (s.withSlot sl res).link = s.link := rfl
  have hsched : (s.withSlot sl res).sched = s.sched := rfl
  unfold State.takeOffered
  rw [hlink, hsched]
  cases s.link.state.isIdle
  · rfl
  · cases s.sched.offer <;> rfl

theorem State.finishPending_withSlot_self {code tag : Byte} (a : Answer) (s : State) :
    (s.withSlot (some { code := code, tag := tag }) res).finishPending code a =
      s.withSlot none { res with outcome := a.outcome, data := a.data } := by
  rw [State.finishPending_eq_completed (tag := tag) rfl]
  rfl

theorem State.finishPending_withSlot_other {code c tag : Byte} (h : c ≠ code) (a : Answer) (s : State) :
    (s.withSlot (some { code := c, tag := tag }) res).finishPending code a =
      s.withSlot (some { code := c, tag := tag }) res := by
  refine State.finishPending_of_not_held (fun hheld => ?_) a
  obtain ⟨x, hslot, hcode⟩ := State.slotHeldBy_iff.1 hheld
  obtain rfl := Option.some_inj.1 hslot
  exact h hcode

theorem State.finishPending_withSlot_none (code : Byte) (a : Answer) (s : State) :
    (s.withSlot none res).finishPending code a = s.withSlot none res :=
  State.finishPending_of_free rfl code a

end

/-- RESULT of a record executed, whatever the slot and RESULT before were. -/
theorem State.recordAnswer_withSlot {code tag : Byte} {a : Answer} (ha : a.outcome ≠ .pending) (res : ResultRecord)
    {s : State} (hslot : s.agent.slot = none) :
    (s.receiveRecord.withSlot none res).recordAnswer code tag a = executed code tag a.outcome a.data s := by
  have hagent : s.agent = { s.agent with slot := none } := by rw [← hslot]
  simp only [State.recordAnswer, if_neg ha]
  rw [executed, hagent]
  rfl

/-! ## The relay that a segment reset abandons (R122, R137) -/

/-- The context of a relay whose branch side is abandoned, with the trunk port in PASSIVE. -/
def RelayContext.abandoned (y : RelayContext) : Option RelayContext :=
  match y.trunkSide with
  | .ended => none
  | .stillOpen check _ => some { y with trunkSide := .stillOpen check [], branchSide := .ended none }

/-- The same context with its held characters discarded. -/
def RelayContext.emptied (y : RelayContext) : RelayContext :=
  { y with trunkSide := match y.trunkSide with
      | .stillOpen check _ => .stillOpen check []
      | .ended => .ended }

theorem RelayContext.emptied_held (y : RelayContext) : y.emptied.held = [] := by
  unfold RelayContext.held RelayContext.emptied
  cases y.trunkSide <;> rfl

theorem RelayContext.emptied_kept (y : RelayContext) :
    RelayContext.kept { y.emptied with branchSide := .ended none } = y.abandoned := by
  unfold RelayContext.kept RelayContext.emptied RelayContext.abandoned
  cases y.trunkSide <;> rfl

theorem State.abandonRelay_receiveRecord (u : State) :
    u.receiveRecord.abandonRelay = u.receiveRecord.setRelay (u.link.relay.bind RelayContext.abandoned) := by
  have hstart : u.receiveRecord.abandonRelay =
      (u.receiveRecord.setRelay (u.link.relay.map RelayContext.emptied)).endBranchSide none := rfl
  rw [hstart]
  cases u.link.relay with
  | none =>
    unfold State.endBranchSide
    rfl
  | some x =>
    have hport : ∀ sending waiting more,
        ((u.receiveRecord.setRelay (some x.emptied)).setRelay x.abandoned).trunk.port ≠ .forward sending waiting more :=
      nofun
    rw [Option.map_some, State.endBranchSide_unheld (x := x.emptied) rfl x.emptied_held, x.emptied_kept,
      State.tellNothingMore_elsewhere hport]
    rfl

/-- The transaction in progress is a relay. -/
def LinkState.relays (l : LinkState) : Bool :=
  l.transaction.any fun x => match x.op with | .relay _ => true | _ => false

theorem State.abandonTransaction_receiveRecord (u : State) :
    u.receiveRecord.abandonTransaction =
      u.receiveRecord.setRelay
        (if u.link.state.relays then u.link.relay.bind RelayContext.abandoned else u.link.relay) := by
  have hlink : u.receiveRecord.link = u.link := rfl
  unfold State.abandonTransaction LinkState.relays
  rw [hlink]
  cases u.link.state.transaction with
  | none => rfl
  | some x =>
    obtain ⟨op, -, -, -, -⟩ := x
    cases op with
    | relay i => exact State.abandonRelay_receiveRecord u
    | _ => rfl

/-! ## What the branch receiver has heard (R112, R122) -/

theorem State.hearFrameCut_receiveRecord (branch : Transmission) (s : State) :
    s.receiveRecord.hearFrameCut branch = (s.hearFrameCut branch).receiveRecord := by
  have hlink : s.receiveRecord.link = s.link := rfl
  unfold State.hearFrameCut
  rw [hlink]
  cases s.link.state <;> rfl

theorem LinkController.branchRate_inTransaction {c : LinkController} {rate : RateCode}
    (h : ∃ x, c.state.transaction = some x ∧ x.rate = rate) : c.branchRate = rate := by
  obtain ⟨x, hx, rfl⟩ := h
  exact LinkController.branchRate_of_transaction hx

theorem State.hearFrameCut_of_transaction {s : State} {x : Transaction} (h : s.link.state.transaction = some x)
    (branch : Transmission) :
    s.hearFrameCut branch = s.hearFrame (Wave.levels branch.before) (Wave.levels branch.during) := by
  unfold State.hearFrameCut
  cases hstate : s.link.state <;> rw [hstate] at h <;> cases h

theorem State.hearFrameCut_of_neither {s : State} (hnone : s.link.state.inTransaction = false)
    (hpulse : ∀ asleep steps rate, s.link.state ≠ .wakeOut asleep steps rate) (branch : Transmission) :
    s.hearFrameCut branch = s := by
  unfold State.hearFrameCut
  cases hstate : s.link.state with
  | wakeOut asleep steps rate => exact absurd hstate (hpulse asleep steps rate)
  | header x =>
    rw [hstate] at hnone
    cases hnone
  | replyWait x =>
    rw [hstate] at hnone
    cases hnone
  | dataOut x =>
    rw [hstate] at hnone
    cases hnone
  | _ => rfl

/-- The branch receiver at a segment reset, by what the reset cuts short. -/
theorem State.hearFrameCut_eq {s : State} {branch : Transmission} {r : Receiver} {rate : RateCode} {low : Option Nat}
    (h : (∃ asleep steps, s.link.state = .wakeOut asleep steps rate) ∧
          HearsPulse s rate (Wave.levels branch.before) (Wave.levels branch.during) r low ∨
        (∃ x, s.link.state.transaction = some x ∧ x.rate = rate) ∧
          HearsFrame s rate (Wave.levels branch.before) (Wave.levels branch.during) r ∧ low = none ∨
        s.link.state.inTransaction = false ∧ (∀ asleep steps pulse, s.link.state ≠ .wakeOut asleep steps pulse) ∧
          r = s.link.receiver ∧ rate = s.link.receiverRate ∧ low = s.link.outsideLow) :
    s.hearFrameCut branch =
      { s with link := { s.link with receiver := r, receiverRate := rate, outsideLow := low } } := by
  obtain ⟨⟨asleep, steps, hstate⟩, hheard⟩ | ⟨htransaction, hheard, rfl⟩ | ⟨hnone, hpulse, rfl, rfl, rfl⟩ := h
  · rw [hearsPulse_iff _ _ _ _ _ _ (LinkController.branchRate_of_wakeOut hstate)] at hheard
    rw [← hheard, State.hearFrameCut, hstate]
  · rw [hearsFrame_iff _ _ _ _ _ (LinkController.branchRate_inTransaction htransaction)] at hheard
    obtain ⟨x, hx, -⟩ := htransaction
    rw [← hheard, State.hearFrameCut_of_transaction hx]
  · exact State.hearFrameCut_of_neither hnone hpulse branch

/-! ## The segment reset (R79, R99, R122) -/

/-- Link, queue and failure history after a segment reset, with the branch receiver where it stands. -/
def State.branchCleared (r : Receiver) (rate : RateCode) (low : Option Nat) (s : State) : State :=
  { s with
    store :=
      { s.store with records := Vector.ofFn fun i => { s.record i with fails := 0#4, silent := false } }
    sched := { s.sched with queue := [], deferred := [] }
    link :=
      { s.link with
        state := .idle, mode := .normal, score := 0#8, hold := 0#8, settle := 0#8, sampling := false
        sleepFramePending := false, responder := none
        relay := if s.link.state.relays then s.link.relay.bind RelayContext.abandoned else s.link.relay
        receiver := r, receiverRate := rate, outsideLow := low } }

theorem State.segmentReset_receiveRecord (r : Receiver) (rate : RateCode) (low : Option Nat) (s : State) :
    (({ s with link := { s.link with receiver := r, receiverRate := rate, outsideLow := low } } :
        State).receiveRecord).segmentReset =
      (((s.branchCleared r rate low).receiveRecord.withSlot s.agent.slot s.agent.result).finishPending Code.sleepBranch
        (Answer.plain .aborted)).finishPending Code.wakeBranch (Answer.plain .aborted) := by
  unfold State.segmentReset
  rw [State.abandonTransaction_receiveRecord]
  refine congrArg (fun u : State => (u.finishPending Code.sleepBranch (Answer.plain .aborted)).finishPending
    Code.wakeBranch (Answer.plain .aborted)) ?_
  unfold State.clearFailures State.mapRecords
  rfl

/-! ## The re-offer and the pending commit (R98, R41, R123) -/

/-- The re-offer, and the commit if one is pending. -/
def State.resumed (s : State) : State :=
  if s.route.commitPending = true then s.reOffer.applyCommit else s.reOffer

theorem State.resumed_withSlot (sl : Option Slot) (res : ResultRecord) (s : State) :
    (s.withSlot sl res).resumed = s.resumed.withSlot sl res := by
  have hroute : (s.withSlot sl res).route = s.route := rfl
  unfold State.resumed
  rw [hroute, State.reOffer_withSlot, State.applyCommit_withSlot]
  split <;> rfl

theorem State.resumed_receiveRecord (s : State) : s.receiveRecord.resumed = s.resumed.receiveRecord := by
  have hroute : s.receiveRecord.route = s.route := rfl
  unfold State.resumed
  rw [hroute, State.reOffer_receiveRecord, State.applyCommit_receiveRecord]
  split <;> rfl

theorem State.applyPendingCommit_free (res : ResultRecord) (s : State) :
    (s.withSlot none res).reOffer.applyPendingCommit = s.resumed.withSlot none res := by
  unfold State.applyPendingCommit State.resumed
  rw [State.reOffer_withSlot, State.withSlot_route, State.reOffer_route, State.applyCommit_withSlot,
    State.finishPending_withSlot_none]
  split <;> rfl

theorem State.applyPendingCommit_held (tag : Byte) (res : ResultRecord) {s : State} (h : s.route.commitPending = true) :
    ∃ data, (s.withSlot (some { code := Code.commit, tag := tag }) res).reOffer.applyPendingCommit =
      s.resumed.withSlot none { res with outcome := .done, data := data } := by
  have hpending : (s.reOffer.withSlot (some { code := Code.commit, tag := tag }) res).route.commitPending = true := by
    rw [State.withSlot_route, State.reOffer_route, h]
  rw [State.reOffer_withSlot, State.applyPendingCommit, if_pos hpending, State.applyCommit_withSlot,
    State.finishPending_withSlot_self, State.resumed, if_pos h]
  exact ⟨_, rfl⟩

/-- The slot at a segment reset: empty, or held by COMMIT with its commit pending, or by SLEEP_BRANCH or WAKE_BRANCH. -/
theorem SlotInv.resettable {s : State} (h : SlotInv s)
    (hcodes : ∀ sl ∈ s.agent.slot, sl.code = 0x15#8 ∨ sl.code = 0x50#8 ∨ sl.code = 0x51#8) :
    s.agent.slot = none ∨
      (∃ tag, s.agent.slot = some { code := Code.commit, tag := tag } ∧ s.route.commitPending = true) ∨
      (∃ tag, s.agent.slot = some { code := Code.sleepBranch, tag := tag }) ∨
      ∃ tag, s.agent.slot = some { code := Code.wakeBranch, tag := tag } := by
  obtain ⟨-, -, hcommit, -⟩ := h
  cases hslot : s.agent.slot with
  | none => exact Or.inl rfl
  | some sl =>
    obtain ⟨code, tag⟩ := sl
    obtain hcode | hcode | hcode := hcodes _ hslot
    all_goals obtain rfl := hcode
    · exact Or.inr (Or.inl ⟨tag, rfl, hcommit.1 (State.slotHeldBy_iff.2 ⟨_, hslot, rfl⟩)⟩)
    · exact Or.inr (Or.inr (Or.inl ⟨tag, rfl⟩))
    · exact Or.inr (Or.inr (Or.inr ⟨tag, rfl⟩))

/-- What the slot says of the command that a segment reset ends, with its outcome (R123, R176). -/
def endedData (slot : Option Slot) : List Byte :=
  match slot with
  | none => []
  | some sl => [sl.code, sl.tag, if sl.code = 0x15#8 then 1#8 else 13#8]

/-- The segment reset on a record received: the slot is freed, and RESULT has the outcome of what held it. -/
theorem State.resetBranch_receiveRecord {s : State} (h : SlotInv s)
    (hcodes : ∀ sl ∈ s.agent.slot, sl.code = 0x15#8 ∨ sl.code = 0x50#8 ∨ sl.code = 0x51#8) (r : Receiver)
    (rate : RateCode) (low : Option Nat) :
    ∃ res,
      (({ s with link := { s.link with receiver := r, receiverRate := rate, outsideLow := low } } :
          State).receiveRecord).resetBranch =
        ((s.branchCleared r rate low).receiveRecord.resumed).withSlot none res ∧
      ∀ u : State, endedCommand s.agent.slot (u.withSlot none res) = endedData s.agent.slot := by
  rw [State.resetBranch, State.segmentReset_receiveRecord]
  obtain hslot | ⟨tag, hslot, hpending⟩ | ⟨tag, hslot⟩ | ⟨tag, hslot⟩ := h.resettable hcodes
  all_goals rw [hslot]
  · rw [State.finishPending_withSlot_none, State.finishPending_withSlot_none, State.applyPendingCommit_free]
    exact ⟨_, rfl, fun _ => rfl⟩
  · rw [State.finishPending_withSlot_other _ (by decide), State.finishPending_withSlot_other _ (by decide)]
    obtain ⟨data, hdone⟩ := State.applyPendingCommit_held tag s.agent.result
      (s := (s.branchCleared r rate low).receiveRecord) hpending
    exact ⟨_, hdone, fun _ => rfl⟩
  · rw [State.finishPending_withSlot_self, State.finishPending_withSlot_none, State.applyPendingCommit_free]
    exact ⟨_, rfl, fun _ => rfl⟩
  · rw [State.finishPending_withSlot_other _ (by decide), State.finishPending_withSlot_self,
      State.applyPendingCommit_free]
    exact ⟨_, rfl, fun _ => rfl⟩

/-! ## The command (R123, R152) -/

/-- A COMMAND row whose record is taken although the slot may be held. -/
theorem recordAnswers_of_taken {code tag : Byte} {ops : Operands} {row : HeardOperands → Instr}
    {owner : State → State × Answer} {s t : State} {a : Answer} (hrun : s.power = .running)
    (hport : s.trunk.port.capturesCommand = true) (htaken : s.refusesRecord code = false)
    (hrow : ∀ line u, exec (row ⟨ops, line⟩) u = .next (takeCommand code tag ⟨ops, line⟩ owner u))
    (howner : owner s.receiveRecord = (t, a)) : RecordAnswers code tag ops row s (t.recordAnswer code tag a) := by
  intro line u heard
  obtain ⟨hpower, hsame⟩ := HearsRecord.power_port heard
  rw [hrow, takeCommand, takeCommandThen_heard (hpower.trans hrun) (hsame ▸ hport) heard, takeRecord, htaken, howner]
  rfl

theorem exec_resetBranch (tag : Byte) (ops : Operands) (branch : Transmission) (line : Wave) (u : State) :
    exec (.resetBranch tag ⟨ops, line⟩ branch) u =
      .next (takeCommand 0x42#8 tag ⟨ops, line⟩
        (fun t =>
          ((t.hearFrameCut branch).resetBranch.takeOffered,
            { outcome := .done, data := endedCommand t.agent.slot (t.hearFrameCut branch).resetBranch })) u) :=
  rfl

theorem State.not_refuses_resetBranch {s : State}
    (hcodes : ∀ sl ∈ s.agent.slot, sl.code = 0x15#8 ∨ sl.code = 0x50#8 ∨ sl.code = 0x51#8) :
    s.refusesRecord 0x42#8 = false := by
  unfold State.refusesRecord
  cases hslot : s.agent.slot with
  | none => rfl
  | some sl =>
    obtain ⟨code, tag⟩ := sl
    obtain hcode | hcode | hcode := hcodes _ hslot
    all_goals
      obtain rfl := hcode
      rfl

/-- RESET_BRANCH with its slot empty again: the whole next state. -/
theorem resetBranch_answers {tag : Byte} {ops : Operands} {branch : Transmission} {r : Receiver} {rate : RateCode}
    {low : Option Nat} {s : State} (hrun : s.power = .running) (hport : s.trunk.port.capturesCommand = true)
    (h : SlotInv s) (hcodes : ∀ sl ∈ s.agent.slot, sl.code = 0x15#8 ∨ sl.code = 0x50#8 ∨ sl.code = 0x51#8)
    (hheard : s.hearFrameCut branch =
      { s with link := { s.link with receiver := r, receiverRate := rate, outsideLow := low } }) :
    RecordAnswers 0x42#8 tag ops (fun heard => .resetBranch tag heard branch) s
      (executed 0x42#8 tag .done (endedData s.agent.slot)
        (((s.branchCleared r rate low).withSlot none s.agent.result).resumed.takeOffered)) := by
  obtain ⟨res, hreset, hdata⟩ := State.resetBranch_receiveRecord h hcodes r rate low
  have howner : (((s.receiveRecord).hearFrameCut branch).resetBranch.takeOffered,
        ({ outcome := .done
           data := endedCommand s.receiveRecord.agent.slot ((s.receiveRecord).hearFrameCut branch).resetBranch } :
          Answer)) =
      (((((s.branchCleared r rate low).withSlot none s.agent.result).resumed.takeOffered).receiveRecord).withSlot none res,
        { outcome := .done, data := endedData s.agent.slot }) := by
    have hslot : s.receiveRecord.agent.slot = s.agent.slot := rfl
    have hagain : ∀ u : State, ((u.withSlot none s.agent.result).receiveRecord).withSlot none res =
        u.receiveRecord.withSlot none res := fun _ => rfl
    rw [State.hearFrameCut_receiveRecord, hheard, hreset, hslot, hdata, State.takeOffered_withSlot,
      State.resumed_receiveRecord, State.takeOffered_receiveRecord, State.resumed_withSlot, State.takeOffered_withSlot,
      hagain]
  have hfree : (((s.branchCleared r rate low).withSlot none s.agent.result).resumed.takeOffered).agent.slot = none := by
    rw [State.resumed_withSlot, State.takeOffered_withSlot]
    rfl
  rw [← State.recordAnswer_withSlot (a := { outcome := .done, data := endedData s.agent.slot }) nofun res hfree]
  exact recordAnswers_of_taken hrun hport (State.not_refuses_resetBranch hcodes) (exec_resetBranch tag ops branch) howner

end Sys2Proof.Machine

/-! PROOFS. What RESET_BRANCH leaves, clause by clause (O48). -/

namespace Sys2Proof.Machine

/-! ## The resumed state -/

section
variable {p : State}

theorem State.resumed_uncommitted (h : p.route.commitPending = false) : p.resumed = p.reOffer :=
  if_neg (Bool.eq_false_iff.1 h)

theorem State.resumed_committed (h : p.route.commitPending = true) : p.resumed = p.reOffer.applyCommit :=
  if_pos h

theorem State.resumed_link : p.resumed.link = p.link := by
  unfold State.resumed
  split
  · rw [State.applyCommit_link, State.reOffer_link]
  · rw [State.reOffer_link]

theorem State.resumed_agent : p.resumed.agent = p.reOffer.agent := by
  unfold State.resumed
  split
  · rw [State.applyCommit_agent]
  · rfl

theorem State.resumed_trunk_config : p.resumed.trunk = p.trunk ∧ p.resumed.config = p.config := by
  unfold State.resumed
  split
  · rw [State.applyCommit_trunk, State.applyCommit_config, State.reOffer_trunk, State.reOffer_config]
    exact ⟨rfl, rfl⟩
  · rw [State.reOffer_trunk, State.reOffer_config]
    exact ⟨rfl, rfl⟩

theorem State.resumed_store_but_records : { p.resumed.store with records := p.store.records } = p.store := by
  unfold State.resumed
  split <;> simp

section
variable (hidle : p.link.state = .idle) (hqueue : p.sched.queue = []) (hdeferred : p.sched.deferred = [])
include hidle hqueue hdeferred

theorem State.reOffer_retriesOnly : p.reOffer.sched.RetriesOnly := by
  rw [State.reOffer_eq_reOffered hidle hqueue hdeferred]
  exact State.reOffered_retriesOnly p.owed p

theorem State.resumed_retriesOnly : p.resumed.sched.RetriesOnly := by
  have hoffered := State.reOffer_retriesOnly hidle hqueue hdeferred
  unfold State.resumed
  split
  · exact State.applyCommit_retriesOnly hoffered
  · exact hoffered

/-- The re-offer and the commit keep the timebase; the commit alone moves countdowns. -/
theorem State.resumed_timebase :
    p.resumed.sched.order = p.sched.order ∧ p.resumed.sched.tickCount = p.sched.tickCount ∧
      p.resumed.sched.tickPeriod = p.sched.tickPeriod ∧ p.resumed.sched.runningPeriod = p.sched.runningPeriod := by
  unfold State.resumed
  rw [State.reOffer_eq_reOffered hidle hqueue hdeferred]
  split
  · rw [State.applyCommit_sched_order, State.applyCommit_sched_tickCount, State.applyCommit_sched_tickPeriod,
      State.applyCommit_sched_runningPeriod]
    exact ⟨rfl, rfl, rfl, rfl⟩
  · exact ⟨rfl, rfl, rfl, rfl⟩

theorem State.reOffer_countdowns : p.reOffer.sched.countdowns = p.sched.countdowns := by
  rw [State.reOffer_eq_reOffered hidle hqueue hdeferred]
  rfl

theorem State.resumed_agent_eq :
    p.resumed.agent =
      { p.agent with
        flags := if 16 < p.owed.length then p.agent.flags ||| 0x0020#16 else p.agent.flags } := by
  rw [State.resumed_agent, State.reOffer_eq_reOffered hidle hqueue hdeferred]
  rfl

/-- Every publication still owed after the commit has been offered again. -/
theorem State.resumed_holds {i : EntryIndex} (hpending : (p.resumed.record i).pending = true)
    (hpublish : (p.resumed.activeEntry i).takesPublish = true) : p.resumed.sched.Holds i := by
  have hroute := State.reOffer_route p
  have hheld : (p.activeEntry i).takesPublish = true → (p.record i).pending = true → p.reOffer.sched.Holds i :=
    fun htakes howes => by
      rw [State.reOffer_eq_reOffered hidle hqueue hdeferred]
      exact State.reOffered_holds (State.mem_owed.2 ⟨htakes, howes⟩) p
  have hrecord : p.reOffer.record i = p.record i := State.record_congr (State.reOffer_store p) i
  cases hcommit : p.route.commitPending with
  | false =>
    rw [State.resumed_uncommitted hcommit] at hpending hpublish ⊢
    rw [hrecord] at hpending
    rw [State.activeEntry_congr hroute] at hpublish
    exact hheld hpublish hpending
  | true =>
    rw [State.resumed_committed hcommit] at hpending hpublish ⊢
    have hactive : p.reOffer.applyCommit.activeEntry i = p.route.editContents.entry i := by
      rw [State.activeEntry, State.applyCommit_route_eq, RouteTable.swapped_activeContents, hroute]
    rw [hactive] at hpublish
    rw [State.applyCommit_record, hroute, hrecord] at hpending
    split at hpending
    next hsame =>
      obtain ⟨hvalid, -, -, hkind, -⟩ := id hsame
      have hbefore : (p.activeEntry i).takesPublish = true := by
        rw [Entry.takesPublish, ← hvalid, ← hkind] at hpublish
        exact hpublish
      refine State.applyCommit_holds (hheld hbefore hpending) (State.reOffer_retriesOnly hidle hqueue hdeferred) ?_ ?_
      · rw [hroute]
        exact hsame
      · rw [hroute]
        exact hpublish
    next => cases hpending

end

/-! ## Behind the taking of the item -/

theorem State.takeOffered_link (s : State) : s.takeOffered.link = { s.link with state := s.takeOffered.link.state } := by
  unfold State.takeOffered
  split
  · split <;> rfl
  · rfl

/-- A record executed on the resumed state with its item taken: part by part, but for the agent. -/
theorem executed_resumed_parts (code tag : Byte) (o : CommandOutcome) (data : List Byte) (p : State) :
    (executed code tag o data p.resumed.takeOffered).route = p.resumed.route ∧
      (executed code tag o data p.resumed.takeOffered).store = p.resumed.store ∧
      (executed code tag o data p.resumed.takeOffered).sched = p.resumed.takeOffered.sched ∧
      (executed code tag o data p.resumed.takeOffered).link = p.resumed.takeOffered.link ∧
      (executed code tag o data p.resumed.takeOffered).trunk = { p.trunk with port := .passive } ∧
      (executed code tag o data p.resumed.takeOffered).config = p.config := by
  obtain ⟨htrunk, hconfig⟩ := State.resumed_trunk_config (p := p)
  rw [← State.takeOffered_route p.resumed, ← State.takeOffered_store p.resumed, ← hconfig, ← htrunk,
    ← State.takeOffered_config p.resumed, ← State.takeOffered_trunk p.resumed]
  exact ⟨rfl, rfl, rfl, rfl, rfl, rfl⟩

theorem executed_resumed_agent {code tag : Byte} {o : CommandOutcome} {data : List Byte} (hidle : p.link.state = .idle)
    (hqueue : p.sched.queue = []) (hdeferred : p.sched.deferred = []) :
    (executed code tag o data p.resumed.takeOffered).agent =
      { (executed code tag o data p).agent with
        flags := if 16 < p.owed.length then p.agent.flags ||| 0x0020#16 else p.agent.flags } := by
  rw [executed, executed, State.takeOffered_agent, State.resumed_agent_eq hidle hqueue hdeferred]

end

/-! ## The state of RESET_BRANCH before the re-offer -/

section
variable (r : Receiver) (rate : RateCode) (low : Option Nat) (s : State)

/-- The state after the segment reset, with the slot freed (R122). -/
def State.branchReset : State :=
  (s.branchCleared r rate low).withSlot none s.agent.result

theorem State.branchReset_route : (s.branchReset r rate low).route = s.route := by
  simp only [State.branchReset, State.branchCleared, State.withSlot, State.mapAgent]

theorem State.branchReset_sched :
    (s.branchReset r rate low).sched = { s.sched with queue := [], deferred := [] } := by
  simp only [State.branchReset, State.branchCleared, State.withSlot, State.mapAgent]

theorem State.branchReset_agent : (s.branchReset r rate low).agent = { s.agent with slot := none } := by
  simp only [State.branchReset, State.branchCleared, State.withSlot, State.mapAgent]

theorem State.branchReset_trunk : (s.branchReset r rate low).trunk = s.trunk := by
  simp only [State.branchReset, State.branchCleared, State.withSlot, State.mapAgent]

theorem State.branchReset_config : (s.branchReset r rate low).config = s.config := by
  simp only [State.branchReset, State.branchCleared, State.withSlot, State.mapAgent]

/-- The staging buffer and the read pointers stay. -/
theorem State.branchReset_store : { (s.branchReset r rate low).store with records := s.store.records } = s.store := by
  simp only [State.branchReset, State.branchCleared, State.withSlot, State.mapAgent]

theorem State.branchReset_link_state : (s.branchReset r rate low).link.state = .idle := by
  simp only [State.branchReset, State.branchCleared, State.withSlot, State.mapAgent]

theorem State.branchReset_queue :
    (s.branchReset r rate low).sched.queue = [] ∧ (s.branchReset r rate low).sched.deferred = [] := by
  rw [State.branchReset_sched]
  exact ⟨rfl, rfl⟩

theorem State.branchReset_countdown (i : EntryIndex) : (s.branchReset r rate low).countdown i = s.countdown i := by
  rw [State.countdown, State.branchReset_sched]
  rfl

theorem State.branchReset_activeEntry (i : EntryIndex) : (s.branchReset r rate low).activeEntry i = s.activeEntry i :=
  State.activeEntry_congr (State.branchReset_route r rate low s) i

theorem State.branchReset_record (i : EntryIndex) :
    (s.branchReset r rate low).record i = { s.record i with fails := 0#4, silent := false } := by
  simp only [State.record, State.branchReset, State.branchCleared, State.withSlot, State.mapAgent, Vector.get_eq_getElem,
    Vector.getElem_ofFn]

theorem State.branchReset_owed :
    (s.branchReset r rate low).owed =
      (List.finRange 64).filter fun i => (s.activeEntry i).takesPublish && (s.record i).pending := by
  refine List.filter_congr fun i _ => ?_
  rw [State.branchReset_record, State.branchReset_activeEntry]

theorem State.branchReset_reOffer_countdowns :
    (s.branchReset r rate low).reOffer.sched.countdowns = s.sched.countdowns := by
  obtain ⟨hqueue, hdeferred⟩ := s.branchReset_queue r rate low
  rw [State.reOffer_countdowns (s.branchReset_link_state r rate low) hqueue hdeferred, State.branchReset_sched]

/-- The table, the records and the countdowns behind the re-offer and the commit of a segment reset. -/
theorem State.branchReset_uncommitted (h : s.route.commitPending = false) :
    (s.branchReset r rate low).resumed.route = s.route ∧
      (s.branchReset r rate low).resumed.store = (s.branchReset r rate low).store ∧
      (s.branchReset r rate low).resumed.sched.countdowns = s.sched.countdowns := by
  have hcommit : (s.branchReset r rate low).route.commitPending = false := by rw [State.branchReset_route, h]
  rw [State.resumed_uncommitted hcommit, State.reOffer_route, State.reOffer_store, State.branchReset_reOffer_countdowns,
    State.branchReset_route]
  exact ⟨rfl, rfl, rfl⟩

theorem State.branchReset_committed (h : s.route.commitPending = true) :
    (s.branchReset r rate low).resumed.route = s.route.swapped ∧ ∀ i,
      (s.branchReset r rate low).resumed.record i =
          (if SameIdentity (s.route.activeContents.entry i) (s.route.editContents.entry i) then
            { s.record i with fails := 0#4, silent := false }
          else emptyRecordOf (s.record i)) ∧
        (s.branchReset r rate low).resumed.countdown i =
          countdownAtCommit (s.route.activeContents.entry i) (s.route.editContents.entry i) (s.countdown i) := by
  have hcommit : (s.branchReset r rate low).route.commitPending = true := by rw [State.branchReset_route, h]
  have hroute : (s.branchReset r rate low).reOffer.route = s.route := by
    rw [State.reOffer_route, State.branchReset_route]
  have hrecord : ∀ i, (s.branchReset r rate low).reOffer.record i = { s.record i with fails := 0#4, silent := false } :=
    fun i => (State.record_congr (State.reOffer_store _) i).trans (s.branchReset_record r rate low i)
  have hcountdown : ∀ i, (s.branchReset r rate low).reOffer.countdown i = s.countdown i := fun i => by
    rw [State.countdown, State.branchReset_reOffer_countdowns]
    rfl
  rw [State.resumed_committed hcommit]
  refine ⟨by rw [State.applyCommit_route_eq, hroute], fun i => ⟨?_, ?_⟩⟩
  · rw [State.applyCommit_record, hroute, hrecord]
    rfl
  · rw [State.applyCommit_countdown, hroute, hcountdown]

end

/-- Settles O48: the segment reset, then the re-offer, the commit and the item taken. -/
theorem resetBranchReturnsLink : Obligations.ResetBranchReturnsLink := by
  intro tag ops branch r rate low s p t hrun hport hinv hcodes hline hp ht
  have hreset : p = s.branchReset r rate low := by
    rw [hp]
    simp only [State.branchReset, State.branchCleared, State.withSlot, State.mapAgent]
    exact rfl
  have hcommit : p.route.commitPending = s.route.commitPending := by rw [hreset, State.branchReset_route]
  have hexecuted : t = executed 0x42#8 tag .done (endedData s.agent.slot) p.resumed.takeOffered := by
    rw [ht, State.resumed, hcommit]
    exact congrArg (fun d => executed 0x42#8 tag .done d _) (by unfold endedData; rfl)
  have hanswers : RecordAnswers 0x42#8 tag ops (fun heard => .resetBranch tag heard branch) s t := by
    rw [hexecuted, hreset]
    exact resetBranch_answers hrun hport hinv hcodes (State.hearFrameCut_eq hline)
  obtain ⟨hqueue, hdeferred⟩ : p.sched.queue = [] ∧ p.sched.deferred = [] := by
    rw [hreset]
    exact s.branchReset_queue r rate low
  have hidle : p.link.state = .idle := by rw [hreset, State.branchReset_link_state]
  have hresumed : p.resumed.link.state = .idle := by rw [State.resumed_link, hidle]
  have hretries := State.resumed_retriesOnly hidle hqueue hdeferred
  obtain ⟨hroute, hstore, hsched, hlink, htrunk, hconfig⟩ :=
    executed_resumed_parts 0x42#8 tag .done (endedData s.agent.slot) p
  rw [← hexecuted] at hroute hstore hsched hlink htrunk hconfig
  have hcountdowns : t.sched.countdowns = p.resumed.sched.countdowns := by
    rw [hsched, State.takeOffered_sched_countdowns]
  have hagent : t.agent =
      { (executed 0x42#8 tag .done (endedData s.agent.slot) s).agent with
        slot := none
        flags := if 16 < p.owed.length then s.agent.flags ||| 0x0020#16 else s.agent.flags } := by
    rw [hexecuted, executed_resumed_agent hidle hqueue hdeferred, hreset, State.branchReset_agent]
    rfl
  obtain ⟨horder, htick, hperiod, hrunning⟩ := State.resumed_timebase hidle hqueue hdeferred
  refine ⟨hanswers, ?state, fun i hpending htakes => ?owed, fun h => ?uncommitted, ?committed, ?store, ?trunk, ?unit,
    ?counters, ?slot, ?config, ?link, ?order, ?tick, ?period, ?running, ?flags⟩
  case state =>
    rw [hlink, hsched]
    exact State.takeOffered_publishes hresumed hretries
  case owed =>
    rw [State.record_congr hstore] at hpending
    rw [State.activeEntry_congr hroute] at htakes
    rw [hlink, hsched]
    exact State.takeOffered_holds hresumed hretries (State.resumed_holds hidle hqueue hdeferred hpending htakes)
  case uncommitted =>
    rw [hroute, hstore, hcountdowns, hreset]
    exact s.branchReset_uncommitted r rate low h
  case committed =>
    rintro old new h rfl rfl
    obtain ⟨hswapped, hentries⟩ := s.branchReset_committed r rate low h
    rw [hroute, hreset]
    refine ⟨hswapped, fun i => ?_⟩
    obtain ⟨hrecord, hcountdown⟩ := hentries i
    rw [State.record_congr hstore, State.countdown, hcountdowns, hreset]
    exact ⟨hrecord, hcountdown⟩
  case store =>
    rw [hstore]
    refine (congrArg (fun st : RecordStore => { st with records := s.store.records })
      (State.resumed_store_but_records (p := p))).trans ?_
    rw [hreset, State.branchReset_store]
  case trunk => rw [htrunk, hreset, State.branchReset_trunk]
  case unit => rw [hagent, executed]
  case counters => rw [hagent, executed]
  case slot => rw [hagent]
  case config => rw [hconfig, hreset, State.branchReset_config]
  case link => rw [hlink, State.takeOffered_link, State.resumed_link]
  case order => rw [hsched, State.takeOffered_sched_order, horder, hreset, State.branchReset_sched]
  case tick => rw [hsched, State.takeOffered_sched_tickCount, htick, hreset, State.branchReset_sched]
  case period => rw [hsched, State.takeOffered_sched_tickPeriod, hperiod, hreset, State.branchReset_sched]
  case running => rw [hsched, State.takeOffered_sched_runningPeriod, hrunning, hreset, State.branchReset_sched]
  case flags => rw [hagent, hreset, State.branchReset_owed]

end Sys2Proof.Machine
